-- ==== Sys2Proof/Word.lean ====
section
/-! DEFINITION. The words and numbers of the FE-8, and the two containers of a fixed number of like
things (eight feeders, nine streams, four districts) with their plainest operations. -/

namespace Sys2Proof

/-- One byte of a frame (R196). -/
abbrev Byte := BitVec 8

/-- A ring address, 0 to 63, as six bits of a header byte hold it (R196). -/
abbrev RingAddr := BitVec 6

/-- A sample number, 0 to 65535; differences wrap (00_scope.md, "Sample numbers and cycles"). -/
abbrev SampleNo := BitVec 16

/-- A cycle number, 0 to 2047. -/
abbrev CycleNo := BitVec 11

/-- An order number, 0 to 255 (R87). -/
abbrev OrderNo := BitVec 8

/-- A day number, 0 to 65535 (R150). -/
abbrev Day := BitVec 16

/-- A feeder slot, 0 to 7. -/
abbrev Slot := Fin 8

/-- A stream role: 0 to 7 the feeder slots, 8 the bus (R5). -/
abbrev Role := Fin 9

/-- A fire-danger district, 0 to 3. -/
abbrev District := Fin 4

/-- A setting group of one feeder, G0 to G3. -/
abbrev GroupNo := Fin 4

/-- The bus stream's role (R5). -/
def busRole : Role := 8

/-- The stream role of a feeder slot. -/
def Slot.role (f : Slot) : Role := ⟨f.val, by omega⟩

/-- The feeder slots in feeder-slot order, lowest first. -/
def allSlots : List Slot := [0, 1, 2, 3, 4, 5, 6, 7]

/-- The stream roles in order. -/
def allRoles : List Role := [0, 1, 2, 3, 4, 5, 6, 7, 8]

/-- The districts in district order. -/
def allDistricts : List District := [0, 1, 2, 3]

/-- `v` with its `i`-th entry replaced. -/
def upd {α : Type} {n : Nat} (v : Vector α n) (i : Fin n) (x : α) : Vector α n :=
  v.set i.val x i.isLt

/-- Every entry of `v` through `g`. -/
def mapV {α β : Type} {n : Nat} (g : α → β) (v : Vector α n) : Vector β n :=
  ⟨⟨v.toList.map g⟩, by simp⟩

end Sys2Proof
end

