-- ==== Sys2Proof/Syntax.lean ====
section
/-! DEFINITION. The commands of the FE-8: one constructor for each row of spec/opcode_table.json. -/

namespace Sys2Proof

/-- A frame as it came in at the IN port: the bytes received, header first (R196), and whether a break
in the incoming light cut it short (R171). -/
structure RxFrame where
  bytes    : List Byte
  cutShort : Bool
  deriving DecidableEq, Repr

/-- The commands, in the table's order. A row that executes a request has no operand: its operands are
the payload of the REQUEST frame at the head of the request FIFO (R183). -/
inductive Instr where
  /-- R191: the supplies come within range; the address straps read `straps`. -/
  | powerOn (straps : RingAddr)
  /-- R150: a 1 ms local tick. -/
  | localTick
  /-- R150: the tick left ms at a multiple of 60,000. -/
  | minuteBoundary
  /-- R156: the tick took ms past 86,399,999. -/
  | dayChange
  /-- R4: a SAMPLE frame is received. -/
  | sample (frame : RxFrame)
  /-- R80: a STATE frame is received. -/
  | state (frame : RxFrame)
  /-- R151: a broadcast TIME frame is received. -/
  | time (frame : RxFrame)
  /-- R172: a REQUEST frame is received. -/
  | request (frame : RxFrame)
  /-- R171: any other frame is received. -/
  | frameReceived (frame : RxFrame)
  /-- R177: the frame being sent at the OUT port ends. -/
  | frameEnd
  /-- R15: the supervision timer of a stream has reached 0. -/
  | supervisionTimerExpiry (role : Role)
  /-- R84: the STATE supervision timer of a feeder has reached 0. -/
  | stateSupervisionExpiry (slot : Slot)
  /-- R97: the echo watch of a feeder's SENT order has reached 0. -/
  | echoWatchExpiry (slot : Slot)
  /-- R96: the confirm timer of a feeder's SENT order has reached 0. -/
  | confirmTimerExpiry (slot : Slot)
  /-- R111: the dead timer of a feeder has reached 0. -/
  | deadTimerExpiry (slot : Slot)
  /-- R113: the reclaim timer of a feeder has reached 0. -/
  | reclaimTimerExpiry (slot : Slot)
  /-- R141: the elapsed ticks of the hunt have reached the hunt limit. -/
  | huntLimitExpiry
  /-- R184 -/
  | read
  /-- R185 -/
  | write
  /-- R186 -/
  | status
  /-- R33 -/
  | snapshot
  /-- R187 -/
  | operate
  /-- R105 -/
  | block
  /-- R105 -/
  | unblock
  /-- R119 -/
  | resetLockout
  /-- R85 -/
  | resetSwitch
  /-- R157 -/
  | override
  /-- R146 -/
  | startHunt
  /-- R146 -/
  | abortHunt
  /-- R192 -/
  | enterService
  /-- R193 -/
  | leaveService
  /-- R194 -/
  | restart
  /-- R183 -/
  | unknownRequestKind
  deriving DecidableEq, Repr

end Sys2Proof
end

