-- ==== Sys2Proof/Decode.lean ====
section
/-! DEFINITION. The table gives no row any bits (spec/98_reader.md: n_rows_with_fixed 0), so no word
spells a command. The bytes of frames and requests are decoded in Machine/Operands.lean. -/

namespace Sys2Proof

/-- The command that the table's bits of a word spell: none, for no row of the table has bits. -/
def decodeTableWord (_nbits _w : Nat) : Option Instr := none

end Sys2Proof
end

