-- ==== Sys2Proof/Config.lean ====
section
/-! DEFINITION. What an installation fixes, and the free values of the model. -/

namespace Sys2Proof

/-- The six address straps of the installation that `State.reset` describes (R170). The manual gives
no value: the straps are set on the board. DESIGN CHOICE (log entry 1); `POWER_ON` takes any straps. -/
def Config.resetStraps : RingAddr := 1

/-- FREE VALUE (log entry 13). The four bytes of the step field of a CLOCK_SET notice whose step does
not fit a signed number of four bytes. R151 gives the notice the step, and R197 gives no number more
than four bytes, so the manual states no encoding for it. -/
opaque Config.clockStepBytes : Int → BitVec 32

end Sys2Proof
end

