-- ==== Sys2Proof/Machine/State.lean ====
section
/-! DEFINITION. The state of the FE-8, block by block as 00_scope.md names the blocks, and its value
after power-on. -/

namespace Sys2Proof.Machine

/-! ## Common names -/

/-- The three modes (00_scope.md, "Severity of modes"). -/
inductive Mode where
  | normal | season | ban
  deriving DecidableEq, Repr

/-- A time of day: a day number and milliseconds within the day. -/
structure Tod where
  day : Day
  ms  : Nat
  deriving DecidableEq, Repr

/-- A set of the five elements (R65). -/
structure ElementSet where
  phHs : Bool
  phIt : Bool
  efHs : Bool
  efIt : Bool
  sef  : Bool
  deriving DecidableEq, Repr

/-- The eight block reasons (R103). -/
inductive Reason where
  | fire | tag | local | stream | switch | hunt | earth | operator
  deriving DecidableEq, Repr

/-- A block-reason set: which of the eight reasons a feeder holds (R103). -/
structure ReasonSet where
  fire     : Bool
  tag      : Bool
  loc      : Bool
  stream   : Bool
  switch   : Bool
  hunt     : Bool
  earth    : Bool
  operator : Bool
  deriving DecidableEq, Repr

/-- A set of feeder slots. -/
abbrev SlotSet := Vector Bool 8

/-! ## SIU: streams (Chapter 1) -/

/-- R5. -/
inductive StreamState where
  | absent | filling | locked | patched | lost
  deriving DecidableEq, Repr

/-- One stream record (R5). -/
structure StreamRecord where
  address     : RingAddr
  state       : StreamState
  lastSample  : SampleNo
  /-- Samples taken in FILLING; 0 in every other state. -/
  consecutive : Nat
  /-- Accepted samples still to come in PATCHED; 0 in every other state. -/
  patch       : Nat
  /-- The supervision timer in local ticks; `none` is stopped. -/
  supervision : Option Nat
  /-- The latch-low flag dropped-since-read: `true` is high (R18). -/
  notDropped  : Bool
  gaps        : Nat
  duplicates  : Nat
  resyncs     : Nat
  deriving DecidableEq, Repr

/-- Stream Intake (R1, R3, R4, R5). -/
structure Siu where
  staged    : Vector RingAddr 17
  active    : Vector RingAddr 17
  activated : Bool
  foreign   : Nat
  streams   : Vector StreamRecord 9
  deriving DecidableEq, Repr

/-! ## PHE: windows and cycle results (Chapter 2) -/

/-- One slot of a channel's window (R19). -/
structure WindowSlot where
  value     : BitVec 16
  overrange : Bool
  filled    : Bool
  occupied  : Bool
  deriving DecidableEq, Repr

/-- A stream's window: four channels of 32 slots, and the stored count (R19). -/
structure Window where
  channels : Vector (Vector WindowSlot 32) 4
  stored   : Nat
  deriving DecidableEq, Repr

/-- A phasor, in peak counts (R23). -/
structure Phasor where
  re : Int
  im : Int
  deriving DecidableEq, Repr

/-- The fundamental of one channel (R23, R25, R26). -/
structure ChannelResult where
  phasor    : Phasor
  magnitude : Nat
  overrange : Bool
  deriving DecidableEq, Repr

/-- The second harmonic of one phase channel (R24, R25). -/
structure Harmonic where
  phasor    : Phasor
  magnitude : Nat
  deriving DecidableEq, Repr

/-- A cycle result (R28); a bus result has no second harmonic. -/
structure CycleResult where
  cycle    : CycleNo
  channels : Vector ChannelResult 4
  second   : Option (Vector Harmonic 3)
  patched  : Bool
  deriving DecidableEq, Repr

/-- What PHE keeps of one stream (R19, R29). The present phasors are kept for feeder streams. -/
structure PheStream where
  window  : Window
  present : Option (Vector ChannelResult 4)
  /-- Newest first, at most four. -/
  results : List CycleResult
  deriving DecidableEq, Repr

/-- The Phasor Engine. -/
structure Phe where
  streams : Vector PheStream 9
  deriving DecidableEq, Repr

/-! ## RCS names used by the trip record -/

/-- R100. -/
inductive SeqState where
  | ready | opening | dead | closing | reclaim | lockout
  deriving DecidableEq, Repr

/-! ## ELU: elements (Chapter 3) -/

/-- The state of a definite-time element (R37). -/
structure DefiniteState where
  pickup   : Bool
  operated : Bool
  acted    : Bool
  count    : Nat
  deriving DecidableEq, Repr

/-- The state of an inverse-time element (R37). -/
structure InverseState where
  pickup   : Bool
  operated : Bool
  acted    : Bool
  acc      : Nat
  deriving DecidableEq, Repr

/-- A feeder's element state record (R37). -/
structure ElementState where
  phHs      : DefiniteState
  phIt      : InverseState
  efHs      : DefiniteState
  efIt      : InverseState
  sef       : DefiniteState
  restraint : Bool
  deriving DecidableEq, Repr

/-- A feeder's trip record (R58). -/
structure TripRecord where
  isPresent   : Bool
  tripping    : ElementSet
  operated    : ElementSet
  initiating  : Bool
  alreadyOpen : Bool
  magnitudes  : Vector Nat 4
  overranges  : Vector Bool 4
  restraint   : Bool
  sampleNo    : SampleNo
  filled      : Bool
  group       : GroupNo
  seq         : SeqState
  shot        : Nat
  tod         : Option Tod
  deriving DecidableEq, Repr

/-- The Element Unit. -/
structure Elu where
  elements : Vector ElementState 8
  trips    : Vector TripRecord 8
  deriving DecidableEq, Repr

/-! ## GST: settings (Chapter 4) -/

/-- One point of a curve (R62). -/
structure CurvePoint where
  m    : Nat
  rate : Nat
  deriving DecidableEq, Repr

/-- A curve entry: positions beyond the point count hold 0 (R62). -/
structure Curve where
  count  : Nat
  points : Vector CurvePoint 16
  deriving DecidableEq, Repr

/-- Threshold and delay of a definite-time element (R65). -/
structure DefiniteSetting where
  threshold : Nat
  delay     : Nat
  deriving DecidableEq, Repr

/-- The settings of an inverse-time element (R65). `resetMode` is the stored byte: 0 INSTANT, 1 LINEAR,
anything else makes the group invalid (R198). -/
structure InverseSetting where
  pickup    : Nat
  curve     : Nat
  dial      : Nat
  resetMode : Nat
  resetRate : Nat
  deriving DecidableEq, Repr

/-- One shot record (R65). -/
structure ShotRecord where
  deadTime : Nat
  live     : ElementSet
  deriving DecidableEq, Repr

/-- A group record (R65), stored as written. `efTripRecloses` is the stored byte: 0 no, 1 yes. -/
structure GroupRecord where
  phHs           : DefiniteSetting
  phIt           : InverseSetting
  efHs           : DefiniteSetting
  efIt           : InverseSetting
  sef            : DefiniteSetting
  inrush         : Nat
  initiate       : ElementSet
  maxShots       : Nat
  shot0Live      : ElementSet
  shots          : Vector ShotRecord 4
  reclaimTime    : Nat
  efTripRecloses : Nat
  deriving DecidableEq, Repr

/-- A feeder record (R68); the mode map is indexed NORMAL, SEASON, BAN. -/
structure FeederRecord where
  inService    : Bool
  district     : District
  modeMap      : Vector GroupNo 3
  confirmLimit : Nat
  failLimit    : Nat
  deriving DecidableEq, Repr

/-- The Group Store (R61, R72). -/
structure Gst where
  curves        : Vector Curve 8
  groups        : Vector GroupRecord 32
  feeders       : Vector FeederRecord 8
  activeGroup   : Vector (Option GroupNo) 8
  pendingGroup  : Vector (Option GroupNo) 8
  deriving DecidableEq, Repr

/-- How a group was applied (R76). -/
inductive GroupWay where
  | atCompletion | atOnce | joining
  deriving DecidableEq, Repr

/-! ## ORU: switches and orders (Chapter 5) -/

/-- A position a STATE frame reports (R80). -/
inductive Reported where
  | opened | closed | between
  deriving DecidableEq, Repr

/-- A settled position (R79). -/
inductive Settled where
  | opened | closed
  deriving DecidableEq, Repr

/-- The position other blocks read (R81). -/
inductive Position where
  | opened | closed | between | unknown
  deriving DecidableEq, Repr

/-- R84. -/
inductive Health where
  | reachable | unreachable | failed
  deriving DecidableEq, Repr

/-- A feeder's switch record (R79). -/
structure SwitchRecord where
  reported     : Option Reported
  settled      : Option Settled
  position     : Position
  tag          : Bool
  loc          : Bool
  lastExecuted : OrderNo
  health       : Health
  supervision  : Option Nat
  failCount    : Nat
  deriving DecidableEq, Repr

/-- R87. -/
inductive OrderState where
  | idle | requested | sent
  deriving DecidableEq, Repr

/-- An order is an OPEN or a CLOSE. -/
inductive OrderKind where
  | open | close
  deriving DecidableEq, Repr

/-- The job on whose behalf an order was asked. -/
inductive Origin where
  | protection | reclose | earth | operator
  deriving DecidableEq, Repr

/-- A set of origins. -/
structure OriginSet where
  protection : Bool
  reclose    : Bool
  earth      : Bool
  operator   : Bool
  deriving DecidableEq, Repr

/-- A feeder's order record (R87). -/
structure OrderRecord where
  state      : OrderState
  kind       : OrderKind
  origin     : Origin
  joined     : OriginSet
  number     : OrderNo
  lastIssued : OrderNo
  echoWatch  : Option Nat
  confirm    : Option Nat
  deriving DecidableEq, Repr

/-- The Order Unit. -/
structure Oru where
  switches    : Vector SwitchRecord 8
  orders      : Vector OrderRecord 8
  echoMissing : Bool
  deriving DecidableEq, Repr

/-! ## RCS: sequencers (Chapter 6) -/

/-- R100. -/
inductive EndCause where
  | none | notInitiating | shots | blocked
  deriving DecidableEq, Repr

/-- R100. -/
inductive LockoutCause where
  | none | notInitiating | shots | blocked | order | unsolicited | operator | earth | service
  deriving DecidableEq, Repr

/-- A feeder's sequencer record (R100). -/
structure SeqRecord where
  state        : SeqState
  shot         : Nat
  endCause     : EndCause
  awaited      : Option OrderNo
  dead         : Option Nat
  reclaim      : Option Nat
  lockoutCause : LockoutCause
  reasons      : ReasonSet
  deriving DecidableEq, Repr

/-- The Reclose Sequencer. -/
structure Rcs where
  seqs : Vector SeqRecord 8
  deriving DecidableEq, Repr

/-! ## EFS: earth faults (Chapter 7) -/

/-- R123. -/
inductive PersistentAction where
  | alarm | busTrip
  deriving DecidableEq, Repr

/-- The per-mode fields of the earth settings (R123). -/
structure EarthModeSettings where
  autoHunt   : Bool
  persistent : PersistentAction
  huntLimit  : Nat
  tripDelay  : Nat
  deriving DecidableEq, Repr

/-- The earth settings record (R123); per-mode fields indexed NORMAL, SEASON, BAN. -/
structure EarthSettings where
  vNvd          : Nat
  confirmCycles : Nat
  windowCycles  : Nat
  voteThreshold : Nat
  wSet          : Nat
  observeCycles : Nat
  settleCycles  : Nat
  perMode       : Vector EarthModeSettings 3
  deriving DecidableEq, Repr

/-- R125. -/
inductive EfsState where
  | quiet | displaced | identifying | identified | unresolved | hunting | busTrip | persistent
  deriving DecidableEq, Repr

/-- R125. -/
inductive IdPhase where
  | delay | opening | observing
  deriving DecidableEq, Repr

/-- The EFS state record (R125). The bus trip list, a set of (feeder slot, order number) pairs with at
most one pair a feeder, is held by feeder. -/
structure EfsRecord where
  state       : EfsState
  countdown   : Option Nat
  windowFirst : Option CycleNo
  votes       : Vector Nat 8
  lastPaired  : Vector (Option CycleNo) 8
  candidates  : SlotSet
  identified  : Option Slot
  phase       : Option IdPhase
  delayCount  : Nat
  recloseMark : Bool
  awaited     : Option OrderNo
  busTripList : Vector (Option OrderNo) 8
  newestVn    : Nat
  vnDropped   : Bool
  episodeTod  : Option Tod
  deriving DecidableEq, Repr

/-- R126. -/
inductive EarthOutcome where
  | none | clearedSelf | trippedIdentified | foundByHunt | busTripped | persistent | aborted
  | unresolvedEnd
  deriving DecidableEq, Repr

/-- The earth-fault result record (R126). -/
structure EarthResult where
  outcome      : EarthOutcome
  feeder       : Option Slot
  detectionTod : Option Tod
  endTod       : Option Tod
  votes        : Vector Nat 8
  candidates   : SlotSet
  deriving DecidableEq, Repr

/-- R135. -/
inductive StepState where
  | opening | observing | restoring | settling
  deriving DecidableEq, Repr

/-- R135. -/
inductive HuntOrigin where
  | auto | manual
  deriving DecidableEq, Repr

/-- R135. -/
inductive AbortCause where
  | none | protection | limit | request | busStream | ban | service
  deriving DecidableEq, Repr

/-- The hunt record (R135). -/
structure HuntRecord where
  list       : List Slot
  stepIndex  : Nat
  underTest  : Option Slot
  step       : Option StepState
  countdown  : Option Nat
  order      : Option OrderNo
  elapsed    : Nat
  origin     : HuntOrigin
  abortCause : AbortCause
  deriving DecidableEq, Repr

/-- The Earth-Fault Supervisor. -/
structure Efs where
  settings  : EarthSettings
  huntOrder : List Slot
  record    : EfsRecord
  result    : EarthResult
  hunt      : HuntRecord
  deriving DecidableEq, Repr

/-! ## MDU: modes (Chapter 8) -/

/-- R152. -/
structure SeasonWindow where
  startDay  : Day
  endDay    : Day
  unsetMode : Mode
  deriving DecidableEq, Repr

/-- A declaration (R153); its level is SEASON or BAN. -/
structure Declaration where
  district    : District
  day         : Day
  startMinute : Nat
  endMinute   : Nat
  level       : Mode
  deriving DecidableEq, Repr

/-- A present override (R157). -/
structure Override where
  mode        : Mode
  untilDay    : Day
  untilMinute : Nat
  deriving DecidableEq, Repr

/-- R159. -/
inductive ModeSource where
  | override | unsetClock | declaration | seasonWindow | default
  deriving DecidableEq, Repr

/-- The Mode Unit (R150, R151, R152, R153, R157, R160). -/
structure Mdu where
  running      : Bool
  day          : Day
  ms           : Nat
  windows      : Vector SeasonWindow 4
  declarations : List Declaration
  overrides    : Vector (Option Override) 4
  modes        : Vector Mode 4
  sources      : Vector ModeSource 4
  busMode      : Mode
  invalidTime  : Nat
  deriving DecidableEq, Repr

/-! ## MGR: requests and notices (Chapter 10) -/

/-- A consumed REQUEST: its source and its payload (R172, R200). -/
structure Request where
  source  : RingAddr
  payload : List Byte
  deriving DecidableEq, Repr

/-- The result codes (R200). -/
inductive ResultCode where
  | ok | busy | state | badTable | badIndex | invalid | active | inUse | full | refused
  deriving DecidableEq, Repr

/-- R182. -/
inductive DeviceState where
  | configuring | inService
  deriving DecidableEq, Repr

/-- The kind of a notice with its detail fields, in the order the raising rule lists them (R188). -/
inductive NoticeBody where
  /-- R59 -/
  | trip (tripping : ElementSet) (group : GroupNo) (seq : SeqState) (shot : Nat)
      (initiating alreadyOpen : Bool)
  /-- R102 -/
  | lockout (left : SeqState) (shot : Nat) (cause : LockoutCause) (reasons : ReasonSet)
  /-- R96 -/
  | orderFail (kind : OrderKind) (origin : Origin) (joined : OriginSet) (number : Option OrderNo)
      (failCount : Nat) (health : Health)
  /-- R127 -/
  | efDetected (cycle : CycleNo) (vn : Nat) (overrange : Bool) (mode : Mode)
  /-- R126 -/
  | efResult (result : EarthResult)
  /-- R144 -/
  | busTrip (mode : Mode) (ordered : SlotSet) (began : EfsState)
  /-- R162 -/
  | modeChange (district : District) (left new : Mode) (source : ModeSource)
  /-- R76 -/
  | groupChange (left : Option GroupNo) (new : GroupNo) (way : GroupWay) (sampleNo : Option SampleNo)
  /-- R76; no pending group is the withdrawn mark -/
  | groupDeferred (active : GroupNo) (pending : Option GroupNo) (mode : Mode)
  /-- R17 -/
  | streamState (new left : StreamState)
  /-- R97 -/
  | ringEcho (kind : OrderKind) (number : OrderNo)
  /-- R136 -/
  | huntStep (index length : Nat) (origin : HuntOrigin) (started : Bool)
  /-- R151 -/
  | clockSet (old : Option Tod) (new : Tod) (step : Option Int)
  /-- R112 -/
  | reclosed (shot : Nat) (number : OrderNo) (group : Option GroupNo)
  deriving DecidableEq, Repr

/-- A notice record (10.6). Its kind and priority are those of its body. -/
structure Notice where
  slot     : Option Slot
  tod      : Option Tod
  sampleNo : Option SampleNo
  body     : NoticeBody
  deriving DecidableEq, Repr

/-- A REPLY waiting in the reply list (R176, R200). -/
structure Reply where
  destination : RingAddr
  kind        : Byte
  tag         : Byte
  code        : ResultCode
  content     : List Byte
  deriving DecidableEq, Repr

/-- The Management Responder (R182). The notice queue is held in order of joining, oldest first. -/
structure Mgr where
  fifo        : List Request
  overflow    : Nat
  device      : DeviceState
  notices     : List Notice
  dropped     : Nat
  destination : RingAddr
  sequence    : BitVec 8
  deriving DecidableEq, Repr

/-! ## RPT: the ring port (Chapter 9) -/

/-- The OUT port (R177); the frame being sent is held whole, as its bytes. -/
inductive OutPort where
  | idle
  | sending (frame : List Byte)
  deriving DecidableEq, Repr

/-- The Ring Port (R169). The forward buffer holds whole frames as received, oldest first. -/
structure Rpt where
  ownAddress   : RingAddr
  forward      : List (List Byte)
  replies      : List Reply
  out          : OutPort
  crcErrors    : Nat
  formatErrors : Nat
  overflows    : Nat
  overflowFlag : Bool
  deriving DecidableEq, Repr

/-! ## The whole machine -/

/-- What the last local tick left to be taken by its own row (log entries 4 and 20): a minute boundary,
a day change, an expired hunt limit. The MODEL's field. -/
structure Due where
  minute    : Bool
  day       : Bool
  huntLimit : Bool
  deriving DecidableEq, Repr

/-- The FE-8. `raised` holds the notices raised within the event now handled (log entry 25), and
`pending` the commands that wait, first in, first out; both are the MODEL's fields. -/
structure State where
  rpt     : Rpt
  siu     : Siu
  phe     : Phe
  elu     : Elu
  gst     : Gst
  oru     : Oru
  rcs     : Rcs
  efs     : Efs
  mdu     : Mdu
  mgr     : Mgr
  due     : Due
  raised  : List Notice
  pending : List Instr
  deriving DecidableEq, Repr

/-- No command of the FE-8 stops it: the manual gives the part no fault (INVENTORY.md, "Faults").
The type has no constructor, so nothing raises one. -/
inductive Fault where
  deriving DecidableEq, Repr

/-- The one reason a command has no meaning. -/
inductive Refusal where
  /-- Raised by an arm of `exec` whose row has no meaning yet; safe: nothing can be proved of it. No arm
  raises it now. -/
  | notModelled (mnemonic : String)
  deriving DecidableEq, Repr

/-! ## Power-on values -/

def ElementSet.empty : ElementSet := ⟨false, false, false, false, false⟩

def OriginSet.empty : OriginSet := ⟨false, false, false, false⟩

/-- R104: at power-on every feeder holds STREAM and no other reason. -/
def ReasonSet.powerOn : ReasonSet := ⟨false, false, false, true, false, false, false, false⟩

def SlotSet.empty : SlotSet := .replicate 8 false

/-- R5. -/
def StreamRecord.powerOn : StreamRecord where
  address := 0
  state := .absent
  lastSample := 0
  consecutive := 0
  patch := 0
  supervision := none
  notDropped := true
  gaps := 0
  duplicates := 0
  resyncs := 0

/-- R1, R3, R4, R5. -/
def Siu.powerOn : Siu where
  staged := .replicate 17 0
  active := .replicate 17 0
  activated := false
  foreign := 0
  streams := .replicate 9 .powerOn

/-- R19: unoccupied, value 0, flags clear. -/
def WindowSlot.empty : WindowSlot := ⟨0, false, false, false⟩

/-- R20: an emptied window. -/
def Window.empty : Window := ⟨.replicate 4 (.replicate 32 .empty), 0⟩

/-- R20: window, present phasors and list after an emptying. -/
def PheStream.empty : PheStream := ⟨.empty, none, []⟩

def Phe.powerOn : Phe := ⟨.replicate 9 .empty⟩

def DefiniteState.cleared : DefiniteState := ⟨false, false, false, 0⟩

def InverseState.cleared : InverseState := ⟨false, false, false, 0⟩

/-- The cleared values of R37. -/
def ElementState.cleared : ElementState where
  phHs := .cleared
  phIt := .cleared
  efHs := .cleared
  efIt := .cleared
  sef := .cleared
  restraint := false

/-- R58: present = no. The other fields are a DESIGN CHOICE (log entry 12). -/
def TripRecord.absent : TripRecord where
  isPresent := false
  tripping := .empty
  operated := .empty
  initiating := false
  alreadyOpen := false
  magnitudes := .replicate 4 0
  overranges := .replicate 4 false
  restraint := false
  sampleNo := 0
  filled := false
  group := 0
  seq := .ready
  shot := 0
  tod := none

def Elu.powerOn : Elu := ⟨.replicate 8 .cleared, .replicate 8 .absent⟩

/-- R62. -/
def Curve.powerOn : Curve := ⟨0, .replicate 16 ⟨0, 0⟩⟩

/-- R65. -/
def GroupRecord.powerOn : GroupRecord where
  phHs := ⟨0, 0⟩
  phIt := ⟨0, 0, 0, 0, 0⟩
  efHs := ⟨0, 0⟩
  efIt := ⟨0, 0, 0, 0, 0⟩
  sef := ⟨0, 0⟩
  inrush := 0
  initiate := .empty
  maxShots := 0
  shot0Live := .empty
  shots := .replicate 4 ⟨0, .empty⟩
  reclaimTime := 0
  efTripRecloses := 0

/-- R68. -/
def FeederRecord.powerOn : FeederRecord where
  inService := false
  district := 0
  modeMap := .replicate 3 0
  confirmLimit := 50
  failLimit := 3

/-- R62, R65, R68, R72. -/
def Gst.powerOn : Gst where
  curves := .replicate 8 .powerOn
  groups := .replicate 32 .powerOn
  feeders := .replicate 8 .powerOn
  activeGroup := .replicate 8 none
  pendingGroup := .replicate 8 none

/-- R79. -/
def SwitchRecord.powerOn : SwitchRecord where
  reported := none
  settled := none
  position := .unknown
  tag := false
  loc := false
  lastExecuted := 0
  health := .reachable
  supervision := none
  failCount := 0

/-- R87. -/
def OrderRecord.powerOn : OrderRecord where
  state := .idle
  kind := .open
  origin := .protection
  joined := .empty
  number := 0
  lastIssued := 255
  echoWatch := none
  confirm := none

def Oru.powerOn : Oru := ⟨.replicate 8 .powerOn, .replicate 8 .powerOn, false⟩

/-- R100, R104. -/
def SeqRecord.powerOn : SeqRecord where
  state := .ready
  shot := 0
  endCause := .none
  awaited := none
  dead := none
  reclaim := none
  lockoutCause := .none
  reasons := .powerOn

def Rcs.powerOn : Rcs := ⟨.replicate 8 .powerOn⟩

/-- R123. -/
def EarthSettings.powerOn : EarthSettings where
  vNvd := 46339
  confirmCycles := 50
  windowCycles := 25
  voteThreshold := 13
  wSet := 100
  observeCycles := 25
  settleCycles := 25
  perMode := .replicate 3 ⟨false, .alarm, 600, 65535⟩

/-- R125. -/
def EfsRecord.powerOn : EfsRecord where
  state := .quiet
  countdown := none
  windowFirst := none
  votes := .replicate 8 0
  lastPaired := .replicate 8 none
  candidates := .empty
  identified := none
  phase := none
  delayCount := 0
  recloseMark := false
  awaited := none
  busTripList := .replicate 8 none
  newestVn := 0
  vnDropped := true
  episodeTod := none

/-- R126. -/
def EarthResult.powerOn : EarthResult where
  outcome := .none
  feeder := none
  detectionTod := none
  endTod := none
  votes := .replicate 8 0
  candidates := .empty

/-- R135. -/
def HuntRecord.powerOn : HuntRecord where
  list := []
  stepIndex := 0
  underTest := none
  step := none
  countdown := none
  order := none
  elapsed := 0
  origin := .auto
  abortCause := .none

def Efs.powerOn : Efs where
  settings := .powerOn
  huntOrder := []
  record := .powerOn
  result := .powerOn
  hunt := .powerOn

/-- R150, R151, R152, R153, R157, R160. -/
def Mdu.powerOn : Mdu where
  running := false
  day := 0
  ms := 0
  windows := .replicate 4 ⟨1, 0, .season⟩
  declarations := []
  overrides := .replicate 4 none
  modes := .replicate 4 .season
  sources := .replicate 4 .unsetClock
  busMode := .normal
  invalidTime := 0

/-- R182. -/
def Mgr.powerOn : Mgr where
  fifo := []
  overflow := 0
  device := .configuring
  notices := []
  dropped := 0
  destination := 63
  sequence := 0

/-- R169, R170. -/
def Rpt.powerOn (straps : RingAddr) : Rpt where
  ownAddress := straps
  forward := []
  replies := []
  out := .idle
  crcErrors := 0
  formatErrors := 0
  overflows := 0
  overflowFlag := false

/-- R191: every block at its power-on values, the straps read, no command waiting. -/
def State.powerOn (straps : RingAddr) : State where
  rpt := .powerOn straps
  siu := .powerOn
  phe := .powerOn
  elu := .powerOn
  gst := .powerOn
  oru := .powerOn
  rcs := .powerOn
  efs := .powerOn
  mdu := .powerOn
  mgr := .powerOn
  due := ⟨false, false, false⟩
  raised := []
  pending := []

/-- The machine right after power-on (R191), its straps as `Config.resetStraps` names them (log entry
1). -/
def State.reset : State := State.powerOn Config.resetStraps

end Sys2Proof.Machine
end

