-- ==== Sys2Proof/Machine/Flags.lean ====
section
/-! DEFINITION. Comparisons, counters and the integer arithmetic the blocks share. -/

namespace Sys2Proof.Machine

/-- A counter that holds at 65535 (R4, R5, R169, R182). -/
def countUp (n : Nat) : Nat := if n < 65535 then n + 1 else 65535

/-- The fall of a running timer at a local tick: by 1, and a timer at 0 waits there for its expiry row
(log entry 3). A stopped timer stays stopped. -/
def fall (t : Option Nat) : Option Nat := t.map (· - 1)

/-- The drop-out comparison: the quantity is below 95 % of the threshold (00_scope.md, "Drop-out
comparison"). -/
def isDropped (quantity threshold : Nat) : Bool := decide (20 * quantity < 19 * threshold)

/-- `x` held within `lo` and `hi`. -/
def clamp (lo hi x : Int) : Int := max lo (min hi x)

/-- The powers of two that `isqrt` tries, highest first. -/
def sqrtBits : List Nat :=
  [32768, 16384, 8192, 4096, 2048, 1024, 512, 256, 128, 64, 32, 16, 8, 4, 2, 1]

/-- The integer square root floor(√n) of an `n` below 2^32 (R25), bit by bit from the top. -/
def isqrt (n : Nat) : Nat :=
  sqrtBits.foldl (fun r b => if (r + b) * (r + b) ≤ n then r + b else r) 0

/-- The larger of two modes in the order BAN above SEASON above NORMAL. -/
def Mode.worse : Mode → Mode → Mode
  | .ban, _ => .ban
  | _, .ban => .ban
  | .season, _ => .season
  | _, .season => .season
  | .normal, .normal => .normal

/-- The place of a mode in a table indexed NORMAL, SEASON, BAN. -/
def Mode.index : Mode → Fin 3
  | .normal => 0
  | .season => 1
  | .ban => 2

/-! ## Sets -/

def ReasonSet.has (r : ReasonSet) : Reason → Bool
  | .fire => r.fire
  | .tag => r.tag
  | .local => r.loc
  | .stream => r.stream
  | .switch => r.switch
  | .hunt => r.hunt
  | .earth => r.earth
  | .operator => r.operator

def ReasonSet.put (r : ReasonSet) (b : Bool) : Reason → ReasonSet
  | .fire => { r with fire := b }
  | .tag => { r with tag := b }
  | .local => { r with loc := b }
  | .stream => { r with stream := b }
  | .switch => { r with switch := b }
  | .hunt => { r with hunt := b }
  | .earth => { r with earth := b }
  | .operator => { r with operator := b }

/-- "The block set is empty": it holds no reason at all (R103). -/
def ReasonSet.isEmpty (r : ReasonSet) : Bool :=
  !(r.fire || r.tag || r.loc || r.stream || r.switch || r.hunt || r.earth || r.operator)

def ElementSet.full : ElementSet := ⟨true, true, true, true, true⟩

def ElementSet.inter (a b : ElementSet) : ElementSet :=
  ⟨a.phHs && b.phHs, a.phIt && b.phIt, a.efHs && b.efHs, a.efIt && b.efIt, a.sef && b.sef⟩

def ElementSet.diff (a b : ElementSet) : ElementSet :=
  ⟨a.phHs && !b.phHs, a.phIt && !b.phIt, a.efHs && !b.efHs, a.efIt && !b.efIt, a.sef && !b.sef⟩

def ElementSet.nonempty (a : ElementSet) : Bool := a.phHs || a.phIt || a.efHs || a.efIt || a.sef

def OriginSet.add (a : OriginSet) : Origin → OriginSet
  | .protection => { a with protection := true }
  | .reclose => { a with reclose := true }
  | .earth => { a with earth := true }
  | .operator => { a with operator := true }

end Sys2Proof.Machine
end

