-- ==== Sys2Proof/Machine/Operands.lean ====
section
/-! DEFINITION. The byte layouts of Chapter 11: numbers, enumerated values, frames, the writable and the
readable table entries, and the details of notices. -/

namespace Sys2Proof.Machine

/-! ## Numbers (R197) -/

/-- Byte `i` of a payload or entry; bytes past its end read as 0. -/
def byteAt (bs : List Byte) (i : Nat) : Byte := bs.getD i 0

def nat8At (bs : List Byte) (i : Nat) : Nat := (byteAt bs i).toNat

/-- Two bytes, most significant first. -/
def nat16At (bs : List Byte) (i : Nat) : Nat := nat8At bs i * 256 + nat8At bs (i + 1)

/-- Four bytes, most significant first. -/
def nat32At (bs : List Byte) (i : Nat) : Nat := nat16At bs i * 65536 + nat16At bs (i + 2)

def word16At (bs : List Byte) (i : Nat) : BitVec 16 := BitVec.ofNat 16 (nat16At bs i)

/-- The low six bits of an address byte (R198). -/
def addrAt (bs : List Byte) (i : Nat) : RingAddr := (byteAt bs i).extractLsb' 0 6

def u8 (n : Nat) : List Byte := [BitVec.ofNat 8 n]

def u16 (n : Nat) : List Byte := [BitVec.ofNat 8 (n / 256), BitVec.ofNat 8 n]

def u32 (n : Nat) : List Byte := u16 (n / 65536) ++ u16 n

/-- A signed number in two bytes, two's complement. -/
def i16 (x : Int) : List Byte := u16 (BitVec.ofInt 16 x).toNat

/-- A signed number in four bytes, two's complement. -/
def i32 (x : Int) : List Byte := u32 (BitVec.ofInt 32 x).toNat

/-- A flag or yes/no: 0 clear or no, 1 set or yes. -/
def flag (b : Bool) : List Byte := if b then [1] else [0]

/-- An optional field: a presence byte, then the field, or zero bytes of its width. -/
def opt {α : Type} (width : Nat) (enc : α → List Byte) : Option α → List Byte
  | none => 0 :: List.replicate width 0
  | some x => 1 :: enc x

/-- A TOD: day in two bytes, then ms in four. -/
def todBytes (t : Tod) : List Byte := u16 t.day.toNat ++ u32 t.ms

/-- Up to eight bits of a set, bit 0 first. -/
def bitsByte (bs : List Bool) : List Byte :=
  u8 (bs.foldr (fun b n => (if b then 1 else 0) + 2 * n) 0)

/-! ## Enumerated values and sets (R197) -/

def Mode.code : Mode → Nat
  | .normal => 0 | .season => 1 | .ban => 2

/-- A mode byte, if it holds one of the three modes. -/
def Mode.ofByte (b : Nat) : Option Mode :=
  if b = 0 then some .normal else if b = 1 then some .season else if b = 2 then some .ban else none

def StreamState.code : StreamState → Nat
  | .absent => 0 | .filling => 1 | .locked => 2 | .patched => 3 | .lost => 4

def SeqState.code : SeqState → Nat
  | .ready => 0 | .opening => 1 | .dead => 2 | .closing => 3 | .reclaim => 4 | .lockout => 5

def EndCause.code : EndCause → Nat
  | .none => 0 | .notInitiating => 1 | .shots => 2 | .blocked => 3

def LockoutCause.code : LockoutCause → Nat
  | .none => 0 | .notInitiating => 1 | .shots => 2 | .blocked => 3 | .order => 4
  | .unsolicited => 5 | .operator => 6 | .earth => 7 | .service => 8

def GroupWay.code : GroupWay → Nat
  | .atCompletion => 0 | .atOnce => 1 | .joining => 2

def Reported.code : Reported → Nat
  | .opened => 0 | .closed => 1 | .between => 2

/-- A STATE position byte; any other value is not used (R80). -/
def Reported.ofByte (b : Nat) : Option Reported :=
  if b = 0 then some .opened else if b = 1 then some .closed else if b = 2 then some .between else none

def Settled.code : Settled → Nat
  | .opened => 0 | .closed => 1

def Position.code : Position → Nat
  | .opened => 0 | .closed => 1 | .between => 2 | .unknown => 3

def Health.code : Health → Nat
  | .reachable => 0 | .unreachable => 1 | .failed => 2

def OrderState.code : OrderState → Nat
  | .idle => 0 | .requested => 1 | .sent => 2

def OrderKind.code : OrderKind → Nat
  | .open => 0 | .close => 1

def OrderKind.ofByte (b : Nat) : Option OrderKind :=
  if b = 0 then some .open else if b = 1 then some .close else none

def Origin.code : Origin → Nat
  | .protection => 0 | .reclose => 1 | .earth => 2 | .operator => 3

def PersistentAction.code : PersistentAction → Nat
  | .alarm => 0 | .busTrip => 1

def EfsState.code : EfsState → Nat
  | .quiet => 0 | .displaced => 1 | .identifying => 2 | .identified => 3 | .unresolved => 4
  | .hunting => 5 | .busTrip => 6 | .persistent => 7

def IdPhase.code : IdPhase → Nat
  | .delay => 0 | .opening => 1 | .observing => 2

def EarthOutcome.code : EarthOutcome → Nat
  | .none => 0 | .clearedSelf => 1 | .trippedIdentified => 2 | .foundByHunt => 3 | .busTripped => 4
  | .persistent => 5 | .aborted => 6 | .unresolvedEnd => 7

def StepState.code : StepState → Nat
  | .opening => 0 | .observing => 1 | .restoring => 2 | .settling => 3

def HuntOrigin.code : HuntOrigin → Nat
  | .auto => 0 | .manual => 1

def AbortCause.code : AbortCause → Nat
  | .none => 0 | .protection => 1 | .limit => 2 | .request => 3 | .busStream => 4 | .ban => 5
  | .service => 6

def ModeSource.code : ModeSource → Nat
  | .override => 0 | .unsetClock => 1 | .declaration => 2 | .seasonWindow => 3 | .default => 4

def ResultCode.code : ResultCode → Nat
  | .ok => 0 | .busy => 1 | .state => 2 | .badTable => 3 | .badIndex => 4 | .invalid => 5
  | .active => 6 | .inUse => 7 | .full => 8 | .refused => 9

def DeviceState.code : DeviceState → Nat
  | .configuring => 0 | .inService => 1

/-- Element sets: PH-HS, PH-IT, EF-HS, EF-IT, SEF from bit 0. -/
def ElementSet.byte (e : ElementSet) : List Byte := bitsByte [e.phHs, e.phIt, e.efHs, e.efIt, e.sef]

/-- The set its five low bits give (R198). -/
def ElementSet.ofByte (b : Byte) : ElementSet :=
  ⟨b.getLsbD 0, b.getLsbD 1, b.getLsbD 2, b.getLsbD 3, b.getLsbD 4⟩

/-- Block-reason sets: the eight reasons in the order of R103. -/
def ReasonSet.byte (r : ReasonSet) : List Byte :=
  bitsByte [r.fire, r.tag, r.loc, r.stream, r.switch, r.hunt, r.earth, r.operator]

def OriginSet.byte (o : OriginSet) : List Byte :=
  bitsByte [o.protection, o.reclose, o.earth, o.operator]

/-- Feeder sets: bit n for slot n. -/
def SlotSet.byte (v : SlotSet) : List Byte := bitsByte v.toList

def addrByte (a : RingAddr) : List Byte := u8 a.toNat

def slotByte (f : Slot) : List Byte := u8 f.val

def groupByte (g : GroupNo) : List Byte := u8 g.val

def numberByte (n : OrderNo) : List Byte := [n]

/-- A slot byte of a request or echo, if it names a feeder slot. -/
def slotOfByte (b : Nat) : Option Slot := if h : b < 8 then some ⟨b, h⟩ else none

/-! ## Frames (R171, R196) -/

/-- One bit of the CRC register's shift under the polynomial x^16 + x^12 + x^5 + 1. -/
def crcShift (r : BitVec 16) : BitVec 16 := if r.msb then (r <<< 1) ^^^ 0x1021#16 else r <<< 1

/-- The CRC register after one more byte, its most significant bit first. -/
def crcByte (r : BitVec 16) (b : Byte) : BitVec 16 :=
  let r := r ^^^ (b.zeroExtend 16 <<< 8)
  crcShift (crcShift (crcShift (crcShift (crcShift (crcShift (crcShift (crcShift r)))))))

/-- The CRC of R171 over the header and payload: the register starts at 0xFFFF. -/
def crc16 (bs : List Byte) : BitVec 16 := bs.foldl crcByte 0xFFFF#16

/-- The seven kinds of the ring (R196). -/
inductive FrameKind where
  | sample | state | time | order | request | reply | notice
  deriving DecidableEq, Repr

def FrameKind.code : FrameKind → Nat
  | .sample => 1 | .state => 2 | .time => 3 | .order => 4 | .request => 5 | .reply => 6 | .notice => 7

/-- The kind a header names; any other value is a kind outside the seven. -/
def FrameKind.ofByte (b : Byte) : Option FrameKind :=
  if b = 1 then some .sample else if b = 2 then some .state else if b = 3 then some .time
  else if b = 4 then some .order else if b = 5 then some .request else if b = 6 then some .reply
  else if b = 7 then some .notice else none

/-- The payload lengths R196 allows a kind. -/
def FrameKind.lengthAllowed (n : Nat) : FrameKind → Bool
  | .sample => n == 12
  | .state => n == 4
  | .time => n == 6
  | .order => n == 4
  | .request => decide (2 ≤ n ∧ n ≤ 240)
  | .reply => decide (4 ≤ n ∧ n ≤ 240)
  | .notice => decide (16 ≤ n ∧ n ≤ 240)

/-- The payload length a header holds. -/
def payloadLength (bs : List Byte) : Nat := nat8At bs 3

/-- The length check of R171: true when the frame is of good length. -/
def goodLength (f : RxFrame) : Bool :=
  let n := payloadLength f.bytes
  !f.cutShort && decide (f.bytes.length = 4 + n + 2) && decide (n ≤ 240) &&
    (match FrameKind.ofByte (byteAt f.bytes 2) with
     | some k => k.lengthAllowed n
     | none => true)

/-- The header and payload of a frame of good length. -/
def framedBytes (bs : List Byte) : List Byte := bs.take (4 + payloadLength bs)

/-- The payload of a frame of good length. -/
def framePayload (bs : List Byte) : List Byte := (bs.drop 4).take (payloadLength bs)

/-- The CRC check of R171: the frame's last two bytes, high byte first, are the CRC of the rest. -/
def goodCrc (bs : List Byte) : Bool :=
  (crc16 (framedBytes bs)).toNat == nat16At bs (4 + payloadLength bs)

/-- The source check of R171. -/
def goodSource (bs : List Byte) : Bool := addrAt bs 1 != 0 && addrAt bs 1 != 63

/-- A frame of the FE-8's own (R178, R196): header, payload, CRC high byte first. -/
def buildFrame (dst src : RingAddr) (kind : FrameKind) (payload : List Byte) : List Byte :=
  let body := addrByte dst ++ addrByte src ++ u8 kind.code ++ u8 payload.length ++ payload
  body ++ u16 (crc16 body).toNat

/-- The payload of an ORDER (R199). -/
def orderPayload (f : Slot) (k : OrderKind) (n : OrderNo) : List Byte :=
  slotByte f ++ u8 k.code ++ numberByte n ++ [0]

/-- The payload of a REPLY (R200). -/
def Reply.payload (r : Reply) : List Byte := [r.kind, r.tag] ++ u8 r.code.code ++ [0] ++ r.content

/-! ## Writable entries (R201) -/

/-- The `i`-th of `n` items read from an entry. -/
def readMany {α : Type} (n : Nat) (g : Nat → α) : Vector α n :=
  ⟨⟨(List.range n).map g⟩, by simp⟩

/-- A curve entry: point positions beyond the count are stored as 0 (R62). -/
def Curve.ofBytes (bs : List Byte) : Curve :=
  let n := nat8At bs 0
  ⟨n, readMany 16 fun i =>
    if i < n then ⟨nat16At bs (2 + 6 * i), nat32At bs (4 + 6 * i)⟩ else ⟨0, 0⟩⟩

def Curve.bytes (c : Curve) : List Byte :=
  u8 c.count ++ [0] ++ (c.points.toList.map fun p => u16 p.m ++ u32 p.rate).flatten

def DefiniteSetting.ofBytes (bs : List Byte) (i : Nat) : DefiniteSetting :=
  ⟨nat16At bs i, nat16At bs (i + 2)⟩

def DefiniteSetting.bytes (d : DefiniteSetting) : List Byte := u16 d.threshold ++ u16 d.delay

def InverseSetting.ofBytes (bs : List Byte) (i : Nat) : InverseSetting :=
  ⟨nat16At bs i, nat8At bs (i + 2), nat8At bs (i + 3), nat8At bs (i + 4), nat32At bs (i + 6)⟩

def InverseSetting.bytes (d : InverseSetting) : List Byte :=
  u16 d.pickup ++ u8 d.curve ++ u8 d.dial ++ u8 d.resetMode ++ [0] ++ u32 d.resetRate

def ShotRecord.ofBytes (bs : List Byte) (i : Nat) : ShotRecord :=
  ⟨nat16At bs i, .ofByte (byteAt bs (i + 2))⟩

def ShotRecord.bytes (r : ShotRecord) : List Byte := u16 r.deadTime ++ r.live.byte ++ [0]

def GroupRecord.ofBytes (bs : List Byte) : GroupRecord where
  phHs := .ofBytes bs 0
  phIt := .ofBytes bs 4
  efHs := .ofBytes bs 14
  efIt := .ofBytes bs 18
  sef := .ofBytes bs 28
  inrush := nat8At bs 32
  initiate := .ofByte (byteAt bs 33)
  maxShots := nat8At bs 34
  shot0Live := .ofByte (byteAt bs 35)
  shots := readMany 4 fun i => .ofBytes bs (36 + 4 * i)
  reclaimTime := nat16At bs 52
  efTripRecloses := nat8At bs 54

def GroupRecord.bytes (g : GroupRecord) : List Byte :=
  g.phHs.bytes ++ g.phIt.bytes ++ g.efHs.bytes ++ g.efIt.bytes ++ g.sef.bytes ++ u8 g.inrush ++
    g.initiate.byte ++ u8 g.maxShots ++ g.shot0Live.byte ++
    (g.shots.toList.map ShotRecord.bytes).flatten ++ u16 g.reclaimTime ++ u8 g.efTripRecloses ++ [0]

/-- A yes/no byte, if it is 0 or 1. -/
def yesNoOfByte (b : Nat) : Option Bool :=
  if b = 0 then some false else if b = 1 then some true else none

/-- A group number or district, 0 to 3. -/
def fin4OfByte (b : Nat) : Option (Fin 4) := if h : b < 4 then some ⟨b, h⟩ else none

/-- A feeder record entry, if every field lies in its range of R68. -/
def FeederRecord.ofBytes (bs : List Byte) : Option FeederRecord :=
  match yesNoOfByte (nat8At bs 0), fin4OfByte (nat8At bs 1), fin4OfByte (nat8At bs 2),
      fin4OfByte (nat8At bs 3), fin4OfByte (nat8At bs 4) with
  | some sv, some d, some g0, some g1, some g2 =>
    if 2 ≤ nat8At bs 6 ∧ nat8At bs 6 ≤ 200 ∧ 1 ≤ nat8At bs 7 ∧ nat8At bs 7 ≤ 8 then
      some ⟨sv, d, #v[g0, g1, g2], nat8At bs 6, nat8At bs 7⟩
    else none
  | _, _, _, _, _ => none

def FeederRecord.bytes (r : FeederRecord) : List Byte :=
  flag r.inService ++ u8 r.district.val ++ (r.modeMap.toList.map groupByte).flatten ++ [0] ++
    u8 r.confirmLimit ++ u8 r.failLimit

def PersistentAction.ofByte (b : Nat) : Option PersistentAction :=
  if b = 0 then some .alarm else if b = 1 then some .busTrip else none

/-- The per-mode fields of an earth settings entry at offset `i`, if in the ranges of R123. -/
def EarthModeSettings.ofBytes (bs : List Byte) (i : Nat) : Option EarthModeSettings :=
  match yesNoOfByte (nat8At bs i), PersistentAction.ofByte (nat8At bs (i + 1)) with
  | some a, some p =>
    if 10 ≤ nat16At bs (i + 2) ∧ nat16At bs (i + 2) ≤ 3600 then
      some ⟨a, p, nat16At bs (i + 2), nat16At bs (i + 4)⟩
    else none
  | _, _ => none

/-- An earth settings entry, if every field lies in its range and the vote threshold does not exceed the
window cycles (R123). -/
def EarthSettings.ofBytes (bs : List Byte) : Option EarthSettings :=
  match EarthModeSettings.ofBytes bs 12, EarthModeSettings.ofBytes bs 18,
      EarthModeSettings.ofBytes bs 24 with
  | some n, some s, some b =>
    if (16 ≤ nat16At bs 0 ∧ nat16At bs 0 ≤ 46339) ∧ (1 ≤ nat16At bs 2 ∧ nat16At bs 2 ≤ 3000) ∧
        (4 ≤ nat8At bs 4 ∧ nat8At bs 4 ≤ 250) ∧ (1 ≤ nat8At bs 5 ∧ nat8At bs 5 ≤ nat8At bs 4) ∧
        1 ≤ nat16At bs 6 ∧ (5 ≤ nat16At bs 8 ∧ nat16At bs 8 ≤ 500) ∧
        (5 ≤ nat16At bs 10 ∧ nat16At bs 10 ≤ 500) then
      some ⟨nat16At bs 0, nat16At bs 2, nat8At bs 4, nat8At bs 5, nat16At bs 6, nat16At bs 8,
        nat16At bs 10, #v[n, s, b]⟩
    else none
  | _, _, _ => none

def EarthModeSettings.bytes (m : EarthModeSettings) : List Byte :=
  flag m.autoHunt ++ u8 m.persistent.code ++ u16 m.huntLimit ++ u16 m.tripDelay

def EarthSettings.bytes (e : EarthSettings) : List Byte :=
  u16 e.vNvd ++ u16 e.confirmCycles ++ u8 e.windowCycles ++ u8 e.voteThreshold ++ u16 e.wSet ++
    u16 e.observeCycles ++ u16 e.settleCycles ++ (e.perMode.toList.map EarthModeSettings.bytes).flatten

/-- The slots of bytes, if each names a feeder slot. -/
def slotsOfBytes : List Byte → Option (List Slot)
  | [] => some []
  | b :: bs =>
    match slotOfByte b.toNat, slotsOfBytes bs with
    | some f, some fs => some (f :: fs)
    | _, _ => none

/-- A hunt order entry, if its count, slots and order are allowed (R124). -/
def huntOrderOfBytes (bs : List Byte) : Option (List Slot) :=
  if nat8At bs 0 ≤ 8 then
    match slotsOfBytes ((bs.drop 1).take (nat8At bs 0)) with
    | some fs => if fs.Nodup then some fs else none
    | none => none
  else none

/-- A list of slots: a count, then every position of the capacity of eight (R197). -/
def slotListBytes (fs : List Slot) : List Byte :=
  u8 fs.length ++ (fs.map slotByte).flatten ++ List.replicate (8 - fs.length) 0

/-- A season window entry, if its unset-clock mode is one of the three (R152). -/
def SeasonWindow.ofBytes (bs : List Byte) : Option SeasonWindow :=
  match Mode.ofByte (nat8At bs 4) with
  | some m => some ⟨word16At bs 0, word16At bs 2, m⟩
  | none => none

def SeasonWindow.bytes (w : SeasonWindow) : List Byte :=
  u16 w.startDay.toNat ++ u16 w.endDay.toNat ++ u8 w.unsetMode.code ++ [0]

/-- What a written declaration entry asks (R154). -/
inductive DeclarationWrite where
  | put (d : Declaration)
  | cancel (district : District) (day : Day) (startMinute : Nat)
  deriving DecidableEq, Repr

/-- A declaration entry, if its fields are in the ranges of R153, CANCEL apart, and its end minute is
greater than its start minute (R154 step 1). -/
def DeclarationWrite.ofBytes (bs : List Byte) : Option DeclarationWrite :=
  match fin4OfByte (nat8At bs 2) with
  | none => none
  | some d =>
    let start := nat16At bs 4
    let stop := nat16At bs 6
    if start ≤ 1439 ∧ stop ≤ 1440 ∧ start < stop then
      if nat8At bs 3 = 1 then some (.put ⟨d, word16At bs 0, start, stop, .season⟩)
      else if nat8At bs 3 = 2 then some (.put ⟨d, word16At bs 0, start, stop, .ban⟩)
      else if nat8At bs 3 = 255 then some (.cancel d (word16At bs 0) start)
      else none
    else none

def Declaration.bytes (d : Declaration) : List Byte :=
  u16 d.day.toNat ++ u8 d.district.val ++ u8 d.level.code ++ u16 d.startMinute ++ u16 d.endMinute

/-! ## Read-only entries: the fields of the owning rule's table, in its order (R197). "or none" beside an
enumerated field is an optional field, not a position of its list (DESIGN CHOICE, log entry 34) -/

def StreamRecord.bytes (r : StreamRecord) : List Byte :=
  addrByte r.address ++ u8 r.state.code ++ u16 r.lastSample.toNat ++ u8 r.consecutive ++ u8 r.patch ++
    opt 1 u8 r.supervision ++ flag r.notDropped ++ u16 r.gaps ++ u16 r.duplicates ++ u16 r.resyncs

def ElementState.bytes (e : ElementState) : List Byte :=
  flag e.phHs.pickup ++ flag e.phIt.pickup ++ flag e.efHs.pickup ++ flag e.efIt.pickup ++
    flag e.sef.pickup ++
    flag e.phHs.operated ++ flag e.phIt.operated ++ flag e.efHs.operated ++ flag e.efIt.operated ++
    flag e.sef.operated ++
    flag e.phHs.acted ++ flag e.phIt.acted ++ flag e.efHs.acted ++ flag e.efIt.acted ++
    flag e.sef.acted ++
    u16 e.phHs.count ++ u16 e.efHs.count ++ u16 e.sef.count ++ u32 e.phIt.acc ++ u32 e.efIt.acc ++
    flag e.restraint

def TripRecord.bytes (t : TripRecord) : List Byte :=
  flag t.isPresent ++ t.tripping.byte ++ t.operated.byte ++ flag t.initiating ++ flag t.alreadyOpen ++
    (t.magnitudes.toList.map u16).flatten ++ (t.overranges.toList.map flag).flatten ++
    flag t.restraint ++ u16 t.sampleNo.toNat ++ flag t.filled ++ groupByte t.group ++ u8 t.seq.code ++
    u8 t.shot ++ opt 6 todBytes t.tod

def groupStateBytes (active pending : Option GroupNo) : List Byte :=
  opt 1 groupByte active ++ opt 1 groupByte pending

def SwitchRecord.bytes (r : SwitchRecord) : List Byte :=
  opt 1 (fun p => u8 p.code) r.reported ++ opt 1 (fun p => u8 p.code) r.settled ++ u8 r.position.code ++
    flag r.tag ++ flag r.loc ++ numberByte r.lastExecuted ++ u8 r.health.code ++
    opt 2 u16 r.supervision ++ u8 r.failCount

def OrderRecord.bytes (r : OrderRecord) : List Byte :=
  u8 r.state.code ++ u8 r.kind.code ++ u8 r.origin.code ++ r.joined.byte ++ numberByte r.number ++
    numberByte r.lastIssued ++ opt 1 u8 r.echoWatch ++ opt 2 u16 r.confirm

def SeqRecord.bytes (r : SeqRecord) : List Byte :=
  u8 r.state.code ++ u8 r.shot ++ u8 r.endCause.code ++ opt 1 numberByte r.awaited ++
    opt 4 u32 r.dead ++ opt 4 u32 r.reclaim ++ u8 r.lockoutCause.code ++ r.reasons.byte

def cycleBytes (c : CycleNo) : List Byte := u16 c.toNat

def EfsRecord.bytes (r : EfsRecord) : List Byte :=
  u8 r.state.code ++ opt 2 u16 r.countdown ++ opt 2 cycleBytes r.windowFirst ++
    (r.votes.toList.map u8).flatten ++ (r.lastPaired.toList.map (opt 2 cycleBytes)).flatten ++
    r.candidates.byte ++ opt 1 slotByte r.identified ++ opt 1 (fun p => u8 p.code) r.phase ++
    u16 r.delayCount ++ flag r.recloseMark ++ opt 1 numberByte r.awaited ++
    (r.busTripList.toList.map (opt 1 numberByte)).flatten ++ u16 r.newestVn ++ flag r.vnDropped ++
    opt 6 todBytes r.episodeTod

def EarthResult.bytes (r : EarthResult) : List Byte :=
  u8 r.outcome.code ++ opt 1 slotByte r.feeder ++ opt 6 todBytes r.detectionTod ++
    opt 6 todBytes r.endTod ++ (r.votes.toList.map u8).flatten ++ r.candidates.byte

def HuntRecord.bytes (h : HuntRecord) : List Byte :=
  slotListBytes h.list ++ u8 h.stepIndex ++ opt 1 slotByte h.underTest ++
    opt 1 (fun p => u8 p.code) h.step ++ opt 2 u16 h.countdown ++ opt 1 numberByte h.order ++
    u32 h.elapsed ++ u8 h.origin.code ++ u8 h.abortCause.code

def overrideBytes : Option Override → List Byte :=
  opt 5 fun o => u8 o.mode.code ++ u16 o.untilDay.toNat ++ u16 o.untilMinute

def Mdu.stateBytes (m : Mdu) : List Byte :=
  flag m.running ++ u16 m.day.toNat ++ u32 m.ms ++ (m.modes.toList.map fun x => u8 x.code).flatten ++
    (m.sources.toList.map fun x => u8 x.code).flatten ++ u8 m.busMode.code ++ u8 m.declarations.length

def Phasor.bytes (p : Phasor) : List Byte := i16 p.re ++ i16 p.im

/-- A cycle result in the order of R28's table; a bus result has no second-harmonic fields. -/
def CycleResult.bytes (r : CycleResult) : List Byte :=
  cycleBytes r.cycle ++ (r.channels.toList.map fun c => c.phasor.bytes).flatten ++
    (r.channels.toList.map fun c => u16 c.magnitude).flatten ++
    (match r.second with
     | some h => (h.toList.map fun x => x.phasor.bytes).flatten ++
         (h.toList.map fun x => u16 x.magnitude).flatten
     | none => []) ++
    (r.channels.toList.map fun c => flag c.overrange).flatten ++ flag r.patched

/-! ## Notices (10.6, R199) -/

def NoticeBody.kindCode : NoticeBody → Nat
  | .trip .. => 0 | .lockout .. => 1 | .orderFail .. => 2 | .efDetected .. => 3 | .efResult .. => 4
  | .busTrip .. => 5 | .modeChange .. => 6 | .groupChange .. => 7 | .groupDeferred .. => 8
  | .streamState .. => 9 | .ringEcho .. => 10 | .huntStep .. => 11 | .clockSet .. => 12
  | .reclosed .. => 13

/-- The priorities of the table of 10.6. -/
def NoticeBody.priority : NoticeBody → Nat
  | .trip .. => 7 | .lockout .. => 6 | .orderFail .. => 6 | .efDetected .. => 5 | .efResult .. => 5
  | .busTrip .. => 5 | .modeChange .. => 4 | .groupChange .. => 4 | .groupDeferred .. => 4
  | .streamState .. => 3 | .ringEcho .. => 3 | .huntStep .. => 2 | .clockSet .. => 2
  | .reclosed .. => 1

/-- The step of a CLOCK_SET: four bytes signed where it fits, else the free value (log entry 13). -/
def clockStepField (x : Int) : List Byte :=
  if -2147483648 ≤ x ∧ x ≤ 2147483647 then i32 x else u32 (Config.clockStepBytes x).toNat

/-- The detail fields, in the order the raising rule lists them (R199; log entry 14). -/
def NoticeBody.detail : NoticeBody → List Byte
  | .trip t g q k i a => t.byte ++ groupByte g ++ u8 q.code ++ u8 k ++ flag i ++ flag a
  | .lockout q k c r => u8 q.code ++ u8 k ++ u8 c.code ++ r.byte
  | .orderFail k o j n c h =>
    u8 k.code ++ u8 o.code ++ j.byte ++ opt 1 numberByte n ++ u8 c ++ u8 h.code
  | .efDetected c v o m => cycleBytes c ++ u16 v ++ flag o ++ u8 m.code
  | .efResult r => r.bytes
  | .busTrip m s b => u8 m.code ++ SlotSet.byte s ++ u8 b.code
  | .modeChange d l n s => u8 d.val ++ u8 l.code ++ u8 n.code ++ u8 s.code
  | .groupChange l n w x =>
    opt 1 groupByte l ++ groupByte n ++ u8 w.code ++ opt 2 (fun k => u16 k.toNat) x
  | .groupDeferred a p m => groupByte a ++ opt 1 groupByte p ++ u8 m.code
  | .streamState n l => u8 n.code ++ u8 l.code
  | .ringEcho k n => u8 k.code ++ numberByte n
  | .huntStep i l o st => u8 i ++ u8 l ++ u8 o.code ++ flag st
  | .clockSet o n d => opt 6 todBytes o ++ todBytes n ++ opt 4 clockStepField d
  | .reclosed k n g => u8 k ++ numberByte n ++ groupByte (g.getD 0)

/-- The payload of a NOTICE with its sequence number (R199). -/
def Notice.payload (n : Notice) (seqNo : BitVec 8) : List Byte :=
  u8 n.body.kindCode ++ u8 n.body.priority ++ [seqNo] ++
    bitsByte [n.slot.isSome, n.tod.isSome, n.sampleNo.isSome] ++
    (match n.slot with | some f => slotByte f | none => [0]) ++ [0] ++
    (match n.tod with | some t => todBytes t | none => List.replicate 6 0) ++
    (match n.sampleNo with | some x => u16 x.toNat | none => [0, 0]) ++
    u8 n.body.detail.length ++ [0] ++ n.body.detail

end Sys2Proof.Machine
end

