-- ==== Sys2Proof/Machine/Ops.lean ====
section
/-! DEFINITION. The named operations over State: one reader and one writer for each feeder's or stream's
records, the raising of a notice, the notice queue, and the end of an event. -/

namespace Sys2Proof.Machine

/-- What the meaning of a command answers. -/
abbrev Out := Host.Outcome State Fault Refusal

/-! ## Readers and writers -/

namespace State

def stream (s : State) (r : Role) : StreamRecord := s.siu.streams[r]

def setStream (r : Role) (x : StreamRecord) (s : State) : State :=
  { s with siu := { s.siu with streams := upd s.siu.streams r x } }

def pheStream (s : State) (r : Role) : PheStream := s.phe.streams[r]

def setPheStream (r : Role) (x : PheStream) (s : State) : State :=
  { s with phe := { s.phe with streams := upd s.phe.streams r x } }

def element (s : State) (f : Slot) : ElementState := s.elu.elements[f]

def setElement (f : Slot) (x : ElementState) (s : State) : State :=
  { s with elu := { s.elu with elements := upd s.elu.elements f x } }

def trip (s : State) (f : Slot) : TripRecord := s.elu.trips[f]

def setTrip (f : Slot) (x : TripRecord) (s : State) : State :=
  { s with elu := { s.elu with trips := upd s.elu.trips f x } }

def feeder (s : State) (f : Slot) : FeederRecord := s.gst.feeders[f]

def setFeeder (f : Slot) (x : FeederRecord) (s : State) : State :=
  { s with gst := { s.gst with feeders := upd s.gst.feeders f x } }

/-- The index of group `g` of feeder `f` in the group table (R61). -/
def groupIndex (f : Slot) (g : GroupNo) : Fin 32 := ⟨4 * f.val + g.val, by omega⟩

def group (s : State) (f : Slot) (g : GroupNo) : GroupRecord := s.gst.groups[groupIndex f g]

def activeGroup (s : State) (f : Slot) : Option GroupNo := s.gst.activeGroup[f]

def pendingGroup (s : State) (f : Slot) : Option GroupNo := s.gst.pendingGroup[f]

/-- Sets a feeder's active and pending group (R72). -/
def setGroups (f : Slot) (active pending : Option GroupNo) (s : State) : State :=
  { s with gst := { s.gst with
      activeGroup := upd s.gst.activeGroup f active
      pendingGroup := upd s.gst.pendingGroup f pending } }

/-- The settings of the active group, as readers find them at the moment of use (R78). -/
def settings (s : State) (f : Slot) : Option GroupRecord := (s.activeGroup f).map (s.group f)

def switch (s : State) (f : Slot) : SwitchRecord := s.oru.switches[f]

def setSwitch (f : Slot) (x : SwitchRecord) (s : State) : State :=
  { s with oru := { s.oru with switches := upd s.oru.switches f x } }

def order (s : State) (f : Slot) : OrderRecord := s.oru.orders[f]

def setOrder (f : Slot) (x : OrderRecord) (s : State) : State :=
  { s with oru := { s.oru with orders := upd s.oru.orders f x } }

def seq (s : State) (f : Slot) : SeqRecord := s.rcs.seqs[f]

def setSeq (f : Slot) (x : SeqRecord) (s : State) : State :=
  { s with rcs := { s.rcs with seqs := upd s.rcs.seqs f x } }

def setEfs (x : EfsRecord) (s : State) : State :=
  { s with efs := { s.efs with record := x } }

def setHunt (x : HuntRecord) (s : State) : State :=
  { s with efs := { s.efs with hunt := x } }

/-- The switch unit's address of a feeder in the active map, index 9 to 16 (R1). -/
def switchAddress (s : State) (f : Slot) : RingAddr := s.siu.active[9 + f.val]

/-- The sampling unit's address of a role in the active map, index 0 to 8 (R1). -/
def samplingAddress (s : State) (r : Role) : RingAddr := s.siu.active[r.val]

/-- Does the feeder hold the block reason (R103)? -/
def holds (s : State) (f : Slot) (r : Reason) : Bool := (s.seq f).reasons.has r

/-- The condition of R101, R38 and R72: the device is IN SERVICE and the feeder's record says in
service. -/
def acting (s : State) (f : Slot) : Bool :=
  s.mgr.device == .inService && (s.feeder f).inService

/-- The district mode of the feeder's district, as MDU holds it (R160). -/
def feederMode (s : State) (f : Slot) : Mode := s.mdu.modes[(s.feeder f).district]

/-- The present TOD, absent while the clock is UNSET (R150). -/
def tod (s : State) : Option Tod := if s.mdu.running then some ⟨s.mdu.day, s.mdu.ms⟩ else none

/-- The minute of the day (R150). -/
def minute (s : State) : Nat := s.mdu.ms / 60000

/-- The earth settings' fields of a mode (R123). -/
def earthMode (s : State) (m : Mode) : EarthModeSettings := s.efs.settings.perMode[m.index]

end State

/-- An order in flight is REQUESTED or SENT (R87). -/
def OrderRecord.inFlight (o : OrderRecord) : Bool := o.state != .idle

/-- Does the stream deliver: LOCKED or PATCHED (R16)? -/
def StreamState.delivers : StreamState → Bool
  | .locked => true
  | .patched => true
  | .absent => false
  | .filling => false
  | .lost => false

/-- Each feeder in feeder-slot order, lowest first. -/
def forSlots (g : Slot → State → State) (s : State) : State := allSlots.foldl (fun s f => g f s) s

/-! ## Notices -/

/-- A block raises a notice (10.6). Within one event the notices gather in `raised` and join the queue
at its end in the order of R188 (log entry 25). -/
def raise (slot : Option Slot) (sampleNo : Option SampleNo) (body : NoticeBody) (s : State) : State :=
  { s with raised := s.raised ++ [⟨slot, s.tod, sampleNo, body⟩] }

/-- The lowest priority held (R189). -/
def lowestPriority : List Notice → Nat
  | [] => 8
  | n :: ns => min n.body.priority (lowestPriority ns)

/-- The queue without its youngest notice of priority `q` (R189); the list is oldest first. -/
def dropYoungest (q : Nat) (ns : List Notice) : List Notice :=
  (ns.reverse.eraseP (fun n => n.body.priority == q)).reverse

/-- A notice joins the queue, by R189 when the queue holds 32. -/
def joinQueue (m : Mgr) (n : Notice) : Mgr :=
  if m.notices.length < 32 then { m with notices := m.notices ++ [n] }
  else if lowestPriority m.notices < n.body.priority then
    { m with
      notices := dropYoungest (lowestPriority m.notices) m.notices ++ [n]
      dropped := countUp m.dropped }
  else { m with dropped := countUp m.dropped }

/-- The notices of one event in the order of R188: bus notices, then by feeder slot, each in the order
raised. -/
def joinOrder (ns : List Notice) : List Notice :=
  ns.filter (fun n => n.slot.isNone) ++
    (allSlots.map fun f => ns.filter (fun n => n.slot == some f)).flatten

/-- The event's notices join the queue (R188). -/
def flushNotices (s : State) : State :=
  { s with mgr := (joinOrder s.raised).foldl joinQueue s.mgr, raised := [] }

/-- The notice RPT takes next: the oldest of the highest priority present (R188). -/
def noticeHead : List Notice → Option Notice
  | [] => none
  | n :: ns =>
    match noticeHead ns with
    | none => some n
    | some m => if n.body.priority < m.body.priority then some m else some n

/-! ## The reports of ORU (R82, R89) -/

/-- The cause of a REFUSED outcome (R89). -/
inductive RefuseCause where
  | busy | fire | tag | local | noSwitch | state
  deriving DecidableEq, Repr

/-- ORU's answer to the block that asked (R89). -/
inductive Answer where
  | taken (number : OrderNo)
  | merged (number : OrderNo)
  | refused (cause : RefuseCause)
  deriving DecidableEq, Repr

/-- What an order report says (R89). -/
inductive Happened where
  | taken | merged | refused | superseded | withdrawn | confirmed | failed
  deriving DecidableEq, Repr

/-- An order report to RCS and EFS (R89). For an answer the origin is the request's; for the others it is
the order's. A FAILED of R90 step 2 has no number. -/
structure OrderReport where
  slot     : Slot
  kind     : OrderKind
  origin   : Origin
  number   : Option OrderNo
  joined   : OriginSet
  happened : Happened
  deriving DecidableEq, Repr

/-- A position report to RCS and EFS (R82). -/
inductive PositionReport where
  | initialOpen | initialClosed | unsolicitedOpen | unsolicitedClose
  deriving DecidableEq, Repr

end Sys2Proof.Machine
end

