-- ==== Sys2Proof/Machine/Reclose.lean ====
section
/-! DEFINITION. RCS: the block-reason set, the entry to lockout, and what each report does to a feeder's
sequencer (Chapter 6). -/

namespace Sys2Proof.Machine

/-! ## Settings read by RCS at the moment of use (R78) -/

/-- The max shots of the active group; a feeder with no active group gives no shots (R78). -/
def maxShots (s : State) (f : Slot) : Nat :=
  match s.settings f with
  | some g => g.maxShots
  | none => 0

/-- Shot record `k`, 1 to 4, of a group (R65). -/
def GroupRecord.shot (g : GroupRecord) (k : Nat) : ShotRecord :=
  if h : 1 ≤ k ∧ k ≤ 4 then g.shots[k - 1] else ⟨0, .empty⟩

/-- The dead timer's start for shot `k`: 10 × the dead time of shot record `k` (R109). -/
def deadTicks (s : State) (f : Slot) (k : Nat) : Nat :=
  match s.settings f with
  | some g => 10 * (g.shot k).deadTime
  | none => 0

/-- The reclaim timer's start: 10 × the reclaim time (R112). -/
def reclaimTicks (s : State) (f : Slot) : Nat :=
  match s.settings f with
  | some g => 10 * g.reclaimTime
  | none => 0

/-! ## Lockout and block reasons -/

/-- R102. A sequencer already in LOCKOUT keeps the cause of its first entry, and no notice is raised. -/
def enterLockout (c : LockoutCause) (f : Slot) (s : State) : State :=
  let q := s.seq f
  if q.state = .lockout then s
  else
    raise (some f) none (.lockout q.state q.shot c q.reasons)
      (s.setSeq f { q with
        state := .lockout
        dead := none
        reclaim := none
        endCause := .none
        awaited := none
        lockoutCause := c })

/-- Adds a block reason (R103). An addition of an absent reason is an event for the sequencer: in DEAD it
brings LOCKOUT, cause BLOCKED (R106, R101). -/
def addReason (r : Reason) (f : Slot) (s : State) : State :=
  let q := s.seq f
  if q.reasons.has r then s
  else
    let t := s.setSeq f { q with reasons := q.reasons.put true r }
    if s.acting f ∧ q.state = .dead then enterLockout .blocked f t else t

/-- Removes a block reason: the set changes and nothing else (R103). -/
def removeReason (r : Reason) (f : Slot) (s : State) : State :=
  let q := s.seq f
  s.setSeq f { q with reasons := q.reasons.put false r }

/-- Brings a reason into line with its owner's state (R83, R86, R161). -/
def alignReason (r : Reason) (present : Bool) (f : Slot) (s : State) : State :=
  if present then addReason r f s else removeReason r f s

/-- R117: EFS demands LOCKOUT, cause EARTH; RCS takes it while the feeder acts (R101, R148). -/
def demandLockout (f : Slot) (s : State) : State :=
  if s.acting f then enterLockout .earth f s else s

/-! ## Trip reports -/

/-- The end cause a trip in READY, RECLAIM or CLOSING is given, taking the first case of R107. -/
def judgeTrip (initiating : Bool) (k max : Nat) (reasons : ReasonSet) : EndCause :=
  if initiating = false then .notInitiating
  else if max < k then .shots
  else if reasons.isEmpty = false then .blocked
  else .none

/-- R107: a trip report decided from READY, RECLAIM or CLOSING. -/
def decideTrip (initiating : Bool) (f : Slot) (s : State) : State :=
  let q := s.seq f
  let o := s.order f
  if o.inFlight = true ∧ o.kind = .open then
    let e := judgeTrip initiating (q.shot + 1) (maxShots s f) q.reasons
    s.setSeq f { q with
      state := .opening
      shot := if e = .none then q.shot + 1 else q.shot
      endCause := e
      awaited := some o.number
      reclaim := none }
  else enterLockout .order f s

/-- A trip report of ELU or EFS (R107, R108). -/
def tripReport (initiating : Bool) (f : Slot) (s : State) : State :=
  if s.acting f then
    let q := s.seq f
    match q.state with
    | .ready => decideTrip initiating f s
    | .reclaim => decideTrip initiating f s
    | .closing => decideTrip initiating f s
    | .opening =>
      if initiating = false ∧ q.endCause = .none then
        s.setSeq f { q with endCause := .notInitiating }
      else s
    | .dead => enterLockout (if initiating then .shots else .notInitiating) f s
    | .lockout => s
  else s

/-! ## Outcomes of orders -/

/-- The lockout cause an end cause becomes at the confirmation of the OPEN (R109). -/
def EndCause.lockoutCause : EndCause → LockoutCause
  | .none => .none
  | .notInitiating => .notInitiating
  | .shots => .shots
  | .blocked => .blocked

/-- R109, CONFIRMED: the awaited OPEN is confirmed. -/
def openConfirmed (f : Slot) (s : State) : State :=
  let q := s.seq f
  if q.endCause ≠ .none then enterLockout q.endCause.lockoutCause f s
  else if q.reasons.isEmpty = false then enterLockout .blocked f s
  else if maxShots s f < q.shot then enterLockout .shots f s
  else s.setSeq f { q with state := .dead, awaited := none, dead := some (deadTicks s f q.shot) }

/-- R112, CONFIRMED: the awaited CLOSE is confirmed. -/
def closeConfirmed (n : OrderNo) (f : Slot) (s : State) : State :=
  let q := s.seq f
  raise (some f) none (.reclosed q.shot n (s.activeGroup f))
    (s.setSeq f { q with state := .reclaim, awaited := none, reclaim := some (reclaimTicks s f) })

/-- R118: a close event in LOCKOUT takes the sequencer to READY when the feeder holds neither EARTH nor
SWITCH. -/
def leaveLockout (f : Slot) (s : State) : State :=
  let q := s.seq f
  if q.reasons.hunt = false ∧ q.reasons.earth = false ∧ q.reasons.switch = false then
    s.setSeq f { q with state := .ready, shot := 0, lockoutCause := .none }
  else s

/-- Is the reported order the one RCS awaits? -/
def SeqRecord.awaits (q : SeqRecord) (p : OrderReport) : Bool :=
  match q.awaited, p.number with
  | some a, some n => a == n
  | _, _ => false

/-- A CONFIRMED outcome (R109, R112, R115, R118). While the feeder holds HUNT, an outcome of an order of
origin EARTH is taken only where R109 awaits it. -/
def rcsConfirmed (p : OrderReport) (s : State) : State :=
  let f := p.slot
  let q := s.seq f
  match p.kind, q.state with
  | .open, .opening => if q.awaits p then openConfirmed f s else s
  | .open, .ready =>
    if q.reasons.hunt = true ∧ p.origin = .earth then s else enterLockout .unsolicited f s
  | .open, .closing =>
    if q.reasons.hunt = true ∧ p.origin = .earth then s else enterLockout .unsolicited f s
  | .open, .reclaim =>
    if q.reasons.hunt = true ∧ p.origin = .earth then s else enterLockout .unsolicited f s
  | .close, .closing =>
    match p.number with
    | some n => if q.awaits p then closeConfirmed n f s else s
    | none => s
  | .close, .lockout => if p.origin = .operator then leaveLockout f s else s
  | _, _ => s

/-- A FAILED outcome (R109, R112): of the awaited OPEN, of the awaited CLOSE, or of an OPEN that
superseded the awaited CLOSE. A FAILED without number (R90) is none of these. -/
def rcsFailed (p : OrderReport) (s : State) : State :=
  let f := p.slot
  let q := s.seq f
  match p.kind, q.state with
  | .open, .opening => if q.awaits p then enterLockout .order f s else s
  | .close, .closing => if q.awaits p then enterLockout .order f s else s
  | .open, .closing => if p.number.isSome then enterLockout .order f s else s
  | _, _ => s

/-- An answer to an operator's request (R116). -/
def rcsOperator (p : OrderReport) (s : State) : State :=
  match p.kind with
  | .open => enterLockout .operator p.slot s
  | .close => if (s.seq p.slot).state = .dead then enterLockout .operator p.slot s else s

/-- RCS takes an order report (R101, R109, R112, R115, R116, R118). -/
def rcsReport (p : OrderReport) (s : State) : State :=
  if s.acting p.slot then
    match p.happened with
    | .taken => if p.origin = .operator then rcsOperator p s else s
    | .merged => if p.origin = .operator then rcsOperator p s else s
    | .refused => s
    | .superseded => s
    | .withdrawn =>
      if (s.seq p.slot).state = .closing ∧ (s.seq p.slot).awaits p = true then
        enterLockout .blocked p.slot s
      else s
    | .confirmed => rcsConfirmed p s
    | .failed => rcsFailed p s
  else s

/-- RCS takes a position report, while the feeder does not hold HUNT (R115, R118). -/
def rcsPosition (p : PositionReport) (f : Slot) (s : State) : State :=
  if s.acting f = true ∧ s.holds f .hunt = false then
    match p, (s.seq f).state with
    | .unsolicitedOpen, _ => enterLockout .unsolicited f s
    | .unsolicitedClose, .dead => enterLockout .unsolicited f s
    | .unsolicitedClose, .lockout => leaveLockout f s
    | _, _ => s
  else s

/-! ## Group notifications, service and requests -/

/-- R114: GST tells RCS of a feeder's new active group. -/
def groupNotify (f : Slot) (s : State) : State :=
  if s.acting f = true ∧ (s.seq f).state = .dead ∧ maxShots s f < (s.seq f).shot then
    enterLockout .shots f s
  else s

/-- R113: the reclaim timer has expired. -/
def reclaimExpired (f : Slot) (s : State) : State :=
  let q := s.seq f
  s.setSeq f { q with state := .ready, shot := 0, reclaim := none }

/-- R120: the feeder's sequencer when the device or the feeder leaves service. -/
def leaveSequencer (f : Slot) (s : State) : State :=
  let q := s.seq f
  match q.state with
  | .opening => enterLockout .service f s
  | .dead => enterLockout .service f s
  | .closing => enterLockout .service f s
  | .reclaim => s.setSeq f { q with state := .ready, shot := 0, reclaim := none }
  | .ready => s
  | .lockout => s

/-- R121: a sequencer at RESTART, after its block reasons have their values after RESTART. -/
def restartSequencer (f : Slot) (s : State) : State :=
  let q := s.seq f
  match q.state with
  | .opening => enterLockout .service f s
  | .dead => enterLockout .service f s
  | .closing => enterLockout .service f s
  | .lockout => s.setSeq f { q with dead := none, reclaim := none, endCause := .none, awaited := none }
  | .ready => s.setSeq f { SeqRecord.powerOn with reasons := q.reasons }
  | .reclaim => s.setSeq f { SeqRecord.powerOn with reasons := q.reasons }

/-- R119: EARTH is removed, and a closed feeder in LOCKOUT whose set is then empty returns to READY. -/
def resetLockout (f : Slot) (s : State) : State :=
  let t := removeReason .earth f s
  let q := t.seq f
  if q.state = .lockout ∧ (t.switch f).position = .closed ∧ q.reasons.isEmpty = true then
    t.setSeq f { q with state := .ready, shot := 0, lockoutCause := .none }
  else t

end Sys2Proof.Machine
end

