-- ==== Sys2Proof/Machine/Groups.lean ====
section
/-! DEFINITION. GST: validity of curves and groups, and the active and pending group of each feeder
(Chapter 4). -/

namespace Sys2Proof.Machine

/-! ## Validity -/

/-- The points that are part of a curve (R62). -/
def Curve.used (c : Curve) : List CurvePoint := c.points.toList.take c.count

/-- Every point in range, m rising, rates not falling (R63). -/
def pointsValid : List CurvePoint → Bool
  | [] => true
  | [p] => decide (16 ≤ p.m ∧ p.m ≤ 640 ∧ 1 ≤ p.rate ∧ p.rate ≤ 1048576)
  | p :: q :: ps =>
    decide (16 ≤ p.m ∧ p.m ≤ 640 ∧ 1 ≤ p.rate ∧ p.rate ≤ 1048576) &&
      decide (p.m < q.m ∧ p.rate ≤ q.rate) && pointsValid (q :: ps)

/-- R63. -/
def Curve.valid (c : Curve) : Bool :=
  decide (2 ≤ c.count ∧ c.count ≤ 16) && pointsValid c.used

/-- The curve a group names by number, if there is one. -/
def curveAt (curves : Vector Curve 8) (n : Nat) : Option Curve :=
  if h : n < 8 then some curves[n] else none

/-- A threshold or pickup is 0 (off) or at least `low`, and at most 46339 (R65). -/
def thresholdInRange (low t : Nat) : Bool := decide (t = 0 ∨ (low ≤ t ∧ t ≤ 46339))

/-- The fields of an inverse-time element in range, and its curve valid when it is on (R65, R66). -/
def InverseSetting.valid (curves : Vector Curve 8) (d : InverseSetting) : Bool :=
  thresholdInRange 16 d.pickup && decide (d.curve ≤ 7) && decide (1 ≤ d.dial ∧ d.dial ≤ 255) &&
    decide (d.resetMode ≤ 1) && decide (1 ≤ d.resetRate ∧ d.resetRate ≤ 1048576) &&
    (d.pickup == 0 ||
      (match curveAt curves d.curve with
       | some c => c.valid
       | none => false))

/-- A shot record's dead time in range (R65). -/
def ShotRecord.valid (r : ShotRecord) : Bool := decide (5 ≤ r.deadTime ∧ r.deadTime ≤ 12000)

/-- R66: every field of R65 in its range and the curves in use valid. -/
def GroupRecord.valid (curves : Vector Curve 8) (g : GroupRecord) : Bool :=
  thresholdInRange 16 g.phHs.threshold && decide (g.phHs.delay ≤ 4095) && g.phIt.valid curves &&
    thresholdInRange 16 g.efHs.threshold && decide (g.efHs.delay ≤ 4095) && g.efIt.valid curves &&
    thresholdInRange 4 g.sef.threshold && decide (g.sef.delay ≤ 65535) &&
    decide (g.inrush = 0 ∨ (10 ≤ g.inrush ∧ g.inrush ≤ 40)) && decide (g.maxShots ≤ 4) &&
    g.shots.toList.all ShotRecord.valid && decide (100 ≤ g.reclaimTime ∧ g.reclaimTime ≤ 30000) &&
    decide (g.efTripRecloses ≤ 1)

/-- Is group `g` of feeder `f` valid by R66 as the tables stand? -/
def groupValidAt (s : State) (f : Slot) (g : GroupNo) : Bool := (s.group f g).valid s.gst.curves

/-- The mode map names `g` for one or more modes. -/
def FeederRecord.names (r : FeederRecord) (g : GroupNo) : Bool := r.modeMap.toList.contains g

/-- Does an inverse-time element that is on use curve `n`? -/
def InverseSetting.uses (d : InverseSetting) (n : Nat) : Bool := d.pickup != 0 && d.curve == n

/-- An in-service feeder has a group named in its mode map that uses curve `n` (R64). -/
def curveInUse (s : State) (n : Nat) : Bool :=
  allSlots.any fun f =>
    (s.feeder f).inService &&
      (s.feeder f).modeMap.toList.any fun g =>
        (s.group f g).phIt.uses n || (s.group f g).efIt.uses n

/-! ## Active and pending group -/

/-- A group becomes active and no group is pending; GROUP_CHANGE is raised and RCS is told (R74, R75). The
notice carries the sample number, and its detail names it too (R74, R76; log entry 14). The element state record is
left as it stands: an element that one change at once turns off and another turns on again before it has been
evaluated keeps its flags and its count or accumulator (R75 beside R39: DESIGN CHOICE, log entry 40). -/
def applyGroup (way : GroupWay) (sampleNo : Option SampleNo) (g : GroupNo) (f : Slot) (s : State) :
    State :=
  groupNotify f
    (raise (some f) sampleNo (.groupChange (s.activeGroup f) g way sampleNo) (s.setGroups f (some g) none))

/-- R73: MDU asks GST for group `g` of feeder `f`. -/
def requestGroup (g : GroupNo) (f : Slot) (s : State) : State :=
  match s.activeGroup f with
  | none => s
  | some a =>
    if g = a then
      match s.pendingGroup f with
      | none => s
      | some _ =>
        raise (some f) none (.groupDeferred a none (s.feederMode f)) (s.setGroups f (some a) none)
    else if s.pendingGroup f = some g then s
    else if (s.stream f.role).state.delivers then
      raise (some f) none (.groupDeferred a (some g) (s.feederMode f))
        (s.setGroups f (some a) (some g))
    else applyGroup .atOnce none g f s

/-- R74: the pending group, if any, is applied at the start of a cycle-completion evaluation. -/
def applyPending (n : SampleNo) (f : Slot) (s : State) : State :=
  match s.pendingGroup f with
  | some g => applyGroup .atCompletion (some n) g f s
  | none => s

/-- R75: the feeder's stream enters FILLING or LOST; a pending group is applied at once. -/
def applyPendingAtEntry (f : Slot) (s : State) : State :=
  match s.pendingGroup f with
  | some g => applyGroup .atOnce none g f s
  | none => s

/-- R72: at an entry into CONFIGURING every active and pending group becomes absent. -/
def clearGroups (s : State) : State :=
  { s with gst := { s.gst with
      activeGroup := .replicate 8 none
      pendingGroup := .replicate 8 none } }

/-- The group the feeder's mode map names for its district's mode (R72). -/
def mappedGroup (s : State) (f : Slot) : GroupNo := (s.feeder f).modeMap[(s.feederMode f).index]

/-- R72: at ENTER SERVICE an in-service feeder's active group is the mapped one, with no notice. -/
def setActiveAtEntry (f : Slot) (s : State) : State :=
  if (s.feeder f).inService then s.setGroups f (some (mappedGroup s f)) none else s

end Sys2Proof.Machine
end

