-- ==== Sys2Proof/Machine/Orders.lean ====
section
/-! DEFINITION. ORU: the switch record, the order record and its progress (Chapter 5). ORU's reports are
returned as a list; the caller hands them to RCS and EFS (log entry 9). -/

namespace Sys2Proof.Machine

/-! ## Position -/

/-- R81. -/
def derivePosition (reported : Option Reported) (o : OrderRecord) : Position :=
  match reported with
  | none => .unknown
  | some .opened => if o.state = .sent ∧ o.kind = .close then .between else .opened
  | some .closed => .closed
  | some .between => .between

/-- ORU derives the position anew (R81). -/
def refreshPosition (f : Slot) (s : State) : State :=
  let w := s.switch f
  s.setSwitch f { w with position := derivePosition w.reported (s.order f) }

/-- A change of the order record's state, with the position derived anew (R81). -/
def putOrder (f : Slot) (o : OrderRecord) (s : State) : State := refreshPosition f (s.setOrder f o)

/-! ## Health -/

/-- R86: SWITCH brought into line with the health. -/
def alignSwitch (f : Slot) (s : State) : State :=
  alignReason .switch ((s.switch f).health != .reachable) f s

/-- A change of health brings SWITCH into line (R86). -/
def setHealth (h : Health) (f : Slot) (s : State) : State :=
  alignSwitch f (s.setSwitch f { s.switch f with health := h })

/-- R84: the STATE supervision timer has expired. -/
def stateSupervisionExpired (f : Slot) (s : State) : State :=
  let t := s.setSwitch f { s.switch f with supervision := none }
  if (s.switch f).health = .reachable then setHealth .unreachable f t else t

/-- R85: a failed order raises the fail count, holding at 8, and the health is judged. -/
def countFailure (f : Slot) (s : State) : State :=
  let w := s.switch f
  let n := min 8 (w.failCount + 1)
  let t := s.setSwitch f { w with failCount := n }
  if (s.feeder f).failLimit ≤ n then setHealth .failed f t else t

/-- R85: RESET SWITCH. -/
def resetSwitch (f : Slot) (s : State) : State :=
  let w := s.switch f
  let t := s.setSwitch f { w with failCount := 0 }
  if w.health = .failed then
    setHealth (if w.supervision.isSome then .reachable else .unreachable) f t
  else t

/-- R84: the set-up of one feeder at an activation of the unit map, its SWITCH reason apart. -/
def activatedSwitch (addr : RingAddr) (w : SwitchRecord) : SwitchRecord :=
  if addr = 0 then
    { w with supervision := none, health := if w.health = .failed then .failed else .unreachable }
  else
    { w with supervision := some 1000, health := if w.health = .failed then .failed else .reachable }

/-- R84: a feeder's switch record at an activation of the unit map. -/
def activateSwitch (f : Slot) (s : State) : State :=
  s.setSwitch f (activatedSwitch (s.switchAddress f) (s.switch f))

/-! ## Taking a request -/

/-- R88: a fresh order number. -/
def freshNumber (lastIssued lastExecuted : OrderNo) : OrderNo :=
  if lastIssued + 1 = lastExecuted then lastIssued + 2 else lastIssued + 1

/-- The record enters REQUESTED with a fresh number, no joined origins and its timers stopped (R88, R91,
R92). -/
def enterRequested (k : OrderKind) (who : Origin) (f : Slot) (s : State) : State :=
  let n := freshNumber (s.order f).lastIssued (s.switch f).lastExecuted
  putOrder f ⟨.requested, k, who, .empty, n, n, none, none⟩ s

/-- ORU's answer, its reports and the state after it. -/
structure Asked where
  answer  : Answer
  reports : List OrderReport
  state   : State

/-- A refusal: it changes nothing and is reported (R89). -/
def refuse (c : RefuseCause) (k : OrderKind) (who : Origin) (f : Slot) (s : State) : Asked :=
  ⟨.refused c, [⟨f, k, who, none, .empty, .refused⟩], s⟩

/-- A request enters REQUESTED: TAKEN (R91). -/
def take (k : OrderKind) (who : Origin) (f : Slot) (s : State) : Asked :=
  let t := enterRequested k who f s
  ⟨.taken (t.order f).number, [⟨f, k, who, some (t.order f).number, .empty, .taken⟩], t⟩

/-- R90 step 2: a request for a feeder without switch unit. For an OPEN, ORU also reports FAILED without
number and raises ORDER_FAIL, also for an OPERATE, of which R183 says that a refused request changes nothing
(DESIGN CHOICE, log entry 39). -/
def refuseNoSwitch (k : OrderKind) (who : Origin) (f : Slot) (s : State) : Asked :=
  match k with
  | .close => refuse .noSwitch k who f s
  | .open =>
    ⟨.refused .noSwitch,
      [⟨f, k, who, none, .empty, .refused⟩, ⟨f, k, who, none, .empty, .failed⟩],
      raise (some f) none
        (.orderFail .open who .empty none (s.switch f).failCount (s.switch f).health) s⟩

/-- The joined origins after a merge: the asking origin joins unless it is the order's own (R93). -/
def joinOrigin (o : OrderRecord) (who : Origin) : OriginSet :=
  if who = o.origin then o.joined else o.joined.add who

/-- R91, R92, R93: a request that has passed R90, by the order record. -/
def askRecord (k : OrderKind) (who : Origin) (f : Slot) (s : State) : Asked :=
  let o := s.order f
  match k with
  | .open =>
    if o.inFlight = false then take .open who f s
    else
      match o.kind with
      | .close =>
        let a := take .open who f s
        ⟨a.answer, ⟨f, .close, o.origin, some o.number, o.joined, .superseded⟩ :: a.reports, a.state⟩
      | .open =>
        ⟨.merged o.number, [⟨f, .open, who, some o.number, joinOrigin o who, .merged⟩],
          s.setOrder f { o with joined := joinOrigin o who }⟩
  | .close =>
    if o.inFlight = true then refuse .busy k who f s
    else if (who = .reclose ∨ who = .earth) ∧ s.holds f .fire = true then refuse .fire k who f s
    else take .close who f s

/-- R90, then R91: a block asks ORU for an order. -/
def askOrder (k : OrderKind) (who : Origin) (f : Slot) (s : State) : Asked :=
  if who = .operator ∧ s.mgr.device = .configuring then refuse .state k who f s
  else if s.switchAddress f = 0 then refuseNoSwitch k who f s
  else if who = .operator ∧ s.holds f .tag = true then refuse .tag k who f s
  else if who = .operator ∧ s.holds f .local = true then refuse .local k who f s
  else askRecord k who f s

/-! ## Sending, confirmation, failure -/

/-- R95: RPT starts the ORDER frame of feeder `f`. -/
def orderStarted (f : Slot) (s : State) : State :=
  putOrder f { s.order f with
    state := .sent
    echoWatch := some 5
    confirm := some (10 * (s.feeder f).confirmLimit) } s

/-- The order record back in IDLE with its timers stopped (R87). -/
def OrderRecord.idled (o : OrderRecord) : OrderRecord :=
  { o with state := .idle, echoWatch := none, confirm := none }

/-- A report about the order of record `o`. -/
def reportOf (h : Happened) (f : Slot) (o : OrderRecord) : OrderReport :=
  ⟨f, o.kind, o.origin, some o.number, o.joined, h⟩

/-- R96, steps 1 to 3: the confirm timer of a SENT order has reached 0. The report FAILED goes out as
`reportOf .failed`. -/
def orderFailed (f : Slot) (s : State) : State :=
  let o := s.order f
  let t := countFailure f (putOrder f o.idled s)
  raise (some f) none
    (.orderFail o.kind o.origin o.joined (some o.number) (t.switch f).failCount (t.switch f).health) t

/-- R97: the echo watch has expired. The watch is stopped from then on, while the order stays SENT (DESIGN
CHOICE, log entry 37). -/
def echoExpired (f : Slot) (s : State) : State :=
  let o := s.order f
  raise (some f) none (.ringEcho o.kind o.number)
    { (s.setOrder f { o with echoWatch := none }) with
      oru := { (s.setOrder f { o with echoWatch := none }).oru with echoMissing := true } }

/-- R97: the echo of an ORDER frame stops the running echo watch of a SENT order of its number. -/
def orderEcho (f : Slot) (n : OrderNo) (s : State) : State :=
  let o := s.order f
  if o.state = .sent ∧ o.echoWatch.isSome = true ∧ o.number = n then
    s.setOrder f { o with echoWatch := none }
  else s

/-- Is the order one that FIRE withdraws (R94): a REQUESTED CLOSE of origin RECLOSE or EARTH? -/
def OrderRecord.withdrawable (o : OrderRecord) : Bool :=
  o.state == .requested && o.kind == .close && (o.origin == .reclose || o.origin == .earth)

/-- R94: a withdrawn order's record. -/
def withdrawOrder (f : Slot) (s : State) : State := putOrder f (s.order f).idled s

/-! ## STATE frames -/

/-- What a STATE frame carries (R80). -/
structure StateReport where
  reported : Reported
  tag      : Bool
  loc      : Bool
  executed : OrderNo
  deriving DecidableEq, Repr

/-- The payload of a STATE frame (R199), if its position is one of the three (R80). -/
def StateReport.ofPayload (bs : List Byte) : Option StateReport :=
  match Reported.ofByte (nat8At bs 0) with
  | some p => some ⟨p, (byteAt bs 1).getLsbD 0, (byteAt bs 1).getLsbD 1, byteAt bs 2⟩
  | none => none

/-- The target position of an order (R87). -/
def OrderKind.target : OrderKind → Reported
  | .open => .opened
  | .close => .closed

/-- A STATE frame confirms a SENT order when number and position match (R95). -/
def confirms (o : OrderRecord) (r : StateReport) : Bool :=
  o.state == .sent && r.executed == o.number && r.reported == o.kind.target

/-- The settled position a report settles at, if it is a settling report (R82). -/
def Reported.settled : Reported → Option Settled
  | .opened => some .opened
  | .closed => some .closed
  | .between => none

/-- R82: the position report of a settling report that confirmed nothing. -/
def settlingReport (before : Option Settled) (now : Settled) : Option PositionReport :=
  match before, now with
  | none, .opened => some .initialOpen
  | none, .closed => some .initialClosed
  | some .closed, .opened => some .unsolicitedOpen
  | some .opened, .closed => some .unsolicitedClose
  | some .opened, .opened => none
  | some .closed, .closed => none

/-- Steps 1 to 3 of R80: supervision and health, the copied fields, TAG and LOCAL. TAG is brought into line
before LOCAL (DESIGN CHOICE, log entry 31). -/
def stateCopied (r : StateReport) (f : Slot) (s : State) : State :=
  let w := s.switch f
  let t := s.setSwitch f { w with
    supervision := some 1000
    reported := some r.reported
    tag := r.tag
    loc := r.loc
    lastExecuted := r.executed }
  let u := if w.health = .unreachable then setHealth .reachable f t else t
  alignReason .local r.loc f (alignReason .tag r.tag f u)

/-- R95: the confirmed order's record goes to IDLE and the fail count becomes 0. -/
def orderConfirmed (f : Slot) (s : State) : State :=
  let t := putOrder f (s.order f).idled s
  t.setSwitch f { t.switch f with failCount := 0 }

/-- Steps 5 and 6 of R80: the settled position follows the report, and the position is derived anew. -/
def settle (r : StateReport) (f : Slot) (s : State) : State :=
  let w := s.switch f
  refreshPosition f (s.setSwitch f { w with
    settled := match r.reported.settled with
      | some x => some x
      | none => w.settled })

/-- R80: ORU takes a STATE frame for feeder `f`. -/
def takeStateReport (r : StateReport) (f : Slot) (s : State) : State :=
  let t := stateCopied r f s
  settle r f (if confirms (t.order f) r then orderConfirmed f t else t)

/-- The order report of a STATE frame: CONFIRMED when it confirms the SENT order (R95). -/
def stateOrderReport (r : StateReport) (f : Slot) (s : State) : Option OrderReport :=
  if confirms (s.order f) r then some (reportOf .confirmed f (s.order f)) else none

/-- The position report of a STATE frame that confirms nothing (R82). -/
def statePositionReport (r : StateReport) (f : Slot) (s : State) : Option PositionReport :=
  if confirms (s.order f) r then none
  else match r.reported.settled with
    | some x => settlingReport (s.switch f).settled x
    | none => none

end Sys2Proof.Machine
end

