-- ==== Sys2Proof/Machine/Phasor.lean ====
section
/-! DEFINITION. PHE: the coefficient table, the Fourier sums, magnitudes, windows, cycle results and W
(Chapter 2). -/

namespace Sys2Proof.Machine

/-! ## The coefficient table (R21) -/

/-- C[0] to C[31]. -/
def cosTable : List Int :=
  [16384, 16069, 15137, 13623, 11585, 9102, 6270, 3196,
   0, -3196, -6270, -9102, -11585, -13623, -15137, -16069,
   -16384, -16069, -15137, -13623, -11585, -9102, -6270, -3196,
   0, 3196, 6270, 9102, 11585, 13623, 15137, 16069]

/-- S[0] to S[31]. -/
def sinTable : List Int :=
  [0, -3196, -6270, -9102, -11585, -13623, -15137, -16069,
   -16384, -16069, -15137, -13623, -11585, -9102, -6270, -3196,
   0, 3196, 6270, 9102, 11585, 13623, 15137, 16069,
   16384, 16069, 15137, 13623, 11585, 9102, 6270, 3196]

/-- C[k] for a coefficient index k. -/
def cosAt (k : Nat) : Int := cosTable.getD (k % 32) 0

/-- S[k] for a coefficient index k. -/
def sinAt (k : Nat) : Int := sinTable.getD (k % 32) 0

/-- The coefficient indexes. -/
def allIndexes : List Nat := List.range 32

/-! ## Phasors -/

/-- The coefficient index of a sample: its number mod 32. -/
def coeffIndex (n : SampleNo) : Fin 32 := ⟨n.toNat % 32, by omega⟩

/-- The cycle number of a sample: floor(number / 32). -/
def cycleOf (n : SampleNo) : CycleNo := BitVec.ofNat 11 (n.toNat / 32)

/-- The exact sum over the 32 slots of value × coefficient (R23). -/
def coeffSum (coeff : Nat → Int) (w : Vector WindowSlot 32) : Int :=
  (w.toList.zipIdx.map fun p => p.1.value.toInt * coeff p.2).sum

/-- A component: the sum rounded half up by 262144, then clamped (R23). -/
def component (sum : Int) : Int := clamp (-32767) 32767 ((sum + 131072) / 262144)

/-- R23. -/
def fundamental (w : Vector WindowSlot 32) : Phasor :=
  ⟨component (coeffSum cosAt w), component (coeffSum sinAt w)⟩

/-- R24: the coefficients of index (2k) mod 32. -/
def secondHarmonic (w : Vector WindowSlot 32) : Phasor :=
  ⟨component (coeffSum (fun k => cosAt (2 * k)) w), component (coeffSum (fun k => sinAt (2 * k)) w)⟩

/-- R25. -/
def Phasor.magnitude (p : Phasor) : Nat := isqrt (p.re * p.re + p.im * p.im).toNat

/-- The substituted magnitude of an overranged channel (R26). -/
def overrangeMagnitude : Nat := 46339

/-- R26: a channel is overranged when the flag is set in any of its 32 slots. -/
def overranged (w : Vector WindowSlot 32) : Bool := w.toList.any WindowSlot.overrange

/-- The fundamental of one channel with its magnitude and overrange flag (R23, R25, R26). -/
def channelResult (w : Vector WindowSlot 32) : ChannelResult :=
  let p := fundamental w
  let o := overranged w
  ⟨p, if o then overrangeMagnitude else p.magnitude, o⟩

/-- The second harmonic of one phase channel (R24, R25); no substitution (R26). -/
def harmonicResult (w : Vector WindowSlot 32) : Harmonic :=
  let p := secondHarmonic w
  ⟨p, p.magnitude⟩

/-- The four channels' fundamentals. -/
def Window.results (w : Window) : Vector ChannelResult 4 := mapV channelResult w.channels

/-- The second harmonics of IA, IB and IC. -/
def Window.harmonics (w : Window) : Vector Harmonic 3 :=
  #v[harmonicResult w.channels[0], harmonicResult w.channels[1], harmonicResult w.channels[2]]

/-! ## Samples and windows -/

/-- One sample of a unit's four channels with its OVERRANGE flags. -/
structure Sample where
  number : SampleNo
  values : Vector (BitVec 16) 4
  overs  : Vector Bool 4
  deriving DecidableEq, Repr

/-- The payload of a SAMPLE frame (R199). -/
def Sample.ofPayload (bs : List Byte) : Sample where
  number := word16At bs 0
  values := #v[word16At bs 4, word16At bs 6, word16At bs 8, word16At bs 10]
  overs := #v[(byteAt bs 2).getLsbD 0, (byteAt bs 2).getLsbD 1, (byteAt bs 2).getLsbD 2,
    (byteAt bs 2).getLsbD 3]

/-- One channel's slot of the sample's index is replaced (R22). -/
def storeChannel (x : Sample) (filled : Bool) (w : Window) (ch : Fin 4) : Vector WindowSlot 32 :=
  upd w.channels[ch] (coeffIndex x.number) ⟨x.values[ch], x.overs[ch], filled, true⟩

/-- The sample is stored in the slots of its index; the stored count rises when they were unoccupied
(R22). -/
def Window.store (x : Sample) (filled : Bool) (w : Window) : Window where
  channels := #v[storeChannel x filled w 0, storeChannel x filled w 1, storeChannel x filled w 2,
    storeChannel x filled w 3]
  stored :=
    if (w.channels[0][coeffIndex x.number]).occupied then w.stored else w.stored + 1

/-- The sample in the slots of number `n`: what a filled sample repeats (R8, log entry 24). -/
def Window.sampleAt (n : SampleNo) (w : Window) : Sample where
  number := n
  values := mapV (fun ch => (ch[coeffIndex n]).value) w.channels
  overs := mapV (fun ch => (ch[coeffIndex n]).overrange) w.channels

/-- Is the sample's coefficient index 31: a cycle completion (R22)? -/
def completes (n : SampleNo) : Bool := (coeffIndex n).val == 31

/-- The cycle result of a feeder stream (R28). -/
def feederResult (n : SampleNo) (patched : Bool) (w : Window) : CycleResult :=
  ⟨cycleOf n, w.results, some w.harmonics, patched⟩

/-- The cycle result of the bus stream (R28). -/
def busResult (n : SampleNo) (patched : Bool) (w : Window) : CycleResult :=
  ⟨cycleOf n, w.results, none, patched⟩

/-- A new result enters at the head; the fifth leaves (R29). -/
def pushResult (r : CycleResult) (rs : List CycleResult) : List CycleResult := (r :: rs).take 4

/-- R31: the result of a cycle number, if the list holds it. -/
def lookupResult (c : CycleNo) (rs : List CycleResult) : Option CycleResult :=
  rs.find? fun r => r.cycle == c

/-- R22 for a feeder stream: store, and in LOCKED or PATCHED compute. -/
def PheStream.updateFeeder (x : Sample) (filled : Bool) (st : StreamState) (p : PheStream) :
    PheStream :=
  let w := p.window.store x filled
  if st.delivers then
    { window := w
      present := some w.results
      results :=
        if completes x.number then pushResult (feederResult x.number (st == .patched) w) p.results
        else p.results }
  else { p with window := w }

/-- R22 for the bus stream. -/
def PheStream.updateBus (x : Sample) (filled : Bool) (st : StreamState) (p : PheStream) : PheStream :=
  let w := p.window.store x filled
  { p with
    window := w
    results :=
      if st.delivers && completes x.number then
        pushResult (busResult x.number (st == .patched) w) p.results
      else p.results }

/-- R20: the window, present phasors and list of a stream are emptied together. -/
def emptyStream (r : Role) (s : State) : State := s.setPheStream r .empty

/-! ## Residual active power (R32) -/

/-- W of a pair: the IN phasor of the feeder's result and the VN phasor of the bus's. -/
def residualPower (feeder bus : CycleResult) : Int :=
  let i := feeder.channels[3].phasor
  let v := bus.channels[3].phasor
  clamp (-65535) 65535 ((i.re * v.re + i.im * v.im) / 32768)

/-- Does a result carry an overrange flag on any channel? -/
def CycleResult.anyOverrange (r : CycleResult) : Bool := r.channels.toList.any ChannelResult.overrange

end Sys2Proof.Machine
end

