-- ==== Sys2Proof/Machine/EarthFault.lean ====
section
/-! DEFINITION. EFS: detection, votes, the identified feeder, the hunt and the bus trip (Chapter 7). -/

namespace Sys2Proof.Machine

/-- EFS asks ORU for an order of origin EARTH. RCS takes ORU's reports; EFS has its answer (log entry
9). -/
def efsAsk (k : OrderKind) (f : Slot) (s : State) : Answer × State :=
  let a := askOrder k .earth f s
  (a.answer, a.reports.foldl (fun t p => rcsReport p t) a.state)

/-! ## Outcomes -/

/-- R126: EFS writes the whole result record and raises EF_RESULT. -/
def writeOutcome (o : EarthOutcome) (feeder : Option Slot) (s : State) : State :=
  let r : EarthResult :=
    ⟨o, feeder, s.efs.record.episodeTod, s.tod, s.efs.record.votes, s.efs.record.candidates⟩
  raise none none (.efResult r) { s with efs := { s.efs with result := r } }

/-- EFS enters a state that no identified feeder and no countdown belong to (log entry 17). -/
def enterState (x : EfsState) (s : State) : State :=
  s.setEfs { s.efs.record with
    state := x
    countdown := none
    identified := none
    phase := none
    awaited := none }

/-- The state becomes QUIET and the outcome is written. -/
def endEpisode (o : EarthOutcome) (feeder : Option Slot) (s : State) : State :=
  writeOutcome o feeder (enterState .quiet s)

/-! ## The bus trip (R144) -/

/-- Step 1 of R144 for one feeder; the second component gathers the feeders ordered open. -/
def busTripFeeder (acc : State × SlotSet) (f : Slot) : State × SlotSet :=
  let s := acc.1
  if (s.feeder f).inService = true ∧ (s.switch f).position ≠ .opened then
    let a := efsAsk .open f (addReason .earth f s)
    let t := a.2
    match a.1 with
    | .taken n =>
      (t.setEfs { t.efs.record with busTripList := upd t.efs.record.busTripList f (some n) },
        upd acc.2 f true)
    | .merged n =>
      (t.setEfs { t.efs.record with busTripList := upd t.efs.record.busTripList f (some n) },
        upd acc.2 f true)
    | .refused _ => (t, upd acc.2 f true)
  else acc

/-- R144. -/
def busTrip (s : State) : State :=
  let began := s.efs.record.state
  let a := allSlots.foldl busTripFeeder (s, SlotSet.empty)
  enterState .busTrip (raise none none (.busTrip a.1.mdu.busMode a.2 began) a.1)

/-! ## The hunt -/

/-- The exclusions of R135, at this moment. -/
def huntExcluded (s : State) (f : Slot) : Bool :=
  (s.switch f).position == .opened || !(s.feeder f).inService ||
    (s.holds f .tag || s.holds f .local || s.holds f .switch || s.holds f .stream ||
      s.holds f .operator || s.holds f .earth) ||
    (s.order f).inFlight || (s.seq f).state != .ready

/-- R135: the candidates of the hunt order table in its order, then its other feeders in its order, less
the excluded ones. -/
def buildHuntList (s : State) : List Slot :=
  let set := s.efs.record.candidates
  ((s.efs.huntOrder.filter fun f => set[f]) ++ (s.efs.huntOrder.filter fun f => !set[f])).filter
    fun f => !huntExcluded s f

/-- R136: no feeder is under test. -/
def clearStep (s : State) : State :=
  s.setHunt { s.efs.hunt with underTest := none, step := none, countdown := none, order := none }

/-- R140: the list is exhausted. -/
def huntExhausted (s : State) : State :=
  let t := writeOutcome .persistent none (enterState .persistent s)
  match (t.earthMode t.mdu.busMode).persistent with
  | .busTrip => busTrip t
  | .alarm => t

/-- The step index rises by 1. -/
def nextIndex (s : State) : State := s.setHunt { s.efs.hunt with stepIndex := s.efs.hunt.stepIndex + 1 }

/-- A HUNT_STEP notice with its mark (R136). -/
def raiseStep (started : Bool) (f : Slot) (s : State) : State :=
  raise (some f) none
    (.huntStep s.efs.hunt.stepIndex s.efs.hunt.list.length s.efs.hunt.origin started) s

/-- The feeder becomes the feeder under test and holds HUNT; HUNT_STEP is raised (R136). -/
def beginStep (f : Slot) (s : State) : State :=
  raiseStep true f
    (addReason .hunt f
      (s.setHunt { s.efs.hunt with
        underTest := some f, step := some .opening, countdown := none, order := none }))

/-- R136: starts the step at the step index, skipping excluded feeders and steps whose OPEN is refused
(R137). The number bounds the steps that can still be tried. -/
def startSteps : Nat → State → State
  | 0, s => s
  | n + 1, s =>
    match s.efs.hunt.list[s.efs.hunt.stepIndex]? with
    | none => huntExhausted s
    | some f =>
      if huntExcluded s f then startSteps n (nextIndex (raiseStep false f s))
      else
        let a := efsAsk .open f (beginStep f s)
        match a.1 with
        | .taken k => a.2.setHunt { a.2.efs.hunt with order := some k }
        | .merged k => a.2.setHunt { a.2.efs.hunt with order := some k }
        | .refused _ => startSteps n (nextIndex (clearStep (removeReason .hunt f a.2)))

/-- Starts the step at the step index (R136). -/
def startStep (s : State) : State := startSteps (s.efs.hunt.list.length + 1) s

/-- R137, R139: the step of feeder `f` ends and the next step starts. -/
def endStep (f : Slot) (s : State) : State :=
  startStep (nextIndex (clearStep (removeReason .hunt f s)))

/-- R136: a hunt begins. -/
def startHunt (o : HuntOrigin) (s : State) : State :=
  let t := s.setHunt {
    list := buildHuntList s
    stepIndex := 0
    underTest := none
    step := none
    countdown := none
    order := none
    elapsed := 0
    origin := o
    abortCause := .none }
  startStep (enterState .hunting { t with due := { t.due with huntLimit := false } })

/-- R131: the decision. -/
def decide131 (s : State) : State :=
  if s.mdu.busMode = .ban then busTrip s
  else if (s.earthMode s.mdu.busMode).autoHunt = true then startHunt .auto s
  else enterState .unresolved s

/-- R143: an abort ends. The feeder under test has lost HUNT. -/
def abortEnd (s : State) : State :=
  let c := s.efs.hunt.abortCause
  let t := clearStep (writeOutcome .aborted s.efs.hunt.underTest s)
  if t.mdu.busMode = .ban then busTrip t
  else if t.efs.record.vnDropped = true then enterState .quiet t
  else if c = .limit ∧ t.mdu.busMode = .season then busTrip t
  else if c = .protection then
    let u := enterState .displaced t
    u.setEfs { u.efs.record with countdown := some u.efs.settings.confirmCycles }
  else enterState .unresolved t

/-- R139: a failed restore. -/
def restoreFailed (f : Slot) (s : State) : State :=
  let t := demandLockout f s
  if t.efs.hunt.abortCause = .none then endStep f t else abortEnd (removeReason .hunt f t)

/-- R138, R142: EFS asks the restore CLOSE of the feeder under test. The step countdown stops (DESIGN CHOICE,
log entry 32). -/
def askRestore (f : Slot) (s : State) : State :=
  let a := efsAsk .close f
    (s.setHunt { s.efs.hunt with step := some .restoring, countdown := none, order := none })
  match a.1 with
  | .taken k => a.2.setHunt { a.2.efs.hunt with order := some k }
  | .merged k => a.2.setHunt { a.2.efs.hunt with order := some k }
  | .refused _ => restoreFailed f a.2

/-- R142: the restore of an abort, by the step state of the feeder under test. -/
def abortRestore (s : State) : State :=
  match s.efs.hunt.underTest, s.efs.hunt.step with
  | some _, some .opening => s
  | some f, some .observing => askRestore f s
  | some _, some .restoring => s
  | some f, some .settling => abortEnd (removeReason .hunt f s)
  | _, _ => abortEnd s

/-- R142: B is BAN at the abort; the feeder under test is left open. -/
def abortUnderBan (s : State) : State :=
  let t := match s.efs.hunt.underTest with
    | some f => removeReason .hunt f (demandLockout f (addReason .earth f s))
    | none => s
  abortEnd (t.setHunt { t.efs.hunt with order := none, countdown := none })

/-- R142: an abort event, taken while the state is HUNTING and the abort cause is none. -/
def abortHunt (c : AbortCause) (s : State) : State :=
  if s.mgr.device = .inService ∧ s.efs.record.state = .hunting ∧ s.efs.hunt.abortCause = .none then
    let t := s.setHunt { s.efs.hunt with abortCause := c }
    if t.mdu.busMode = .ban then abortUnderBan t else abortRestore t
  else s

/-! ## The identified feeder -/

/-- An OPEN of origin EARTH whose outcome EFS does not await, when the feeder is not open and has no order
in flight (R134). -/
def reopen (f : Slot) (s : State) : State :=
  if (s.switch f).position ≠ .opened ∧ (s.order f).inFlight = false then (efsAsk .open f s).2 else s

/-- R134: a persisting displacement of identified feeder `f`. -/
def displacementPersists (f : Slot) (s : State) : State :=
  let t := reopen f (demandLockout f (addReason .earth f s))
  decide131 (t.setEfs { t.efs.record with
    identified := none
    phase := none
    awaited := none
    countdown := none
    candidates := upd t.efs.record.candidates f false })

/-- R134: the OBSERVING phase begins. -/
def beginObserving (s : State) : State :=
  s.setEfs { s.efs.record with
    awaited := none
    phase := some .observing
    countdown := some s.efs.settings.observeCycles }

/-- Step 1 of R133: the reclose-initiating mark. -/
def recloseMarkOf (s : State) (f : Slot) : Bool :=
  s.feederMode f == .normal &&
    (match s.settings f with
     | some g => g.efTripRecloses == 1
     | none => false)

/-- R133: the delay of the identified feeder has expired. -/
def tripIdentified (f : Slot) (s : State) : State :=
  let mark := recloseMarkOf s f
  let t := s.setEfs { s.efs.record with recloseMark := mark }
  let u := if t.feederMode f = .normal then t else addReason .earth f t
  if (u.switch f).position = .opened then beginObserving u
  else
    let a := efsAsk .open f u
    let v := match a.1 with
      | .taken n => a.2.setEfs { a.2.efs.record with awaited := some n, phase := some .opening }
      | .merged n => a.2.setEfs { a.2.efs.record with awaited := some n, phase := some .opening }
      | .refused _ => displacementPersists f a.2
    tripReport mark f v

/-- R132: entry to IDENTIFIED. -/
def enterIdentified (f : Slot) (s : State) : State :=
  s.setEfs { s.efs.record with
    state := .identified
    identified := some f
    phase := some .delay
    delayCount := 0
    countdown := none }

/-! ## Votes (R129) -/

/-- Is `c` in the window and later than the feeder's last paired cycle? -/
def pairable (s : State) (f : Slot) (c : CycleNo) : Bool :=
  match s.efs.record.windowFirst with
  | none => false
  | some w =>
    decide ((c - w).toNat < s.efs.settings.windowCycles) &&
      (match s.efs.record.lastPaired[f] with
       | none => true
       | some p => decide ((p - w).toNat < (c - w).toNat))

/-- Is the vote of the pair withheld? -/
def voteWithheld (s : State) (f : Slot) (rf rb : CycleResult) : Bool :=
  rf.patched || rb.patched || rf.anyOverrange || rb.anyOverrange ||
    (s.switch f).position != .closed || !(s.feeder f).inService

/-- Does the pair earn a vote? -/
def earnsVote (s : State) (f : Slot) (rf rb : CycleResult) : Bool :=
  !voteWithheld s f rf rb && decide (residualPower rf rb ≤ -(s.efs.settings.wSet : Int))

/-- The pair of feeder `f` and one cycle is formed, if it may be, and its vote taken (R129). -/
def formPair (f : Slot) (rf rb : CycleResult) (s : State) : State :=
  if pairable s f rf.cycle then
    s.setEfs { s.efs.record with
      lastPaired := upd s.efs.record.lastPaired f (some rf.cycle)
      votes :=
        if earnsVote s f rf rb then
          upd s.efs.record.votes f (min 250 (s.efs.record.votes[f] + 1))
        else s.efs.record.votes }
  else s

/-- R129: a feeder's cycle result arrives. While the bus stream is not LOCKED or PATCHED no pair is formed,
though its list may still hold the partner (R148, R20). -/
def efsFeederResult (f : Slot) (r : CycleResult) (s : State) : State :=
  if s.mgr.device = .inService ∧ s.efs.record.state = .identifying ∧
      (s.stream busRole).state.delivers = true then
    match lookupResult r.cycle (s.pheStream busRole).results with
    | some b => formPair f r b s
    | none => s
  else s

/-- R129: the pairs that a bus result completes. -/
def formBusPairs (b : CycleResult) (s : State) : State :=
  if s.efs.record.state = .identifying then
    forSlots (fun f t =>
      match lookupResult b.cycle (t.pheStream f.role).results with
      | some r => formPair f r b t
      | none => t) s
  else s

/-! ## Bus cycle completions -/

/-- The bus result's VN (channel 3). -/
def CycleResult.vn (r : CycleResult) : ChannelResult := r.channels[3]

/-- R127: the newest VN magnitude and the VN dropped flag. -/
def refreshVn (r : CycleResult) (s : State) : State :=
  s.setEfs { s.efs.record with
    newestVn := r.vn.magnitude
    vnDropped := isDropped r.vn.magnitude s.efs.settings.vNvd }

/-- Votes zeroed, no cycle paired, no candidate (R127, R128). -/
def clearVotes (s : State) : State :=
  s.setEfs { s.efs.record with
    votes := .replicate 8 0
    lastPaired := .replicate 8 none
    candidates := .empty }

/-- R127 in QUIET. -/
def quietCompletion (r : CycleResult) (s : State) : State :=
  if s.efs.settings.vNvd ≤ r.vn.magnitude then
    let t := clearVotes (s.setEfs { s.efs.record with episodeTod := s.tod })
    raise none none (.efDetected r.cycle r.vn.magnitude r.vn.overrange s.mdu.busMode)
      (t.setEfs { t.efs.record with
        countdown := some t.efs.settings.confirmCycles
        state := .displaced })
  else s

/-- The countdown falls by 1: whether it has reached 0, and the state after (R128, R130, R134). -/
def countDown (s : State) : Bool × State :=
  match s.efs.record.countdown with
  | none => (false, s)
  | some n => (n ≤ 1, s.setEfs { s.efs.record with countdown := some (n - 1) })

/-- R128 -/
def displacedCompletion (r : CycleResult) (s : State) : State :=
  if s.efs.record.vnDropped = true then endEpisode .clearedSelf none s
  else
    let c := countDown s
    if c.1 then
      let t := clearVotes c.2
      t.setEfs { t.efs.record with
        windowFirst := some (r.cycle + 1)
        countdown := some t.efs.settings.windowCycles
        state := .identifying }
    else c.2

/-- The feeders whose vote counters are not less than the vote threshold (R130). -/
def candidateSet (s : State) : SlotSet :=
  mapV (fun v => decide (s.efs.settings.voteThreshold ≤ v)) s.efs.record.votes

/-- R130: the window ends. -/
def windowEnd (s : State) : State :=
  let set := candidateSet s
  let t := s.setEfs { s.efs.record with candidates := set, countdown := none }
  match allSlots.filter fun f => set[f] with
  | [f] => enterIdentified f t
  | _ => decide131 t

/-- R130 -/
def identifyingCompletion (s : State) : State :=
  if s.efs.record.vnDropped = true then endEpisode .clearedSelf none s
  else
    let c := countDown s
    if c.1 then windowEnd c.2 else c.2

/-- R132: a completion in the DELAY phase. -/
def delayCompletion (f : Slot) (s : State) : State :=
  if s.efs.record.vnDropped = true then endEpisode .clearedSelf none s
  else
    let n := min 65535 (s.efs.record.delayCount + 1)
    let t := s.setEfs { s.efs.record with delayCount := n }
    let d := (t.earthMode (t.feederMode f)).tripDelay
    if d ≠ 65535 ∧ d ≤ n then tripIdentified f t else t

/-- R134: a completion in the OBSERVING phase. -/
def observingCompletion (f : Slot) (s : State) : State :=
  if s.efs.record.vnDropped = true then
    let t := if s.efs.record.recloseMark = true then s else demandLockout f (addReason .earth f s)
    endEpisode .trippedIdentified (some f) t
  else
    let c := countDown s
    if c.1 then displacementPersists f c.2 else c.2

/-- A completion in IDENTIFIED (R132, R133, R134). -/
def identifiedCompletion (s : State) : State :=
  match s.efs.record.identified, s.efs.record.phase with
  | some f, some .delay => delayCompletion f s
  | some f, some .observing => observingCompletion f s
  | _, _ => s

/-- R138: the feeder under test is found. -/
def huntFound (f : Slot) (s : State) : State :=
  endEpisode .foundByHunt (some f)
    (clearStep (removeReason .hunt f (demandLockout f (addReason .earth f s))))

/-- The step countdown falls by 1: whether it has reached 0, and the state after (R138, R139). -/
def stepCountDown (s : State) : Bool × State :=
  match s.efs.hunt.countdown with
  | none => (false, s)
  | some n => (n ≤ 1, s.setHunt { s.efs.hunt with countdown := some (n - 1) })

/-- A completion in HUNTING with no abort in progress (R138, R139). -/
def huntingCompletion (s : State) : State :=
  match s.efs.hunt.underTest, s.efs.hunt.step with
  | some f, some .observing =>
    if s.efs.record.vnDropped = true then huntFound f s
    else
      let c := stepCountDown s
      if c.1 then askRestore f c.2 else c.2
  | some f, some .settling =>
    if s.efs.record.vnDropped = true then
      endEpisode .clearedSelf none (clearStep (removeReason .hunt f s))
    else
      let c := stepCountDown s
      if c.1 then endStep f c.2 else c.2
  | _, _ => s

/-- R145: a completion in BUS TRIP. -/
def busTripCompletion (s : State) : State :=
  if s.efs.record.busTripList.toList.all Option.isNone then
    if s.efs.record.vnDropped = true then endEpisode .busTripped none s
    else writeOutcome .persistent none (enterState .persistent s)
  else s

/-- R127: EFS takes a bus cycle completion. -/
def efsBusCompletion (r : CycleResult) (s : State) : State :=
  if s.mgr.device = .inService then
    let t := formBusPairs r (refreshVn r s)
    match t.efs.record.state with
    | .quiet => quietCompletion r t
    | .displaced => displacedCompletion r t
    | .identifying => identifyingCompletion t
    | .identified => identifiedCompletion t
    | .unresolved =>
      if t.efs.record.vnDropped = true then endEpisode .unresolvedEnd none t else t
    | .persistent =>
      if t.efs.record.vnDropped = true then endEpisode .unresolvedEnd none t else t
    | .hunting => if t.efs.hunt.abortCause = .none then huntingCompletion t else t
    | .busTrip => busTripCompletion t
  else s

/-! ## Reports of ORU (R125, R134, R137, R139, R142, R145) -/

/-- The outcome of the identified feeder's awaited OPEN (R134). -/
def identifiedReport (p : OrderReport) (s : State) : State :=
  match p.happened with
  | .confirmed => beginObserving s
  | .failed => displacementPersists p.slot s
  | _ => s

/-- The outcome of the OPEN of the feeder under test (R137; R142 in an abort). -/
def stepOpenReport (p : OrderReport) (s : State) : State :=
  match p.happened with
  | .confirmed =>
    if s.efs.hunt.abortCause = .none then
      s.setHunt { s.efs.hunt with
        order := none
        countdown := some s.efs.settings.observeCycles
        step := some .observing }
    else askRestore p.slot s
  | .failed =>
    if s.efs.hunt.abortCause = .none then endStep p.slot s
    else abortEnd (removeReason .hunt p.slot s)
  | _ => s

/-- The outcome of the restore CLOSE (R139; R142 in an abort). -/
def stepRestoreReport (p : OrderReport) (s : State) : State :=
  match p.happened with
  | .confirmed =>
    if s.efs.hunt.abortCause = .none then
      s.setHunt { s.efs.hunt with
        order := none
        countdown := some s.efs.settings.settleCycles
        step := some .settling }
    else abortEnd (removeReason .hunt p.slot s)
  | .failed => restoreFailed p.slot s
  | .superseded => restoreFailed p.slot s
  | .withdrawn => restoreFailed p.slot s
  | _ => s

/-- R145: a CONFIRMED or FAILED outcome removes its pair from the bus trip list. -/
def busTripReport (p : OrderReport) (s : State) : State :=
  if (p.happened = .confirmed ∨ p.happened = .failed) ∧
      s.efs.record.busTripList[p.slot] = p.number then
    s.setEfs { s.efs.record with busTripList := upd s.efs.record.busTripList p.slot none }
  else s

/-- EFS takes an order report whose slot and number match what it awaits (R125). -/
def efsReport (p : OrderReport) (s : State) : State :=
  if s.mgr.device = .inService ∧ p.number.isSome = true then
    match s.efs.record.state with
    | .identified =>
      if s.efs.record.identified = some p.slot ∧ s.efs.record.phase = some .opening ∧
          s.efs.record.awaited = p.number then
        identifiedReport p s
      else s
    | .hunting =>
      if s.efs.hunt.underTest = some p.slot ∧ s.efs.hunt.order = p.number then
        match s.efs.hunt.step with
        | some .opening => stepOpenReport p s
        | some .restoring => stepRestoreReport p s
        | _ => s
      else s
    | .busTrip => busTripReport p s
    | _ => s
  else s

/-! ## Events from other blocks -/

/-- R57 step 5, R142: a protection trip has taken place on some feeder. -/
def efsProtectionTrip (s : State) : State := abortHunt .protection s

/-- R142, R148: the bus stream has entered FILLING or LOST. It enters ABSENT at an activation of the unit map
alone (R3), where EFS is QUIET. -/
def efsBusStreamLeft (s : State) : State := abortHunt .busStream s

/-- R142, R146: the bus mode has become BAN. -/
def efsBecameBan (s : State) : State :=
  if s.mgr.device = .inService then
    match s.efs.record.state with
    | .hunting => abortHunt .ban s
    | .unresolved => busTrip s
    | .persistent => busTrip s
    | _ => s
  else s

/-- R148, LEAVE SERVICE: the hunt ends without a restore close. -/
def endHuntUnrestored (s : State) : State :=
  let t := match s.efs.hunt.underTest with
    | some f =>
      removeReason .hunt f
        (if (s.switch f).position ≠ Position.closed ∨
            ((s.order f).inFlight = true ∧ (s.order f).kind = OrderKind.open) then
          demandLockout f (addReason .earth f s)
        else s)
    | none => s
  t.setHunt { t.efs.hunt with abortCause := .service }

/-- R148: EFS at LEAVE SERVICE, while the device is still IN SERVICE. -/
def efsLeaveService (s : State) : State :=
  let t := if s.efs.record.state = .hunting then endHuntUnrestored s else s
  let u := if s.efs.record.state = .quiet then t
    else writeOutcome .aborted (if s.efs.record.state = .hunting then s.efs.hunt.underTest else none) t
  let v := enterState .quiet (clearStep u)
  v.setEfs { v.efs.record with busTripList := .replicate 8 none }

/-- R148: EFS at RESTART. -/
def efsRestart (s : State) : State :=
  clearStep (s.setEfs .powerOn)

/-- May a hunt be started by request (R146)? -/
def mayStartHunt (s : State) : Bool :=
  s.mgr.device == .inService && s.mdu.busMode != .ban &&
    (s.efs.record.state == .unresolved || s.efs.record.state == .persistent)

/-- May a hunt be aborted by request (R146)? -/
def mayAbortHunt (s : State) : Bool :=
  s.mgr.device == .inService && s.efs.record.state == .hunting && s.efs.hunt.abortCause == .none

end Sys2Proof.Machine
end

