-- ==== Sys2Proof/Machine/Reports.lean ====
section
/-! DEFINITION. ORU's reports handed to RCS and EFS, and the requests and events that make them (R89,
R94, R96, R111). -/

namespace Sys2Proof.Machine

/-- An order report reaches RCS and EFS (R89). -/
def deliver (p : OrderReport) (s : State) : State := efsReport p (rcsReport p s)

/-- Reports in the order ORU made them (log entry 9). -/
def deliverAll (ps : List OrderReport) (s : State) : State := ps.foldl (fun t p => deliver p t) s

/-- ELU, RCS or MGR asks ORU for an order; ORU's reports reach RCS and EFS. -/
def ask (k : OrderKind) (who : Origin) (f : Slot) (s : State) : Answer × State :=
  let a := askOrder k who f s
  (a.answer, deliverAll a.reports a.state)

/-- R96: the confirm timer of the feeder's SENT order has expired. -/
def confirmExpired (f : Slot) (s : State) : State :=
  refreshPosition f (deliver (reportOf .failed f (s.order f)) (orderFailed f s))

/-- R80: a STATE frame is taken for feeder `f`, and its report is acted on (R82, R95). -/
def takeState (r : StateReport) (f : Slot) (s : State) : State :=
  let t := takeStateReport r f s
  let u := match stateOrderReport r f s with
    | some p => deliver p t
    | none => t
  match statePositionReport r f s with
  | some p => rcsPosition p f u
  | none => u

/-- R94, R161: FIRE is added; a REQUESTED CLOSE of origin RECLOSE or EARTH is withdrawn. -/
def addFire (f : Slot) (s : State) : State :=
  if s.holds f .fire then s
  else
    let t := addReason .fire f s
    if (t.order f).withdrawable then
      deliver (reportOf .withdrawn f (t.order f)) (withdrawOrder f t)
    else t

/-- R161: FIRE follows the district mode of the feeder's district. -/
def alignFire (f : Slot) (s : State) : State :=
  if s.feederMode f = .ban then addFire f s else removeReason .fire f s

/-- R111 step 3: the CLOSE of origin RECLOSE is asked. -/
def askReclose (f : Slot) (s : State) : State :=
  let a := ask .close .reclose f s
  let t := a.2
  match a.1 with
  | .taken n => t.setSeq f { t.seq f with state := .closing, awaited := some n }
  | .merged n => t.setSeq f { t.seq f with state := .closing, awaited := some n }
  | .refused .fire => enterLockout .blocked f t
  | .refused _ => enterLockout .order f t

/-- R111: the dead timer has expired. -/
def deadExpired (f : Slot) (s : State) : State :=
  let t := s.setSeq f { s.seq f with dead := none }
  if (t.seq f).reasons.isEmpty = false then enterLockout .blocked f t
  else if maxShots t f < (t.seq f).shot then enterLockout .shots f t
  else askReclose f t

end Sys2Proof.Machine
end

