-- ==== Sys2Proof/Machine/Modes.lean ====
section
/-! DEFINITION. MDU: the clock, declarations, overrides, district modes and the bus mode (Chapter 8). -/

namespace Sys2Proof.Machine

/-- The milliseconds of a day. -/
def msPerDay : Nat := 86400000

/-! ## Declarations (R153, R154, R156) -/

/-- The key order of R153: by day, then by district, then by start minute. -/
def keyBefore (a b : Declaration) : Bool :=
  decide (a.day.toNat < b.day.toNat ∨ (a.day = b.day ∧
    (a.district.val < b.district.val ∨ (a.district = b.district ∧ a.startMinute < b.startMinute))))

/-- The same key: (day, district, start minute). -/
def sameKey (a b : Declaration) : Bool :=
  a.day == b.day && a.district == b.district && a.startMinute == b.startMinute

/-- Inserts or replaces by key, keeping key order. -/
def insertDeclaration (d : Declaration) : List Declaration → List Declaration
  | [] => [d]
  | x :: xs =>
    if sameKey d x then d :: xs
    else if keyBefore d x then d :: x :: xs
    else x :: insertDeclaration d xs

/-- Does the entry cover minute `t` of day `day` (R153)? -/
def Declaration.covers (day : Day) (t : Nat) (d : Declaration) : Bool :=
  d.day == day && decide (d.startMinute ≤ t) && decide (t < d.endMinute)

/-- R156: every entry whose day is less than the clock's day is removed. -/
def purge (s : State) : State :=
  { s with mdu := { s.mdu with
      declarations := s.mdu.declarations.filter fun d => decide (s.mdu.day.toNat ≤ d.day.toNat) } }

/-! ## Overrides (R157, R158) -/

/-- Is (today, present minute) not earlier than the override's until-time? -/
def Override.reached (day : Day) (minute : Nat) (o : Override) : Bool :=
  decide (o.untilDay.toNat < day.toNat ∨ (o.untilDay = day ∧ o.untilMinute ≤ minute))

/-- R158: overrides found expired become absent; none expires while the clock is UNSET. -/
def checkOverrides (s : State) : State :=
  if s.mdu.running then
    { s with mdu := { s.mdu with
        overrides := mapV
          (fun o => o.filter fun x => !x.reached s.mdu.day s.minute) s.mdu.overrides } }
  else s

/-! ## District modes (R159) -/

/-- Today lies inside the window, as plain numbers (R152). -/
def SeasonWindow.contains (day : Day) (w : SeasonWindow) : Bool :=
  decide (w.startDay.toNat ≤ day.toNat ∧ day.toNat ≤ w.endDay.toNat)

/-- The worst level of the declarations of the district that cover the present minute. -/
def declaredLevel (s : State) (d : District) : Mode :=
  (s.mdu.declarations.filter fun x => x.district == d && x.covers s.mdu.day s.minute).foldl
    (fun m x => m.worse x.level) .normal

/-- The level the season window gives. -/
def windowLevel (s : State) (d : District) : Mode :=
  if s.mdu.windows[d].contains s.mdu.day then .season else .normal

/-- R159: a district's mode and deciding source. -/
def districtMode (s : State) (d : District) : Mode × ModeSource :=
  match s.mdu.overrides[d] with
  | some o => (o.mode, .override)
  | none =>
    if s.mdu.running = false then (s.mdu.windows[d].unsetMode, .unsetClock)
    else
      let m := (declaredLevel s d).worse (windowLevel s d)
      (m,
        if m = .normal then .default
        else if declaredLevel s d = m then .declaration
        else .seasonWindow)

/-- R162 step 3 for one feeder. -/
def fireFollows (d : District) (left new : Mode) (f : Slot) (s : State) : State :=
  if (s.feeder f).district = d then
    if new = .ban then addFire f s
    else if left = .ban then removeReason .fire f s
    else s
  else s

/-- R163: the group change asked of GST for one feeder, if any. -/
def askGroup (d : District) (new : Mode) (f : Slot) (s : State) : State :=
  if (s.feeder f).district = d ∧ (s.feeder f).inService = true then
    let g := (s.feeder f).modeMap[new.index]
    match s.activeGroup f with
    | none => s
    | some a =>
      if g ≠ a ∨ (s.pendingGroup f ≠ none ∧ s.pendingGroup f ≠ some g) then requestGroup g f s else s
  else s

/-- The mode state record takes a district's mode and deciding source. -/
def setMode (d : District) (m : Mode) (src : ModeSource) (s : State) : State :=
  { s with mdu := { s.mdu with modes := upd s.mdu.modes d m, sources := upd s.mdu.sources d src } }

/-- R162: a district's mode has changed. -/
def changeMode (d : District) (m : Mode) (src : ModeSource) (s : State) : State :=
  let left := s.mdu.modes[d]
  forSlots (askGroup d m)
    (forSlots (fireFollows d left m)
      (raise none none (.modeChange d left m src) (setMode d m src s)))

/-- R159 for one district. -/
def evaluateDistrict (s : State) (d : District) : State :=
  let r := districtMode s d
  if r.1 = s.mdu.modes[d] then setMode d r.1 r.2 s else changeMode d r.1 r.2 s

/-- R164. -/
def derivedBusMode (s : State) : Mode :=
  (allSlots.filter fun f => (s.feeder f).inService).foldl (fun m f => m.worse (s.feederMode f)) .normal

/-- R165: the bus mode is derived afresh, and EFS is told of a change. -/
def updateBusMode (s : State) : State :=
  let b := derivedBusMode s
  if b = s.mdu.busMode then s
  else
    let t := { s with mdu := { s.mdu with busMode := b } }
    if b = .ban then efsBecameBan t else t

/-- R159: MDU evaluates every district, in district order, and then the bus mode. -/
def evaluateModes (s : State) : State := updateBusMode (allDistricts.foldl evaluateDistrict s)

/-! ## The clock (R150, R151) -/

/-- A local tick of the clock (R150): in RUNNING ms rises by 1, or the day changes. What the tick leaves
to be done at a day change and at a minute boundary is marked due (log entry 4). -/
def tickClock (s : State) : State :=
  if s.mdu.running then
    if s.mdu.ms + 1 < msPerDay then
      { s with
        mdu := { s.mdu with ms := s.mdu.ms + 1 }
        due := { s.due with minute := s.due.minute || (s.mdu.ms + 1) % 60000 == 0 } }
    else
      { s with
        mdu := { s.mdu with ms := 0, day := s.mdu.day + 1 }
        due := { s.due with minute := true, day := true } }
  else s

/-- The step of a valid TIME frame: the new TOD minus the old in ms, days as plain numbers (R151). -/
def clockStep (old new : Tod) : Int :=
  ((new.day.toNat : Int) - old.day.toNat) * 86400000 + ((new.ms : Int) - old.ms)

/-- CLOCK_SET is raised when the clock was UNSET or the step exceeds 1000 ms either way (R151). -/
def raiseClockSet (old : Option Tod) (new : Tod) (s : State) : State :=
  match old with
  | none => raise none none (.clockSet none new none) s
  | some o =>
    if 1000 < (clockStep o new).natAbs then
      raise none none (.clockSet (some o) new (some (clockStep o new))) s
    else s

/-- R151: MDU takes a TIME frame. A valid one covers the boundary work the last tick left (log entry
4). -/
def takeTime (new : Tod) (s : State) : State :=
  if msPerDay ≤ new.ms then
    { s with mdu := { s.mdu with invalidTime := countUp s.mdu.invalidTime } }
  else
    let t := { s with
      mdu := { s.mdu with running := true, day := new.day, ms := new.ms }
      due := { s.due with minute := false, day := false } }
    evaluateModes (checkOverrides (purge (raiseClockSet s.tod new t)))

/-- The payload of a TIME frame (R199). -/
def Tod.ofPayload (bs : List Byte) : Tod := ⟨word16At bs 0, nat32At bs 2⟩

end Sys2Proof.Machine
end

