-- ==== Sys2Proof/Machine/Elements.lean ====
section
/-! DEFINITION. ELU: the five elements of a feeder, the inrush restraint, the trip decision and the trip
(Chapter 3). -/

namespace Sys2Proof.Machine

/-- What PHE hands ELU at a phasor update of a feeder stream (R27): the sample number and its coefficient
index, the stream state handed with the sample, the filled mark, the present phasors, and at a cycle completion
the cycle result. The feeder slot is `evaluate`'s argument. -/
structure HandOver where
  sampleNo : SampleNo
  index    : Fin 32
  stream   : StreamState
  filled   : Bool
  present  : Vector ChannelResult 4
  result   : Option CycleResult
  deriving DecidableEq, Repr

/-- The accumulator's limit (R48). -/
def accLimit : Nat := 1048576

/-! ## Pickup and definite time (R39 to R44) -/

/-- R40: the pickup flag after the comparison of `i` with threshold `t`. -/
def pickupAfter (i t : Nat) (before : Bool) : Bool :=
  if t ≤ i then true else if isDropped i t then false else before

/-- The operated flag is set when the count is not less than the delay (R42, R44). -/
def DefiniteState.counted (delay count : Nat) (e : DefiniteState) : DefiniteState :=
  { e with pickup := true, count := count, operated := decide (delay ≤ count) }

/-- R39, R42, R43: one evaluation of a definite-time element with measured quantity `i`. -/
def evalDefinite (c : DefiniteSetting) (i : Nat) (e : DefiniteState) : DefiniteState :=
  if c.threshold = 0 then .cleared
  else if pickupAfter i c.threshold e.pickup then
    if e.pickup = false then e.counted c.delay 0
    else if e.operated then e
    else e.counted c.delay (e.count + 1)
  else .cleared

/-! ## Inverse time (R45 to R49) -/

/-- R45: the multiple of pickup in sixteenths. -/
def multiple (i p : Nat) : Nat := min 640 (16 * i / p)

/-- R46: the rate at multiple `m`. -/
def rateAt (m : Nat) : List CurvePoint → Nat
  | [] => 0
  | [p] => p.rate
  | p :: q :: ps =>
    if m ≤ p.m then p.rate
    else if m < q.m then p.rate + (m - p.m) * (q.rate - p.rate) / (q.m - p.m)
    else rateAt m (q :: ps)

/-- R47: the effective rate of rate `r` at dial `d`. -/
def effectiveRate (r d : Nat) : Nat := min accLimit (max 1 (r * 32 / d))

/-- The effective rate of an element at quantity `i`, from its curve as it stands (R46, R47). -/
def elementRate (curves : Vector Curve 8) (c : InverseSetting) (i : Nat) : Nat :=
  match curveAt curves c.curve with
  | some k => effectiveRate (rateAt (multiple i c.pickup) k.used) c.dial
  | none => 1

/-- R49: the accumulator after a reset. -/
def resetAcc (c : InverseSetting) (acc : Nat) : Nat :=
  if c.resetMode = 0 then 0 else acc - c.resetRate

/-- R39, R48: one cycle-completion evaluation of an inverse-time element. -/
def evalInverse (curves : Vector Curve 8) (c : InverseSetting) (restrained : Bool) (i : Nat)
    (e : InverseState) : InverseState :=
  if c.pickup = 0 then .cleared
  else if isDropped i c.pickup then
    { pickup := false, operated := false, acted := false, acc := resetAcc c e.acc }
  else if restrained then e
  else if 16 ≤ multiple i c.pickup then
    let a := min accLimit (e.acc + elementRate curves c i)
    { e with pickup := true, acc := a, operated := e.operated || decide (a = accLimit) }
  else if e.pickup then e
  else { e with acc := resetAcc c e.acc }

/-! ## Inrush restraint (R50) -/

/-- Does one phase restrain at inrush percent `p`? -/
def phaseRestrains (p i1 i2 : Nat) : Bool := decide (64 ≤ i1 ∧ p * i1 ≤ 100 * i2)

/-- R50: the restraint found from a cycle result. -/
def findRestraint (p : Nat) (r : CycleResult) : Bool :=
  p != 0 &&
    (match r.second with
     | some h =>
       phaseRestrains p r.channels[0].magnitude h[0].magnitude ||
         phaseRestrains p r.channels[1].magnitude h[1].magnitude ||
         phaseRestrains p r.channels[2].magnitude h[2].magnitude
     | none => false)

/-! ## One evaluation (R38) -/

/-- The largest of the IA, IB and IC fundamental magnitudes (R36). -/
def phaseQuantity (p : Vector ChannelResult 4) : Nat :=
  max p[0].magnitude (max p[1].magnitude p[2].magnitude)

/-- The IN fundamental magnitude (R36). -/
def earthQuantity (p : Vector ChannelResult 4) : Nat := p[3].magnitude

/-- Step 3 of R38. -/
def evalHighSets (g : GroupRecord) (p : Vector ChannelResult 4) (e : ElementState) : ElementState :=
  { e with
    phHs := evalDefinite g.phHs (phaseQuantity p) e.phHs
    efHs := evalDefinite g.efHs (earthQuantity p) e.efHs }

/-- Steps 2 and 4 of R38, at a cycle completion. -/
def evalCycle (curves : Vector Curve 8) (g : GroupRecord) (p : Vector ChannelResult 4)
    (r : CycleResult) (e : ElementState) : ElementState :=
  let x := findRestraint g.inrush r
  { e with
    restraint := x
    phIt := evalInverse curves g.phIt x (phaseQuantity p) e.phIt
    efIt := evalInverse curves g.efIt x (earthQuantity p) e.efIt
    sef := evalDefinite g.sef (earthQuantity p) e.sef }

/-- Steps 2 to 4 of R38: the high-sets at every hand-over, the rest at a cycle completion. An element of the
rest that a group change outside any evaluation has turned off is cleared (R39, R75) at the first cycle
completion, not before (DESIGN CHOICE, log entry 28). -/
def evalElements (curves : Vector Curve 8) (g : GroupRecord) (h : HandOver) (e : ElementState) :
    ElementState :=
  match h.result with
  | none => evalHighSets g h.present e
  | some r => evalCycle curves g h.present r (evalHighSets g h.present e)

/-! ## The trip (R55 to R59) -/

/-- R55. -/
def liveSet (g : GroupRecord) (q : SeqState) (shot : Nat) : ElementSet :=
  match q with
  | .lockout => .full
  | .ready => g.shot0Live
  | .opening => if shot = 0 then g.shot0Live else (g.shot shot).live
  | .dead => (g.shot shot).live
  | .closing => (g.shot shot).live
  | .reclaim => (g.shot shot).live

def ElementState.operatedSet (e : ElementState) : ElementSet :=
  ⟨e.phHs.operated, e.phIt.operated, e.efHs.operated, e.efIt.operated, e.sef.operated⟩

def ElementState.actedSet (e : ElementState) : ElementSet :=
  ⟨e.phHs.acted, e.phIt.acted, e.efHs.acted, e.efIt.acted, e.sef.acted⟩

/-- R56: operated, live, and not acted. -/
def trippingSet (live : ElementSet) (e : ElementState) : ElementSet :=
  (e.operatedSet.inter live).diff e.actedSet

/-- The acted flags of the tripping set are set (R56). -/
def ElementState.act (t : ElementSet) (e : ElementState) : ElementState :=
  { e with
    phHs := { e.phHs with acted := e.phHs.acted || t.phHs }
    phIt := { e.phIt with acted := e.phIt.acted || t.phIt }
    efHs := { e.efHs with acted := e.efHs.acted || t.efHs }
    efIt := { e.efIt with acted := e.efIt.acted || t.efIt }
    sef := { e.sef with acted := e.sef.acted || t.sef } }

/-- The trip record of a trip (R58). The reclose-initiating field is judged from the tripping set in every
trip, one marked already open too (DESIGN CHOICE, log entry 29). -/
def tripRecordOf (s : State) (f : Slot) (g : GroupNo) (gr : GroupRecord) (t : ElementSet)
    (h : HandOver) : TripRecord where
  isPresent := true
  tripping := t
  operated := (s.element f).operatedSet
  initiating := (t.inter gr.initiate).nonempty
  alreadyOpen := (s.switch f).position == .opened
  magnitudes := mapV ChannelResult.magnitude h.present
  overranges := mapV ChannelResult.overrange h.present
  restraint := (s.element f).restraint
  sampleNo := h.sampleNo
  filled := h.filled
  group := g
  seq := (s.seq f).state
  shot := (s.seq f).shot
  tod := s.tod

/-- Steps 3 to 5 of R57: the OPEN of origin PROTECTION, and the reports to RCS and EFS. -/
def orderTrip (initiating : Bool) (f : Slot) (s : State) : State :=
  efsProtectionTrip (tripReport initiating f (ask .open .protection f s).2)

/-- R57, R59: ELU trips the feeder. -/
def tripFeeder (f : Slot) (g : GroupNo) (gr : GroupRecord) (t : ElementSet) (h : HandOver)
    (s : State) : State :=
  let r := tripRecordOf s f g gr t h
  let u := raise (some f) (some h.sampleNo)
    (.trip t g r.seq r.shot r.initiating r.alreadyOpen)
    ((s.setElement f ((s.element f).act t)).setTrip f r)
  if r.alreadyOpen then u else orderTrip r.initiating f u

/-- Step 5 of R38: the trip decision of R56. -/
def decideFeederTrip (f : Slot) (g : GroupNo) (gr : GroupRecord) (h : HandOver) (s : State) : State :=
  let t := trippingSet (liveSet gr (s.seq f).state (s.seq f).shot) (s.element f)
  if t.nonempty then tripFeeder f g gr t h s else s

/-! ## Elements turned on (R39) -/

/-- A definite-time element that is off under `old` and on under `new` begins from the cleared state (R39). -/
def DefiniteState.turnedOn (old new : DefiniteSetting) (e : DefiniteState) : DefiniteState :=
  if old.threshold = 0 ∧ new.threshold ≠ 0 then .cleared else e

/-- An inverse-time element that is off under `old` and on under `new` begins from the cleared state (R39). -/
def InverseState.turnedOn (old new : InverseSetting) (e : InverseState) : InverseState :=
  if old.pickup = 0 ∧ new.pickup ≠ 0 then .cleared else e

/-- R39, R74: every element that the change from group `old` to group `new` turns on begins from the cleared
state; the rest of the record is not reset. -/
def ElementState.turnedOn (old new : GroupRecord) (e : ElementState) : ElementState where
  phHs := e.phHs.turnedOn old.phHs new.phHs
  phIt := e.phIt.turnedOn old.phIt new.phIt
  efHs := e.efHs.turnedOn old.efHs new.efHs
  efIt := e.efIt.turnedOn old.efIt new.efIt
  sef := e.sef.turnedOn old.sef new.sef
  restraint := e.restraint

/-- R39: the elements of feeder `f` that are off in group `left` and on in its active group begin from the
cleared state. -/
def clearTurnedOn (f : Slot) (left : Option GroupNo) (s : State) : State :=
  match left, s.activeGroup f with
  | some a, some g => s.setElement f ((s.element f).turnedOn (s.group f a) (s.group f g))
  | _, _ => s

/-- Step 1 of R38: at a cycle completion GST applies a pending group (R74), and the elements it turns on begin
from the cleared state (R39). -/
def applyAtCompletion (f : Slot) (h : HandOver) (s : State) : State :=
  match h.result with
  | none => s
  | some _ => clearTurnedOn f (s.activeGroup f) (applyPending h.sampleNo f s)

/-- R38: ELU takes a hand-over of feeder `f`. An acting feeder without an active group, which no run reaches, has
no element evaluated (DESIGN CHOICE, log entry 23). -/
def evaluate (f : Slot) (h : HandOver) (s : State) : State :=
  if s.acting f then
    let t := applyAtCompletion f h s
    match t.activeGroup f with
    | none => t
    | some g =>
      let gr := t.group f g
      decideFeederTrip f g gr h
        (t.setElement f (evalElements t.gst.curves gr h (t.element f)))
  else s

end Sys2Proof.Machine
end

