-- ==== Sys2Proof/Machine/Streams.lean ====
section
/-! DEFINITION. SIU and the hand-over of samples: routing, the classes of samples, FILLING, supervision
and the activation of the unit map (Chapter 1; R22, R27, R30). -/

namespace Sys2Proof.Machine

/-- The feeder slot of a stream role; the bus has none. -/
def slotOf (r : Role) : Option Slot := if h : r.val < 8 then some ⟨r.val, h⟩ else none

/-! ## The phasor update (R22, R27, R30) -/

/-- The cycle result a sample completes in a feeder stream, if any. -/
def completedResult (x : Sample) (st : StreamState) (w : Window) : Option CycleResult :=
  if completes x.number then some (feederResult x.number (st == .patched) w) else none

/-- PHE's update of a feeder stream, the hand-over to ELU, and a completed cycle's result to EFS. -/
def handFeeder (f : Slot) (x : Sample) (filled : Bool) (st : StreamState) (s : State) : State :=
  let p := (s.pheStream f.role).updateFeeder x filled st
  let t := s.setPheStream f.role p
  if st.delivers then
    let c := completedResult x st p.window
    let u := evaluate f ⟨x.number, coeffIndex x.number, st, filled, p.window.results, c⟩ t
    match c with
    | some r => efsFeederResult f r u
    | none => u
  else t

/-- PHE's update of the bus stream; a completed cycle's result goes to EFS. -/
def handBus (x : Sample) (filled : Bool) (st : StreamState) (s : State) : State :=
  let p := (s.pheStream busRole).updateBus x filled st
  let t := s.setPheStream busRole p
  if st.delivers && completes x.number then
    efsBusCompletion (busResult x.number (st == .patched) p.window) t
  else t

/-- SIU hands PHE a sample with the stream state as SIU left it. -/
def hand (r : Role) (x : Sample) (filled : Bool) (st : StreamState) (s : State) : State :=
  match slotOf r with
  | some f => handFeeder f x filled st s
  | none => handBus x filled st s

/-! ## Stream state changes -/

/-- A STREAM_STATE notice (R17). -/
def raiseStream (r : Role) (n : Option SampleNo) (left : StreamState) (s : State) : State :=
  raise (slotOf r) n (.streamState (s.stream r).state left) s

/-- What every entry of a stream into FILLING or LOST brings about outside SIU and PHE: a pending group of
the feeder is applied at once (R75); for the bus a hunt aborts (R142, R148). -/
def streamEntered (r : Role) (s : State) : State :=
  match slotOf r with
  | some f => applyPendingAtEntry f s
  | none => efsBusStreamLeft s

/-- The feeder of a stream that no longer delivers holds STREAM (R16); the bus has no block reason. -/
def addStreamReason (r : Role) (s : State) : State :=
  match slotOf r with
  | some f => addReason .stream f s
  | none => s

/-- What follows when a stream no longer delivers: STREAM on its feeder (R16), the notice (R17), and what
the entry brings about (R75, R142). The order is log entry 11. -/
def streamStopped (r : Role) (n : Option SampleNo) (left : StreamState) (s : State) : State :=
  streamEntered r (raiseStream r n left (addStreamReason r s))

/-- R10: the stream enters FILLING with sample `x`. -/
def enterFilling (r : Role) (x : Sample) (s : State) : State :=
  let t := emptyStream r s
  hand r x false .filling
    (t.setStream r { t.stream r with
      state := .filling
      consecutive := 1
      lastSample := x.number
      supervision := some 20
      patch := 0 })

/-- A stream that does not deliver enters FILLING, from ABSENT or LOST or afresh (R10, R12, R15). No notice
is raised (R17). -/
def startFilling (r : Role) (x : Sample) (s : State) : State := streamEntered r (enterFilling r x s)

/-- The resync counter rises by 1 (R11, R12). -/
def countResync (r : Role) (s : State) : State :=
  s.setStream r { s.stream r with resyncs := countUp (s.stream r).resyncs }

/-- R9: a duplicate or late sample is discarded. -/
def discardSample (r : Role) (s : State) : State :=
  s.setStream r { s.stream r with duplicates := countUp (s.stream r).duplicates }

/-- R11: a break in LOCKED or PATCHED. -/
def breakStream (r : Role) (x : Sample) (s : State) : State :=
  streamStopped r (some x.number) (s.stream r).state (enterFilling r x (countResync r s))

/-- R7 and R14: a next sample in LOCKED or PATCHED is accepted. -/
def acceptNext (r : Role) (x : Sample) (s : State) : State :=
  let q := s.stream r
  let st : StreamState := if q.state = .patched ∧ q.patch ≤ 1 then .locked else q.state
  let p := if q.state = .patched then q.patch - 1 else q.patch
  hand r x false st
    (s.setStream r { q with
      lastSample := x.number, supervision := some 20, state := st, patch := p })

/-- R8: the filled samples of a gap, in ascending sample number. -/
def fillGap (r : Role) (x : Sample) (missing : List Nat) (s : State) : State :=
  missing.foldl
    (fun t i => hand r { x with number := x.number + BitVec.ofNat 16 (i + 1) } true .patched t) s

/-- R8: a gap of `k` samples in LOCKED or PATCHED is bridged, and the frame's sample accepted. -/
def bridgeGap (r : Role) (x : Sample) (k : Nat) (s : State) : State :=
  let q := s.stream r
  let repeated := (s.pheStream r).window.sampleAt q.lastSample
  acceptNext r x
    (fillGap r repeated (List.range k)
      (s.setStream r { q with gaps := countUp q.gaps, state := .patched, patch := 32 }))

/-- R13: the entry to LOCKED from FILLING, before the sample is handed to PHE. -/
def enterLocked (r : Role) (n : SampleNo) (s : State) : State :=
  let t := s.setStream r { s.stream r with state := .locked, consecutive := 0 }
  let u := match slotOf r with
    | some f => removeReason .stream f t
    | none => t
  raiseStream r (some n) .filling u

/-- R12: a next sample in FILLING. -/
def fillNext (r : Role) (x : Sample) (s : State) : State :=
  let q := s.stream r
  let t := s.setStream r { q with
    lastSample := x.number, supervision := some 20, consecutive := q.consecutive + 1 }
  if 32 ≤ q.consecutive + 1 then hand r x false .locked (enterLocked r x.number t)
  else hand r x false .filling t

/-! ## Taking a sample -/

/-- The class of a sample by its distance (R6). -/
inductive SampleClass where
  | next
  | gap (missing : Nat)
  | duplicate
  | late
  | break
  deriving DecidableEq, Repr

/-- R6: the class of distance `d`, 0 to 65535. -/
def classify (d : Nat) : SampleClass :=
  if d = 1 then .next
  else if 2 ≤ d ∧ d ≤ 4 then .gap (d - 1)
  else if d = 0 then .duplicate
  else if 65532 ≤ d then .late
  else .break

/-- The distance of a sample number from the last one, modulo 65536. -/
def distance (last n : SampleNo) : Nat := (n - last).toNat

/-- A sample in LOCKED or PATCHED (R6). -/
def takeDelivering (r : Role) (x : Sample) (s : State) : State :=
  match classify (distance (s.stream r).lastSample x.number) with
  | .next => acceptNext r x s
  | .gap k => bridgeGap r x k s
  | .duplicate => discardSample r s
  | .late => discardSample r s
  | .break => breakStream r x s

/-- A sample in FILLING (R12). -/
def takeFilling (r : Role) (x : Sample) (s : State) : State :=
  match classify (distance (s.stream r).lastSample x.number) with
  | .next => fillNext r x s
  | .gap _ => startFilling r x (countResync r s)
  | .duplicate => discardSample r s
  | .late => discardSample r s
  | .break => startFilling r x (countResync r s)

/-- SIU takes a sample of a stream, by the stream's state (R6, R10, R12, R15). -/
def takeSample (r : Role) (x : Sample) (s : State) : State :=
  match (s.stream r).state with
  | .absent => startFilling r x s
  | .lost => startFilling r x s
  | .filling => takeFilling r x s
  | .locked => takeDelivering r x s
  | .patched => takeDelivering r x s

/-- R4: the role whose sampling entry of the active map is the source address. -/
def routeSample (s : State) (src : RingAddr) : Option Role :=
  allRoles.find? fun r => s.samplingAddress r == src

/-- R4: SIU takes the copy of a SAMPLE frame. -/
def takeSampleFrame (src : RingAddr) (payload : List Byte) (s : State) : State :=
  match routeSample s src with
  | some r => takeSample r (Sample.ofPayload payload) s
  | none => { s with siu := { s.siu with foreign := countUp s.siu.foreign } }

/-- R80: the feeder whose switch entry of the active map is the source address. -/
def routeState (s : State) (src : RingAddr) : Option Slot :=
  allSlots.find? fun f => s.switchAddress f == src

/-- R80: ORU takes the copy of a STATE frame. -/
def takeStateFrame (src : RingAddr) (payload : List Byte) (s : State) : State :=
  match routeState s src, StateReport.ofPayload payload with
  | some f, some r => takeState r f s
  | _, _ => s

/-! ## Loss and activation -/

/-- R15: the supervision timer of a stream has expired. -/
def streamLost (r : Role) (s : State) : State :=
  let q := s.stream r
  streamStopped r none q.state
    (s.setStream r { q with
      state := .lost, supervision := none, consecutive := 0, patch := 0, notDropped := false })

/-- A stream record at the activation of the unit map: ABSENT under its new address, counters and latch
kept (R3, R5, R18). -/
def StreamRecord.activated (addr : RingAddr) (q : StreamRecord) : StreamRecord :=
  { StreamRecord.powerOn with
    address := addr
    notDropped := q.notDropped
    gaps := q.gaps
    duplicates := q.duplicates
    resyncs := q.resyncs }

/-- R3, R20, R84: the staged map becomes the active map; every stream is ABSENT with its window and list
empty; every switch record is set up. The block reasons are the caller's (R86, R104). -/
def activateMap (s : State) : State :=
  let t := { s with
    siu := { s.siu with active := s.siu.staged, activated := true }
    phe := Phe.powerOn }
  let u := allRoles.foldl
    (fun v r => v.setStream r ((v.stream r).activated (v.samplingAddress r))) t
  forSlots activateSwitch u

end Sys2Proof.Machine
end

