-- ==== Sys2Proof/Machine/Ring.lean ====
section
/-! DEFINITION. RPT: reception, the forward buffer, the insertion arbiter and the OUT port (Chapter 9),
and the meanings of the commands in which a frame is received or ends. -/

namespace Sys2Proof.Machine

/-- A strap address of 1 to 62 is a ring address; 0 and 63 are none (R170). -/
def hasAddress (s : State) : Bool := s.rpt.ownAddress != 0 && s.rpt.ownAddress != 63

/-! ## Reception (R171 to R175) -/

/-- A frame of bad length or bad source is discarded and counted (R171). -/
def countFormatError (s : State) : State :=
  { s with rpt := { s.rpt with formatErrors := countUp s.rpt.formatErrors } }

/-- A frame whose CRC does not match is discarded and counted (R171). -/
def countCrcError (s : State) : State :=
  { s with rpt := { s.rpt with crcErrors := countUp s.rpt.crcErrors } }

/-- R175: the frame joins the forward buffer, or is discarded at a full one. -/
def forwardFrame (bs : List Byte) (s : State) : State :=
  if s.rpt.forward.length < 8 then { s with rpt := { s.rpt with forward := s.rpt.forward ++ [bs] } }
  else
    { s with rpt := { s.rpt with overflows := countUp s.rpt.overflows, overflowFlag := true } }

/-- R173: an echo is removed from the ring; an ORDER echo goes to ORU with its slot and number. -/
def stripEcho (kind : Option FrameKind) (payload : List Byte) (s : State) : State :=
  match kind, slotOfByte (nat8At payload 0) with
  | some .order, some f => orderEcho f (byteAt payload 2) s
  | _, _ => s

/-- R172, R182: a consumed REQUEST joins the request FIFO, or is discarded and counted at a full one. -/
def consumeRequest (src : RingAddr) (payload : List Byte) (s : State) : State :=
  if s.mgr.fifo.length < 4 then
    { s with mgr := { s.mgr with fifo := s.mgr.fifo ++ [⟨src, payload⟩] } }
  else { s with mgr := { s.mgr with overflow := countUp s.mgr.overflow } }

/-- R172: a well-formed frame, by the first row that applies. A copy goes to its block before the frame
joins the forward buffer (R174). -/
def handleFrame (bs : List Byte) (s : State) : State :=
  let dst := addrAt bs 0
  let src := addrAt bs 1
  let payload := framePayload bs
  let kind := FrameKind.ofByte (byteAt bs 2)
  if src = s.rpt.ownAddress then stripEcho kind payload s
  else
    match kind with
    | some .request =>
      if dst = s.rpt.ownAddress ∧ hasAddress s = true then consumeRequest src payload s
      else forwardFrame bs s
    | some .time =>
      if dst = 63 then forwardFrame bs (takeTime (Tod.ofPayload payload) s) else forwardFrame bs s
    | some .sample => forwardFrame bs (takeSampleFrame src payload s)
    | some .state => forwardFrame bs (takeStateFrame src payload s)
    | some .order => forwardFrame bs s
    | some .reply => forwardFrame bs s
    | some .notice => forwardFrame bs s
    | none => forwardFrame bs s

/-- R171: the three checks of a received frame, in order. -/
def receiveFrame (f : RxFrame) (s : State) : State :=
  if goodLength f = false then countFormatError s
  else if goodCrc f.bytes = false then countCrcError s
  else if goodSource f.bytes = false then countFormatError s
  else handleFrame f.bytes s

/-! ## Insertion (R177, R178, R190) -/

/-- The OUT port becomes SENDING. -/
def send (frame : List Byte) (s : State) : State := { s with rpt := { s.rpt with out := .sending frame } }

/-- The lowest feeder slot whose order record is REQUESTED (R177). -/
def requestedSlot (s : State) : Option Slot := allSlots.find? fun f => (s.order f).state == .requested

/-- The start of an ORDER frame (R178, R95). -/
def startOrder (f : Slot) (s : State) : State :=
  let o := s.order f
  send (buildFrame (s.switchAddress f) s.rpt.ownAddress .order (orderPayload f o.kind o.number))
    (orderStarted f s)

/-- The start of the frame at the head of the forward buffer, byte for byte as received (R175). -/
def startForward (bs : List Byte) (rest : List (List Byte)) (s : State) : State :=
  send bs { s with rpt := { s.rpt with forward := rest } }

/-- The start of the reply at the head of the reply list (R178). -/
def startReply (r : Reply) (rest : List Reply) (s : State) : State :=
  send (buildFrame r.destination s.rpt.ownAddress .reply r.payload)
    { s with rpt := { s.rpt with replies := rest } }

/-- The start of a NOTICE frame: the notice takes the sequence number and leaves the queue (R190). -/
def startNotice (n : Notice) (s : State) : State :=
  send (buildFrame s.mgr.destination s.rpt.ownAddress .notice (n.payload s.mgr.sequence))
    { s with mgr := { s.mgr with
        notices := s.mgr.notices.erase n
        sequence := s.mgr.sequence + 1 } }

/-- The reply at the head of the reply list, else the notice at the head of the notice queue (R177). -/
def chooseOwn (s : State) : State :=
  match s.rpt.replies with
  | r :: rest => startReply r rest s
  | [] =>
    match noticeHead s.mgr.notices with
    | some n => startNotice n s
    | none => s

/-- The forward buffer's head; a part with no ring address inserts nothing of its own (R170, R177). -/
def chooseForward (s : State) : State :=
  match s.rpt.forward with
  | bs :: rest => startForward bs rest s
  | [] => if hasAddress s then chooseOwn s else s

/-- R177: the insertion arbiter chooses and starts a frame. -/
def chooseFrame (s : State) : State :=
  if hasAddress s then
    match requestedSlot s with
    | some f => startOrder f s
    | none => chooseForward s
  else chooseForward s

/-- The arbiter chooses only while the OUT port is IDLE (R177). -/
def arbitrate (s : State) : State :=
  match s.rpt.out with
  | .idle => chooseFrame s
  | .sending _ => s

/-- The end of an event: its notices join the queue (R188), and an IDLE OUT port takes a frame that has
become available (R177; log entry 8). -/
def finish (s : State) : State := arbitrate (flushNotices s)

/-! ## Meanings -/

/-- SAMPLE (R4, R171, R172). -/
def execSample (f : RxFrame) (s : State) : Out := .next (finish (receiveFrame f s))

/-- STATE (R80, R171, R172). -/
def execState (f : RxFrame) (s : State) : Out := .next (finish (receiveFrame f s))

/-- TIME (R151, R171, R172). -/
def execTime (f : RxFrame) (s : State) : Out := .next (finish (receiveFrame f s))

/-- REQUEST (R172, R182, R171). -/
def execRequest (f : RxFrame) (s : State) : Out := .next (finish (receiveFrame f s))

/-- FRAME_RECEIVED (R171 to R175). -/
def execFrameReceived (f : RxFrame) (s : State) : Out := .next (finish (receiveFrame f s))

/-- FRAME_END (R177): the OUT port becomes IDLE, and the arbiter chooses. -/
def execFrameEnd (s : State) : Out := .next (finish { s with rpt := { s.rpt with out := .idle } })

end Sys2Proof.Machine
end

