-- ==== Sys2Proof/Machine/Timers.lean ====
section
/-! DEFINITION. Power-on, the local tick and the expiry of the part's timers: the meanings of the
commands that carry no frame and execute no request. -/

namespace Sys2Proof.Machine

/-! ## Power-on -/

/-- POWER_ON (R191, R170): the straps are read and every block takes its power-on values. -/
def execPowerOn (straps : RingAddr) (s : State) : Out :=
  .next { State.powerOn straps with pending := s.pending }

/-! ## The local tick -/

def StreamRecord.tick (q : StreamRecord) : StreamRecord := { q with supervision := fall q.supervision }

def SwitchRecord.tick (w : SwitchRecord) : SwitchRecord := { w with supervision := fall w.supervision }

def OrderRecord.tick (o : OrderRecord) : OrderRecord :=
  { o with echoWatch := fall o.echoWatch, confirm := fall o.confirm }

def SeqRecord.tick (q : SeqRecord) : SeqRecord :=
  { q with dead := fall q.dead, reclaim := fall q.reclaim }

/-- Every running timer that counts local ticks falls by 1 (R15, R84, R87, R100). -/
def tickTimers (s : State) : State :=
  { s with
    siu := { s.siu with streams := mapV StreamRecord.tick s.siu.streams }
    oru := { s.oru with
      switches := mapV SwitchRecord.tick s.oru.switches
      orders := mapV OrderRecord.tick s.oru.orders }
    rcs := { s.rcs with seqs := mapV SeqRecord.tick s.rcs.seqs } }

/-- R141: while HUNTING the elapsed ticks rise, holding at 3,600,000, and are compared with the hunt limit
of the bus mode at this tick (log entry 20). -/
def tickHunt (s : State) : State :=
  if s.efs.record.state = .hunting then
    let n := min 3600000 (s.efs.hunt.elapsed + 1)
    { s.setHunt { s.efs.hunt with elapsed := n } with
      due := { s.due with
        huntLimit := s.efs.hunt.abortCause == .none &&
          decide (1000 * (s.earthMode s.mdu.busMode).huntLimit ≤ n) } }
  else { s with due := { s.due with huntLimit := false } }

/-- A local tick: the clock, the timers and the hunt (R150). -/
def tick (s : State) : State := tickHunt (tickTimers (tickClock s))

/-- LOCAL_TICK (R150). -/
def execLocalTick (s : State) : Out := .next (finish (tick s))

/-- The day-change work a tick left: the purge (R156). -/
def dayWork (s : State) : State := purge { s with due := { s.due with day := false } }

/-- The minute-boundary work a tick left: the override check, then the evaluation; a purge still due is
made first (R150). -/
def minuteWork (s : State) : State :=
  let t := if s.due.day then dayWork s else s
  evaluateModes (checkOverrides { t with due := { t.due with minute := false } })

/-- The tick that is a day change, when it has not been taken as LOCAL_TICK yet (log entry 4). -/
def dayTick (s : State) : State :=
  if s.due.day = false ∧ s.mdu.running = true ∧ msPerDay ≤ s.mdu.ms + 1 then tick s else s

/-- The tick that is a minute boundary, when it has not been taken as LOCAL_TICK yet (log entry 4). -/
def minuteTick (s : State) : State :=
  if s.due.minute = false ∧ s.mdu.running = true ∧ (s.mdu.ms + 1) % 60000 = 0 then tick s else s

/-- DAY_CHANGE (R156, R150). -/
def execDayChange (s : State) : Out :=
  let t := dayTick s
  if t.due.day then .next (finish (dayWork t)) else .next s

/-- MINUTE_BOUNDARY (R150, R158, R159). -/
def execMinuteBoundary (s : State) : Out :=
  let t := minuteTick s
  if t.due.minute then .next (finish (minuteWork t)) else .next s

/-! ## Expiries. A timer at 0 has expired; otherwise the event has not taken place and nothing changes (log
entries 3 and 5). -/

/-- SUPERVISION_TIMER_EXPIRY (R15). -/
def execSupervisionTimerExpiry (r : Role) (s : State) : Out :=
  if (s.stream r).supervision = some 0 then .next (finish (streamLost r s)) else .next s

/-- STATE_SUPERVISION_EXPIRY (R84). -/
def execStateSupervisionExpiry (f : Slot) (s : State) : Out :=
  if (s.switch f).supervision = some 0 then .next (finish (stateSupervisionExpired f s)) else .next s

/-- ECHO_WATCH_EXPIRY (R97). -/
def execEchoWatchExpiry (f : Slot) (s : State) : Out :=
  if (s.order f).state = .sent ∧ (s.order f).echoWatch = some 0 then .next (finish (echoExpired f s))
  else .next s

/-- CONFIRM_TIMER_EXPIRY (R96). -/
def execConfirmTimerExpiry (f : Slot) (s : State) : Out :=
  if (s.order f).state = .sent ∧ (s.order f).confirm = some 0 then .next (finish (confirmExpired f s))
  else .next s

/-- DEAD_TIMER_EXPIRY (R111, R101). -/
def execDeadTimerExpiry (f : Slot) (s : State) : Out :=
  if s.acting f = true ∧ (s.seq f).state = .dead ∧ (s.seq f).dead = some 0 then
    .next (finish (deadExpired f s))
  else .next s

/-- RECLAIM_TIMER_EXPIRY (R113, R101). -/
def execReclaimTimerExpiry (f : Slot) (s : State) : Out :=
  if s.acting f = true ∧ (s.seq f).state = .reclaim ∧ (s.seq f).reclaim = some 0 then
    .next (finish (reclaimExpired f s))
  else .next s

/-- HUNT_LIMIT_EXPIRY (R141, R142). -/
def execHuntLimitExpiry (s : State) : Out :=
  if s.due.huntLimit then
    .next (finish (abortHunt .limit { s with due := { s.due with huntLimit := false } }))
  else .next s

end Sys2Proof.Machine
end

