-- ==== Sys2Proof/Machine/Tables.lean ====
section
/-! DEFINITION. The tables of section 10.3: what a READ returns and what a WRITE checks and stores
(R184, R185, R201, and the owners' rules). -/

namespace Sys2Proof.Machine

/-- The tables, in the order of their numbers (R201). -/
inductive Table where
  | stagedMap | activeMap | streams | elements | trips | curves | groups | feeders | groupState
  | switches | orders | sequencers | earthSettings | huntOrder | efsState | earthResult | huntRecord
  | seasonWindows | declarations | overrides | modeState
  deriving DecidableEq, Repr

/-- The tables by number, 1 to 21 (R201). -/
def allTables : List Table :=
  [.stagedMap, .activeMap, .streams, .elements, .trips, .curves, .groups, .feeders, .groupState,
   .switches, .orders, .sequencers, .earthSettings, .huntOrder, .efsState, .earthResult, .huntRecord,
   .seasonWindows, .declarations, .overrides, .modeState]

/-- The table of a table number; any other number names none (R201). -/
def tableOf (n : Nat) : Option Table := if n = 0 then none else allTables[n - 1]?

/-- The number of entries (10.3). The declaration table is read by R153. -/
def Table.entries (s : State) : Table → Nat
  | .stagedMap => 17
  | .activeMap => 17
  | .streams => 9
  | .elements => 8
  | .trips => 8
  | .curves => 8
  | .groups => 32
  | .feeders => 8
  | .groupState => 8
  | .switches => 8
  | .orders => 8
  | .sequencers => 8
  | .earthSettings => 1
  | .huntOrder => 1
  | .efsState => 1
  | .earthResult => 1
  | .huntRecord => 1
  | .seasonWindows => 4
  | .declarations => s.mdu.declarations.length
  | .overrides => 4
  | .modeState => 1

/-- Is the starting index beyond the table (R184; R153 for the declaration table)? -/
def Table.badStart (s : State) (i : Nat) : Table → Bool
  | .declarations => decide (31 < i)
  | t => decide (t.entries s ≤ i)

/-! ## READ -/

/-- The bytes of entry `i` of a vector, if it has one. -/
def entryBytes {α : Type} {n : Nat} (v : Vector α n) (enc : α → List Byte) (i : Nat) : List Byte :=
  match v.toList[i]? with
  | some x => enc x
  | none => []

/-- Entry `i` of a table as a READ returns it; a curve or group carries its valid mark (R61). -/
def Table.read (s : State) (i : Nat) : Table → List Byte
  | .stagedMap => entryBytes s.siu.staged addrByte i
  | .activeMap => entryBytes s.siu.active addrByte i
  | .streams => entryBytes s.siu.streams StreamRecord.bytes i
  | .elements => entryBytes s.elu.elements ElementState.bytes i
  | .trips => entryBytes s.elu.trips TripRecord.bytes i
  | .curves => entryBytes s.gst.curves (fun c => c.bytes ++ flag c.valid) i
  | .groups => entryBytes s.gst.groups (fun g => g.bytes ++ flag (g.valid s.gst.curves)) i
  | .feeders => entryBytes s.gst.feeders FeederRecord.bytes i
  | .groupState =>
    match slotOfByte i with
    | some f => groupStateBytes (s.activeGroup f) (s.pendingGroup f)
    | none => []
  | .switches => entryBytes s.oru.switches SwitchRecord.bytes i
  | .orders => entryBytes s.oru.orders OrderRecord.bytes i
  | .sequencers => entryBytes s.rcs.seqs SeqRecord.bytes i
  | .earthSettings => s.efs.settings.bytes
  | .huntOrder => slotListBytes s.efs.huntOrder
  | .efsState => s.efs.record.bytes
  | .earthResult => s.efs.result.bytes
  | .huntRecord => s.efs.hunt.bytes
  | .seasonWindows => entryBytes s.mdu.windows SeasonWindow.bytes i
  | .declarations =>
    match s.mdu.declarations[i]? with
    | some d => d.bytes
    | none => []
  | .overrides => entryBytes s.mdu.overrides overrideBytes i
  | .modeState => s.mdu.stateBytes

/-- R184: entries from index `i` upwards, within the count, the room left and the table's end. -/
def readEntries (s : State) (t : Table) : (count i room : Nat) → List (List Byte)
  | 0, _, _ => []
  | n + 1, i, room =>
    if t.entries s ≤ i then []
    else if room < (t.read s i).length then []
    else t.read s i :: readEntries s t n (i + 1) (room - (t.read s i).length)

/-! ## WRITE -/

/-- The entry size of a writable table; a read-only table has none (R201). -/
def Table.writeSize : Table → Option Nat
  | .stagedMap => some 1
  | .curves => some 98
  | .groups => some 56
  | .feeders => some 8
  | .earthSettings => some 30
  | .huntOrder => some 9
  | .seasonWindows => some 6
  | .declarations => some 8
  | .activeMap => none
  | .streams => none
  | .elements => none
  | .trips => none
  | .groupState => none
  | .switches => none
  | .orders => none
  | .sequencers => none
  | .efsState => none
  | .earthResult => none
  | .huntRecord => none
  | .overrides => none
  | .modeState => none

/-- The result of checking one written entry: stored, with the state after it, or refused. -/
inductive Stored where
  | stored (s : State)
  | refused (c : ResultCode)

/-- R2: does the address already stand in another entry of the staged map? -/
def addressElsewhere (m : Vector RingAddr 17) (i : Nat) (a : RingAddr) : Bool :=
  m.toList.zipIdx.any fun p => p.1 == a && p.2 != i

/-- R2: an entry of the staged map. The address is the whole byte (R197), checked against 62. -/
def writeMapEntry (i : Nat) (bs : List Byte) (s : State) : Stored :=
  if h : i < 17 then
    let n := nat8At bs 0
    let a := BitVec.ofNat 6 n
    if 62 < n ∨ (n ≠ 0 ∧ a = s.rpt.ownAddress) ∨
        (n ≠ 0 ∧ addressElsewhere s.siu.staged i a = true) then
      .refused .invalid
    else .stored { s with siu := { s.siu with staged := upd s.siu.staged ⟨i, h⟩ a } }
  else .refused .badIndex

/-- R62, R64: a curve entry. -/
def writeCurve (i : Nat) (bs : List Byte) (s : State) : Stored :=
  if h : i < 8 then
    let c := Curve.ofBytes bs
    if 16 < c.count then .refused .invalid
    else if c.valid = false ∧ curveInUse s i = true then .refused .inUse
    else .stored { s with gst := { s.gst with curves := upd s.gst.curves ⟨i, h⟩ c } }
  else .refused .badIndex

/-- R67: a group record of feeder `f`, group `g`. -/
def writeGroup (i : Nat) (bs : List Byte) (s : State) : Stored :=
  if h : i < 32 then
    let f : Slot := ⟨i / 4, by omega⟩
    let g : GroupNo := ⟨i % 4, by omega⟩
    let r := GroupRecord.ofBytes bs
    if s.activeGroup f = some g ∨ s.pendingGroup f = some g then .refused .active
    else if (s.feeder f).inService = true ∧ (s.feeder f).names g = true ∧
        r.valid s.gst.curves = false then .refused .invalid
    else .stored { s with gst := { s.gst with groups := upd s.gst.groups ⟨i, h⟩ r } }
  else .refused .badIndex

/-- R69: is the feeder record refused INVALID? -/
def feederRefused (f : Slot) (r : FeederRecord) (s : State) : Bool :=
  !(r.modeMap.toList.all fun g => groupValidAt s f g) ||
    (s.mgr.device == .inService && r.inService && !(s.feeder f).inService &&
      s.samplingAddress f.role == 0)

/-- R70: is the record of a feeder that stays in service refused ACTIVE? Only the entry of the present mode is
held, also while a change is pending (DESIGN CHOICE, log entry 30). -/
def feederActive (f : Slot) (r : FeederRecord) (s : State) : Bool :=
  let old := s.feeder f
  s.mgr.device == .inService && old.inService && r.inService &&
    (r.district != old.district ||
      r.modeMap[(s.feederMode f).index] != old.modeMap[(s.feederMode f).index])

/-- A feeder leaves service: ELU clears its element state (R38), and IN SERVICE its groups become absent
(R70) and its sequencer follows R120. -/
def feederLeaves (f : Slot) (s : State) : State :=
  let t := s.setElement f .cleared
  if t.mgr.device = .inService then leaveSequencer f (t.setGroups f none none) else t

/-- A feeder joins service while IN SERVICE: its active group is the mapped one, GROUP_CHANGE is raised
and RCS is told (R70). -/
def feederJoins (f : Slot) (s : State) : State :=
  if s.mgr.device = .inService then applyGroup .joining none (mappedGroup s f) f s else s

/-- The effects of a stored feeder record: service (R70), FIRE by the new district (R161), the bus mode
(R165), in this order (log entry 21). -/
def feederStored (f : Slot) (old : FeederRecord) (s : State) : State :=
  let r := s.feeder f
  let t :=
    if old.inService = true ∧ r.inService = false then feederLeaves f s
    else if old.inService = false ∧ r.inService = true then feederJoins f s
    else s
  let u := if old.district = r.district then t else alignFire f t
  if old.inService = r.inService ∧ old.district = r.district then u else updateBusMode u

/-- R69, R70: a feeder record entry. -/
def writeFeeder (i : Nat) (bs : List Byte) (s : State) : Stored :=
  match slotOfByte i with
  | none => .refused .badIndex
  | some f =>
    match FeederRecord.ofBytes bs with
    | none => .refused .invalid
    | some r =>
      if feederRefused f r s then .refused .invalid
      else if feederActive f r s then .refused .active
      else .stored (feederStored f (s.feeder f) (s.setFeeder f r))

/-- R123: the earth settings record. -/
def writeEarthSettings (i : Nat) (bs : List Byte) (s : State) : Stored :=
  if i ≠ 0 then .refused .badIndex
  else match EarthSettings.ofBytes bs with
    | none => .refused .invalid
    | some e => .stored { s with efs := { s.efs with settings := e } }

/-- R124: the hunt order table. -/
def writeHuntOrder (i : Nat) (bs : List Byte) (s : State) : Stored :=
  if i ≠ 0 then .refused .badIndex
  else match huntOrderOfBytes bs with
    | none => .refused .invalid
    | some fs => .stored { s with efs := { s.efs with huntOrder := fs } }

/-- R152: a season window. -/
def writeSeasonWindow (i : Nat) (bs : List Byte) (s : State) : Stored :=
  match fin4OfByte i with
  | none => .refused .badIndex
  | some d =>
    match SeasonWindow.ofBytes bs with
    | none => .refused .invalid
    | some w => .stored { s with mdu := { s.mdu with windows := upd s.mdu.windows d w } }

/-- The declaration table with other entries. -/
def setDeclarations (ds : List Declaration) (s : State) : State :=
  { s with mdu := { s.mdu with declarations := ds } }

/-- R154: a declaration entry, placed by its key. -/
def writeDeclaration (bs : List Byte) (s : State) : Stored :=
  let ds := s.mdu.declarations
  match DeclarationWrite.ofBytes bs with
  | none => .refused .invalid
  | some (.cancel d day start) =>
    .stored (setDeclarations (ds.filter fun x => !sameKey ⟨d, day, start, 0, .normal⟩ x) s)
  | some (.put d) =>
    if (ds.any fun x => sameKey d x) = false ∧ 32 ≤ ds.length then .refused .full
    else .stored (setDeclarations (insertDeclaration d ds) s)

/-- One written entry at index `i`, checked and stored by its owner (R185). The index is judged before the
entry's fields (DESIGN CHOICE, log entry 38). -/
def Table.store (i : Nat) (bs : List Byte) (s : State) : Table → Stored
  | .stagedMap => writeMapEntry i bs s
  | .curves => writeCurve i bs s
  | .groups => writeGroup i bs s
  | .feeders => writeFeeder i bs s
  | .earthSettings => writeEarthSettings i bs s
  | .huntOrder => writeHuntOrder i bs s
  | .seasonWindows => writeSeasonWindow i bs s
  | .declarations => writeDeclaration bs s
  | .activeMap => .refused .badTable
  | .streams => .refused .badTable
  | .elements => .refused .badTable
  | .trips => .refused .badTable
  | .groupState => .refused .badTable
  | .switches => .refused .badTable
  | .orders => .refused .badTable
  | .sequencers => .refused .badTable
  | .efsState => .refused .badTable
  | .earthResult => .refused .badTable
  | .huntRecord => .refused .badTable
  | .overrides => .refused .badTable
  | .modeState => .refused .badTable

/-- The entries of a WRITE: `n` entries of `size` bytes each. -/
def splitEntries (size : Nat) : Nat → List Byte → List (List Byte)
  | 0, _ => []
  | n + 1, bs => bs.take size :: splitEntries size n (bs.drop size)

/-- What a WRITE did: its code, the number of entries stored, and the state. -/
structure Written where
  code  : ResultCode
  count : Nat
  state : State

/-- R185: entries taken in order, stopping at the first refused one. -/
def writeEntries (t : Table) : List (List Byte) → (i stored : Nat) → State → Written
  | [], _, n, s => ⟨.ok, n, s⟩
  | e :: es, i, n, s =>
    match t.store i e s with
    | .refused c => ⟨c, n, s⟩
    | .stored u => writeEntries t es (i + 1) (n + 1) u

/-- An owner that acts after the whole request: MDU evaluates the modes after a write of season windows or
declarations that stored one or more entries (R152, R154, R185). -/
def afterWrite (t : Table) (w : Written) : State :=
  if (t = .seasonWindows ∨ t = .declarations) ∧ 0 < w.count then evaluateModes w.state else w.state

/-- R185 for a writable table: the form, then the entries. The declaration table is written at index 0
only (R154), which is judged after the form (DESIGN CHOICE, log entry 38). -/
def writeTable (t : Table) (size i count : Nat) (entries : List Byte) (s : State) : Written :=
  if count = 0 ∨ entries.length ≠ count * size ∨ 232 < entries.length then ⟨.invalid, 0, s⟩
  else if t = .declarations ∧ i ≠ 0 then ⟨.badIndex, 0, s⟩
  else
    let w := writeEntries t (splitEntries size count entries) i 0 s
    { w with state := afterWrite t w }

end Sys2Proof.Machine
end

