-- ==== Sys2Proof/Machine/Requests.lean ====
section
/-! DEFINITION. MGR: the execution of the request at the head of the FIFO (R183), one meaning for each
request kind, and the changes of device state (Chapter 10). -/

namespace Sys2Proof.Machine

/-! ## Execution (R183) -/

/-- What an executed request leaves: its result code, the reply's content, and the state. -/
structure Executed where
  code    : ResultCode
  content : List Byte
  state   : State

/-- The request kind of a request (R200). -/
def Request.kind (q : Request) : Nat := nat8At q.payload 0

/-- The number of parameter bytes of a request (R200). -/
def Request.params (q : Request) : Nat := q.payload.length - 2

/-- Byte `i` of a request's parameters. -/
def Request.param (q : Request) (i : Nat) : Nat := nat8At q.payload (2 + i)

/-- The REPLY joins the tail of RPT's reply list (R176, R183). -/
def answerRequest (q : Request) (e : Executed) : State :=
  { e.state with rpt := { e.state.rpt with
      replies := e.state.rpt.replies ++
        [⟨q.source, byteAt q.payload 0, byteAt q.payload 1, e.code, e.content⟩] } }

/-- The request leaves the FIFO as its execution begins (R183). -/
def popRequest (rest : List Request) (s : State) : State := { s with mgr := { s.mgr with fifo := rest } }

/-- R183: the FIFO's head, when its kind is the row's and the reply list holds fewer than 4 replies, is
executed whole and answered. Otherwise the row's event has not taken place (log entry 5). -/
def runRequest (isKind : Nat → Bool) (body : Request → State → Executed) (s : State) : Out :=
  match s.mgr.fifo with
  | [] => .next s
  | q :: rest =>
    if isKind q.kind = true ∧ s.rpt.replies.length < 4 then
      .next (finish (answerRequest q (body q (popRequest rest s))))
    else .next s

/-- A refusal without content: nothing changes (R183). -/
def refused (c : ResultCode) (s : State) : Executed := ⟨c, [], s⟩

/-- The payload must fit the form of its kind: exactly `n` parameter bytes, else INVALID (R183, R198). This
INVALID has no content, of ENTER SERVICE neither (DESIGN CHOICE, log entry 35). -/
def withForm (n : Nat) (q : Request) (s : State) (body : State → Executed) : Executed :=
  if q.params = n then body s else refused .invalid s

/-- The slot of a request for one feeder; a slot above 7 is refused BAD_INDEX (R187). -/
def withSlot (q : Request) (s : State) (body : Slot → State → Executed) : Executed :=
  match slotOfByte (q.param 0) with
  | some f => body f s
  | none => refused .badIndex s

/-! ## READ and WRITE -/

/-- READ (R184). -/
def doRead (q : Request) (s : State) : Executed :=
  withForm 3 q s fun s =>
    match tableOf (q.param 0) with
    | none => refused .badTable s
    | some t =>
      if t.badStart s (q.param 1) then refused .badIndex s
      else
        let es := readEntries s t (q.param 2) (q.param 1) 120
        ⟨.ok, u8 (q.param 0) ++ u8 (q.param 1) ++ u8 es.length ++ [0] ++ es.flatten, s⟩

/-- READ: exec's arm. -/
def execRead (s : State) : Out := runRequest (· == 1) doRead s

/-- The content of a WRITE's reply (R200). A table or start index that the payload ends before is sent as 0
(DESIGN CHOICE, log entry 36). -/
def writeContent (q : Request) (stored : Nat) : List Byte :=
  u8 (q.param 0) ++ u8 (q.param 1) ++ u8 stored ++ [0]

/-- WRITE (R185). A payload too short to hold table, index and count does not fit the form (log entry
19). -/
def doWrite (q : Request) (s : State) : Executed :=
  if q.params < 3 then ⟨.invalid, writeContent q 0, s⟩
  else
    match tableOf (q.param 0) with
    | none => ⟨.badTable, writeContent q 0, s⟩
    | some t =>
      match t.writeSize with
      | none => ⟨.badTable, writeContent q 0, s⟩
      | some n =>
        let w := writeTable t n (q.param 1) (q.param 2) (q.payload.drop 5) s
        ⟨w.code, writeContent q w.count, w.state⟩

/-- WRITE: exec's arm. -/
def execWrite (s : State) : Out := runRequest (· == 2) doWrite s

/-! ## STATUS -/

/-- A stream's part of STATUS (R186). -/
def StreamRecord.statusBytes (r : StreamRecord) : List Byte :=
  u8 r.state.code ++ u16 r.gaps ++ u16 r.duplicates ++ u16 r.resyncs ++ flag r.notDropped

/-- The items of R186 in their order. -/
def statusBytes (s : State) : List Byte :=
  u8 s.mgr.device.code ++ addrByte s.rpt.ownAddress ++ addrByte s.mgr.destination ++
    flag s.siu.activated ++
    u16 s.mgr.overflow ++ u16 s.mgr.dropped ++ u8 s.mgr.notices.length ++
    u16 s.siu.foreign ++ (s.siu.streams.toList.map StreamRecord.statusBytes).flatten ++
    u16 s.rpt.crcErrors ++ u16 s.rpt.formatErrors ++ u16 s.rpt.overflows ++ flag s.rpt.overflowFlag ++
    flag s.oru.echoMissing ++ u16 s.mdu.invalidTime

/-- The latch-high flags are cleared, and every dropped-since-read flag is set high (R186). -/
def clearLatches (s : State) : State :=
  { s with
    rpt := { s.rpt with overflowFlag := false }
    oru := { s.oru with echoMissing := false }
    siu := { s.siu with streams := mapV (fun r => { r with notDropped := true }) s.siu.streams } }

/-- STATUS (R186). -/
def doStatus (q : Request) (s : State) : Executed :=
  withForm 0 q s fun s => ⟨.ok, statusBytes s, clearLatches s⟩

/-- STATUS: exec's arm. -/
def execStatus (s : State) : Out := runRequest (· == 3) doStatus s

/-! ## SNAPSHOT (R33, R34, R35) -/

/-- The newest feeder result whose cycle number stands in the bus list, with its partner (R33). -/
def commonResult (bus : List CycleResult) : List CycleResult → Option (CycleResult × CycleResult)
  | [] => none
  | r :: rs =>
    match lookupResult r.cycle bus with
    | some b => some (r, b)
    | none => commonResult bus rs

/-- R34: a side is valid when its stream is LOCKED and its result is not patched. -/
def sideValid (st : StreamState) (r : CycleResult) : Bool := st == .locked && !r.patched

/-- The zero bytes of an absent feeder or bus result. -/
def feederResultWidth : Nat := 49
def busResultWidth : Nat := 31

/-- The contents of a snapshot in the order of R33: the common cycle number, the feeder's and the bus's
result, W, the two stream states, the validity marks of feeder, bus and W. -/
def snapshotBytes (s : State) (f : Slot) : List Byte :=
  let fs := (s.pheStream f.role).results
  let bs := (s.pheStream busRole).results
  let fst := (s.stream f.role).state
  let bst := (s.stream busRole).state
  let states := u8 fst.code ++ u8 bst.code
  match commonResult bs fs with
  | some (r, b) =>
    let fv := sideValid fst r
    let bv := sideValid bst b
    let wv := fv && bv && !(r.channels[3]).overrange && !(b.channels[3]).overrange
    opt 2 cycleBytes (some r.cycle) ++ opt feederResultWidth CycleResult.bytes (some r) ++
      opt busResultWidth CycleResult.bytes (some b) ++ opt 4 i32 (some (residualPower r b)) ++ states ++
      flag fv ++ flag bv ++ flag wv
  | none =>
    opt 2 cycleBytes none ++ opt feederResultWidth CycleResult.bytes fs.head? ++
      opt busResultWidth CycleResult.bytes bs.head? ++ opt 4 i32 none ++ states ++
      flag false ++ flag false ++ flag false

/-- SNAPSHOT (R33, R187). -/
def doSnapshot (q : Request) (s : State) : Executed :=
  withForm 1 q s fun s => withSlot q s fun f s => ⟨.ok, snapshotBytes s f, s⟩

/-- SNAPSHOT: exec's arm. -/
def execSnapshot (s : State) : Out := runRequest (· == 4) doSnapshot s

/-! ## Requests for one feeder (R187) -/

/-- The result code of ORU's refusal (R89, R187). FIRE is a cause of automatic closes only. -/
def RefuseCause.code : RefuseCause → ResultCode
  | .tag => .refused
  | .local => .refused
  | .busy => .busy
  | .state => .state
  | .noSwitch => .state
  | .fire => .refused

/-- OPERATE once slot and kind are known: an order of origin OPERATOR (R187). -/
def operateOrder (k : OrderKind) (f : Slot) (s : State) : Executed :=
  let a := ask k .operator f s
  match a.1 with
  | .taken n => ⟨.ok, numberByte n, a.2⟩
  | .merged n => ⟨.ok, numberByte n, a.2⟩
  | .refused c => refused c.code a.2

/-- OPERATE (R187). -/
def doOperate (q : Request) (s : State) : Executed :=
  withForm 2 q s fun s => withSlot q s fun f s =>
    match OrderKind.ofByte (q.param 1) with
    | none => refused .invalid s
    | some k => operateOrder k f s

/-- OPERATE: exec's arm. -/
def execOperate (s : State) : Out := runRequest (· == 5) doOperate s

/-- BLOCK (R105). -/
def doBlock (q : Request) (s : State) : Executed :=
  withForm 1 q s fun s => withSlot q s fun f s => ⟨.ok, [], addReason .operator f s⟩

/-- BLOCK: exec's arm. -/
def execBlock (s : State) : Out := runRequest (· == 6) doBlock s

/-- UNBLOCK (R105). -/
def doUnblock (q : Request) (s : State) : Executed :=
  withForm 1 q s fun s => withSlot q s fun f s => ⟨.ok, [], removeReason .operator f s⟩

/-- UNBLOCK: exec's arm. -/
def execUnblock (s : State) : Out := runRequest (· == 7) doUnblock s

/-- RESET LOCKOUT (R119); the reply carries the sequencer state as the execution left it. -/
def doResetLockout (q : Request) (s : State) : Executed :=
  withForm 1 q s fun s => withSlot q s fun f s =>
    let t := resetLockout f s
    ⟨.ok, u8 (t.seq f).state.code, t⟩

/-- RESET LOCKOUT: exec's arm. -/
def execResetLockout (s : State) : Out := runRequest (· == 8) doResetLockout s

/-- RESET SWITCH (R85); the reply carries the health and the fail count as the execution left them. -/
def doResetSwitch (q : Request) (s : State) : Executed :=
  withForm 1 q s fun s => withSlot q s fun f s =>
    let t := resetSwitch f s
    ⟨.ok, u8 (t.switch f).health.code ++ u8 (t.switch f).failCount, t⟩

/-- RESET SWITCH: exec's arm. -/
def execResetSwitch (s : State) : Out := runRequest (· == 9) doResetSwitch s

/-! ## OVERRIDE (R157) -/

/-- A district's override is set or made absent, and the modes are evaluated. -/
def setOverride (d : District) (o : Option Override) (s : State) : State :=
  evaluateModes { s with mdu := { s.mdu with overrides := upd s.mdu.overrides d o } }

/-- The mode form of OVERRIDE, its mode byte read. -/
def overrideMode (d : District) (o : Override) (s : State) : Executed :=
  if 1439 < o.untilMinute then refused .invalid s
  else if s.mdu.running = true ∧ o.reached s.mdu.day s.minute = true then refused .invalid s
  else ⟨.ok, [], setOverride d (some o) s⟩

/-- OVERRIDE (R157): a mode byte of 255 is the clear form (R200), whose until bytes are not looked at. The
district is judged before the mode and the until-time (DESIGN CHOICE, log entry 38). -/
def doOverride (q : Request) (s : State) : Executed :=
  withForm 6 q s fun s =>
    match fin4OfByte (q.param 0) with
    | none => refused .badIndex s
    | some d =>
      if q.param 1 = 255 then ⟨.ok, [], setOverride d none s⟩
      else
        match Mode.ofByte (q.param 1) with
        | none => refused .invalid s
        | some m => overrideMode d ⟨m, word16At q.payload 4, nat16At q.payload 6⟩ s

/-- OVERRIDE: exec's arm. -/
def execOverride (s : State) : Out := runRequest (· == 10) doOverride s

/-! ## START HUNT and ABORT HUNT (R146) -/

/-- START HUNT (R146). -/
def doStartHunt (q : Request) (s : State) : Executed :=
  withForm 0 q s fun s =>
    if mayStartHunt s then ⟨.ok, [], startHunt .manual s⟩ else refused .state s

/-- START HUNT: exec's arm. -/
def execStartHunt (s : State) : Out := runRequest (· == 11) doStartHunt s

/-- ABORT HUNT (R146). -/
def doAbortHunt (q : Request) (s : State) : Executed :=
  withForm 0 q s fun s =>
    if mayAbortHunt s then ⟨.ok, [], abortHunt .request s⟩ else refused .state s

/-- ABORT HUNT: exec's arm. -/
def execAbortHunt (s : State) : Out := runRequest (· == 12) doAbortHunt s

/-! ## Device state -/

/-- The sampling entry of a feeder in the map that will be active after ENTER SERVICE (R192). -/
def entrySampling (s : State) (f : Slot) : RingAddr :=
  if s.siu.activated then s.samplingAddress f.role else s.siu.staged[f.role.val]

/-- R192: why an in-service feeder fails the check: cause GROUP 0 or ADDRESS 1, if it fails. A feeder that
fails both answers GROUP (DESIGN CHOICE, log entry 33). -/
def entryFailure (s : State) (f : Slot) : Option (Slot × Nat) :=
  if (s.feeder f).inService = false then none
  else if ((s.feeder f).modeMap.toList.all fun g => groupValidAt s f g) = false then some (f, 0)
  else if entrySampling s f = 0 then some (f, 1)
  else none

/-- R192 step 1: the map is activated when it has not been since power-on; the reasons of streams and
switches follow (R16, R86). -/
def activateAtEntry (s : State) : State :=
  if s.siu.activated then s
  else forSlots (fun f t => addReason .stream f (alignSwitch f t)) (activateMap s)

/-- R192, steps 1 to 6. -/
def enterService (src : RingAddr) (s : State) : State :=
  let t := evaluateModes (activateAtEntry s)
  forSlots setActiveAtEntry
    { t with mgr := { t.mgr with device := .inService, destination := src } }

/-- ENTER SERVICE (R192). -/
def doEnterService (q : Request) (s : State) : Executed :=
  withForm 0 q s fun s =>
    if s.mgr.device = .inService then refused .state s
    else
      match allSlots.findSome? (entryFailure s) with
      | some (f, c) => ⟨.invalid, slotByte f ++ u8 c, s⟩
      | none => ⟨.ok, [], enterService q.source s⟩

/-- ENTER SERVICE: exec's arm. -/
def execEnterService (s : State) : Out := runRequest (· == 13) doEnterService s

/-- Every element state record cleared (R38). -/
def clearElements (s : State) : State :=
  { s with elu := { s.elu with elements := .replicate 8 .cleared } }

/-- R193, steps 1 to 3. -/
def leaveService (s : State) : State :=
  let t := forSlots leaveSequencer (efsLeaveService s)
  clearGroups (clearElements { t with mgr := { t.mgr with device := .configuring } })

/-- LEAVE SERVICE (R193). -/
def doLeaveService (q : Request) (s : State) : Executed :=
  withForm 0 q s fun s =>
    if s.mgr.device = .configuring then refused .state s else ⟨.ok, [], leaveService s⟩

/-- LEAVE SERVICE: exec's arm. -/
def execLeaveService (s : State) : Out := runRequest (· == 14) doLeaveService s

/-- R104: a feeder's block-reason set after RESTART, from its owners' state. -/
def restartReasons (s : State) (f : Slot) : ReasonSet where
  fire := s.feederMode f == .ban
  tag := (s.switch f).tag
  loc := (s.switch f).loc
  stream := true
  switch := (s.switch f).health != .reachable
  hunt := false
  earth := (s.seq f).reasons.earth
  operator := (s.seq f).reasons.operator

/-- R99: an order abandoned at RESTART, with the position derived anew. -/
def abandonOrder (f : Slot) (s : State) : State := putOrder f (s.order f).idled s

/-- R104 for one feeder: no sequencer event arises. -/
def setRestartReasons (f : Slot) (s : State) : State :=
  s.setSeq f { s.seq f with reasons := restartReasons s f }

/-- R194, R180: the queues of MGR and RPT are emptied, without reply and without counting. -/
def emptyQueues (s : State) : State :=
  { s with
    rpt := { s.rpt with forward := [], replies := [] }
    mgr := { s.mgr with fifo := [], notices := [] } }

/-- R194: RESTART. -/
def restart (s : State) : State :=
  let a := forSlots abandonOrder (activateMap (emptyQueues s))
  let b := clearGroups (clearElements { a with mgr := { a.mgr with device := .configuring } })
  efsRestart (forSlots restartSequencer (forSlots setRestartReasons b))

/-- RESTART (R194): the reply is built after all this and joins the emptied reply list. -/
def doRestart (q : Request) (s : State) : Executed :=
  withForm 0 q s fun s => ⟨.ok, [], restart s⟩

/-- RESTART: exec's arm. -/
def execRestart (s : State) : Out := runRequest (· == 15) doRestart s

/-- UNKNOWN_REQUEST_KIND (R183): answered INVALID, and nothing changes. -/
def doUnknown (_q : Request) (s : State) : Executed := refused .invalid s

/-- UNKNOWN_REQUEST_KIND: exec's arm. The fifteen kinds of Chapter 10 are 1 to 15 (R200). -/
def execUnknownRequestKind (s : State) : Out := runRequest (fun k => k == 0 || decide (15 < k)) doUnknown s

end Sys2Proof.Machine
end

