-- ==== Sys2Proof/Machine/Dispatch.lean ====
section
/-! DEFINITION. exec: one arm for each command, in the order of spec/opcode_table.json. -/

namespace Sys2Proof.Machine

def exec (i : Instr) (s : State) : Host.Outcome State Fault Refusal :=
  match i with
  | .powerOn straps => Sys2Proof.Machine.execPowerOn straps s
  | .localTick => Sys2Proof.Machine.execLocalTick s
  | .minuteBoundary => Sys2Proof.Machine.execMinuteBoundary s
  | .dayChange => Sys2Proof.Machine.execDayChange s
  | .sample frame => Sys2Proof.Machine.execSample frame s
  | .state frame => Sys2Proof.Machine.execState frame s
  | .time frame => Sys2Proof.Machine.execTime frame s
  | .request frame => Sys2Proof.Machine.execRequest frame s
  | .frameReceived frame => Sys2Proof.Machine.execFrameReceived frame s
  | .frameEnd => Sys2Proof.Machine.execFrameEnd s
  | .supervisionTimerExpiry role => Sys2Proof.Machine.execSupervisionTimerExpiry role s
  | .stateSupervisionExpiry slot => Sys2Proof.Machine.execStateSupervisionExpiry slot s
  | .echoWatchExpiry slot => Sys2Proof.Machine.execEchoWatchExpiry slot s
  | .confirmTimerExpiry slot => Sys2Proof.Machine.execConfirmTimerExpiry slot s
  | .deadTimerExpiry slot => Sys2Proof.Machine.execDeadTimerExpiry slot s
  | .reclaimTimerExpiry slot => Sys2Proof.Machine.execReclaimTimerExpiry slot s
  | .huntLimitExpiry => Sys2Proof.Machine.execHuntLimitExpiry s
  | .read => Sys2Proof.Machine.execRead s
  | .write => Sys2Proof.Machine.execWrite s
  | .status => Sys2Proof.Machine.execStatus s
  | .snapshot => Sys2Proof.Machine.execSnapshot s
  | .operate => Sys2Proof.Machine.execOperate s
  | .block => Sys2Proof.Machine.execBlock s
  | .unblock => Sys2Proof.Machine.execUnblock s
  | .resetLockout => Sys2Proof.Machine.execResetLockout s
  | .resetSwitch => Sys2Proof.Machine.execResetSwitch s
  | .override => Sys2Proof.Machine.execOverride s
  | .startHunt => Sys2Proof.Machine.execStartHunt s
  | .abortHunt => Sys2Proof.Machine.execAbortHunt s
  | .enterService => Sys2Proof.Machine.execEnterService s
  | .leaveService => Sys2Proof.Machine.execLeaveService s
  | .restart => Sys2Proof.Machine.execRestart s
  | .unknownRequestKind => Sys2Proof.Machine.execUnknownRequestKind s

end Sys2Proof.Machine
end

