-- ==== Sys2Proof/Safety.lean ====
section
/-! DEFINITION. What a safe FE-8 is: the laws its state keeps at every step, each a predicate of one
state, and the words in which the obligations speak of an event. -/

namespace Sys2Proof.Machine

/-! ## Laws of the state -/

/-- Every queue within its capacity, and no notice held back between events (R169, R182, R188). -/
abbrev QueuesBounded (s : State) : Prop :=
  s.rpt.forward.length ≤ 8 ∧ s.rpt.replies.length ≤ 4 ∧ s.mgr.fifo.length ≤ 4 ∧
    s.mgr.notices.length ≤ 32 ∧ s.raised = []

/-- The counters that hold at 65535 (R4, R5, R151, R169, R182). -/
abbrev CountersBounded (s : State) : Prop :=
  s.rpt.crcErrors ≤ 65535 ∧ s.rpt.formatErrors ≤ 65535 ∧ s.rpt.overflows ≤ 65535 ∧
    s.mgr.overflow ≤ 65535 ∧ s.mgr.dropped ≤ 65535 ∧ s.siu.foreign ≤ 65535 ∧
    s.mdu.invalidTime ≤ 65535 ∧
    ∀ r : Role, (s.stream r).gaps ≤ 65535 ∧ (s.stream r).duplicates ≤ 65535 ∧
      (s.stream r).resyncs ≤ 65535

/-- The clock's ms lie within a day, and the declarations stand in ascending order of key, at most 32
(R150, R153). -/
abbrev CalendarSound (s : State) : Prop :=
  s.mdu.ms < 86400000 ∧ s.mdu.declarations.length ≤ 32 ∧
    s.mdu.declarations.Pairwise (fun a b => keyBefore a b = true)

/-- Accumulators within 0 to 1,048,576 and cycle-result lists of at most four (R48, R29). -/
abbrev MeasuresBounded (s : State) : Prop :=
  (∀ f : Slot, (s.element f).phIt.acc ≤ 1048576 ∧ (s.element f).efIt.acc ≤ 1048576) ∧
    ∀ r : Role, (s.pheStream r).results.length ≤ 4

/-- What R100 says of a sequencer record: the dead timer runs in DEAD alone and the reclaim timer in
RECLAIM alone; the end cause is none but in OPENING, the awaited number none but in OPENING and CLOSING,
the lockout cause none but in LOCKOUT; the shot is 0 in READY. -/
abbrev SeqRecord.coherent (q : SeqRecord) : Prop :=
  (q.state ≠ .dead → q.dead = none) ∧ (q.state ≠ .reclaim → q.reclaim = none) ∧
    (q.state ≠ .opening → q.endCause = .none) ∧
    (q.state ≠ .opening → q.state ≠ .closing → q.awaited = none) ∧
    (q.state ≠ .lockout → q.lockoutCause = .none) ∧ (q.state = .ready → q.shot = 0)

/-- What R87 says of an order record: the timers are stopped but while SENT, when the confirm timer
runs. -/
abbrev OrderRecord.coherent (o : OrderRecord) : Prop :=
  (o.state ≠ .sent → o.echoWatch = none ∧ o.confirm = none) ∧ (o.state = .sent → o.confirm.isSome)

abbrev RecordsCoherent (s : State) : Prop :=
  ∀ f : Slot, (s.seq f).coherent ∧ (s.order f).coherent

/-- The block reasons that follow another block's state: FIRE the district mode (R161), TAG and LOCAL the
switch record (R83), STREAM the stream state (R16), SWITCH the health (R86); and the position follows the
reported position and the order record (R81). -/
abbrev ReasonsFollow (s : State) : Prop :=
  ∀ f : Slot,
    s.holds f .fire = (s.feederMode f == .ban) ∧ s.holds f .tag = (s.switch f).tag ∧
      s.holds f .local = (s.switch f).loc ∧
      s.holds f .stream = !(s.stream f.role).state.delivers ∧
      s.holds f .switch = ((s.switch f).health != .reachable) ∧
      (s.switch f).position = derivePosition (s.switch f).reported (s.order f)

/-- The feeder under test alone holds HUNT, and there is one only while HUNTING, with a step state
(R136). -/
abbrev HuntCoherent (s : State) : Prop :=
  (∀ f : Slot, s.holds f .hunt = decide (s.efs.hunt.underTest = some f)) ∧
    (s.efs.hunt.underTest.isSome → s.efs.record.state = .hunting) ∧
    s.efs.hunt.underTest.isSome = s.efs.hunt.step.isSome

/-- What depends on service: a feeder has an active group exactly while it acts, and a pending group only
beside a different active one (R72); a sequencer that does not act stands in READY or LOCKOUT (R120); in
CONFIGURING EFS is QUIET (R125) and every element state record is cleared (R38). -/
abbrev ServiceCoherent (s : State) : Prop :=
  (∀ f : Slot,
    (s.activeGroup f).isSome = s.acting f ∧
      (s.pendingGroup f ≠ none → s.activeGroup f ≠ none ∧ s.pendingGroup f ≠ s.activeGroup f) ∧
      (s.acting f = false → (s.seq f).state = .ready ∨ (s.seq f).state = .lockout)) ∧
    (s.mgr.device = .configuring →
      s.efs.record.state = .quiet ∧ ∀ f : Slot, s.element f = ElementState.cleared)

/-- While IN SERVICE every group that the mode map of an in-service feeder names is valid (R71). -/
abbrev MappedGroupsValid (s : State) : Prop :=
  s.mgr.device = .inService → ∀ f : Slot, (s.feeder f).inService = true →
    ∀ m : Fin 3, groupValidAt s f (s.feeder f).modeMap[m] = true

/-- The bounds that hold at every step, together. -/
abbrev BoundsKept (s : State) : Prop :=
  QueuesBounded s ∧ CountersBounded s ∧ MeasuresBounded s ∧ CalendarSound s

/-! ## Words of the obligations: what an event leaves alone -/

/-- Nothing differs outside ORU, RCS, EFS and the notices raised. -/
abbrev OutsideOrdersSame (s u : State) : Prop :=
  u.rpt = s.rpt ∧ u.siu = s.siu ∧ u.phe = s.phe ∧ u.elu = s.elu ∧ u.gst = s.gst ∧ u.mdu = s.mdu ∧
    u.mgr = s.mgr ∧ u.due = s.due ∧ u.pending = s.pending

/-- Outside EFS and the notices raised, only feeder `k`'s switch, order and sequencer records differ. -/
abbrev OnlyFeeder (k : Slot) (s u : State) : Prop :=
  OutsideOrdersSame s u ∧ u.oru.echoMissing = s.oru.echoMissing ∧
    ∀ g, g ≠ k → u.switch g = s.switch g ∧ u.order g = s.order g ∧ u.seq g = s.seq g

/-- No block but RPT, MGR's notices and one feeder's order can differ at the end of an event. -/
abbrev BlocksSame (s u : State) : Prop :=
  u.siu = s.siu ∧ u.phe = s.phe ∧ u.elu = s.elu ∧ u.gst = s.gst ∧ u.rcs = s.rcs ∧ u.efs = s.efs ∧
    u.mdu = s.mdu ∧ u.due = s.due ∧ u.pending = s.pending

/-- The effect of command `i` at `s` is `u`; the event then ends: its notices join the queue (R188), and
an IDLE OUT port takes a frame (R177). -/
abbrev Effect (i : Instr) (s u : State) : Prop := exec i s = .next (finish u)

/-! ## Words of the obligations: received frames (R171, R172) -/

abbrev sourceOf (f : RxFrame) : RingAddr := addrAt f.bytes 1

abbrev destinationOf (f : RxFrame) : RingAddr := addrAt f.bytes 0

abbrev kindOf (f : RxFrame) : Nat := nat8At f.bytes 2

/-- The payload length of the header. -/
abbrev lengthOf (f : RxFrame) : Nat := nat8At f.bytes 3

abbrev payloadOf (f : RxFrame) : List Byte := (f.bytes.drop 4).take (lengthOf f)

/-- The frame is of bad length (R171, with the lengths of R196). -/
abbrev BadLength (f : RxFrame) : Prop :=
  f.bytes.length ≠ 4 + lengthOf f + 2 ∨ 240 < lengthOf f ∨
    kindOf f = 1 ∧ lengthOf f ≠ 12 ∨ kindOf f = 2 ∧ lengthOf f ≠ 4 ∨ kindOf f = 3 ∧ lengthOf f ≠ 6 ∨
    kindOf f = 4 ∧ lengthOf f ≠ 4 ∨ kindOf f = 5 ∧ lengthOf f < 2 ∨ kindOf f = 6 ∧ lengthOf f < 4 ∨
    kindOf f = 7 ∧ lengthOf f < 16 ∨ f.cutShort = true

/-- The frame's last two bytes are the CRC of R171 over its header and payload, high byte first. -/
abbrev CrcMatches (f : RxFrame) : Prop :=
  (crc16 (f.bytes.take (4 + lengthOf f))).toNat = nat16At f.bytes (4 + lengthOf f)

/-- The source address is 0 or 63 (R171). -/
abbrev BadSource (f : RxFrame) : Prop := sourceOf f = 0 ∨ sourceOf f = 63

/-- The frame passes the three checks of R171. -/
abbrev WellFormedFrame (f : RxFrame) : Prop := ¬ BadLength f ∧ CrcMatches f ∧ ¬ BadSource f

/-- A well-formed frame of kind `k` that is not an echo (R172). -/
abbrev Arrives (k : Nat) (f : RxFrame) (s : State) : Prop :=
  WellFormedFrame f ∧ sourceOf f ≠ s.rpt.ownAddress ∧ kindOf f = k

/-- Header and payload with their CRC, high byte first (R171, R178). -/
abbrev withCrc (body : List Byte) : List Byte :=
  body ++ [BitVec.ofNat 8 ((crc16 body).toNat / 256), BitVec.ofNat 8 (crc16 body).toNat]

/-- `s` with the frame at the tail of the forward buffer, or discarded and counted at a full one
(R175). -/
abbrev forwarded (f : RxFrame) (s : State) : State :=
  if s.rpt.forward.length < 8 then
    { s with rpt := { s.rpt with forward := s.rpt.forward ++ [f.bytes] } }
  else
    { s with rpt := { s.rpt with
        overflows := min 65535 (s.rpt.overflows + 1), overflowFlag := true } }

/-- A SAMPLE frame with sample `x` for the stream of role `r` (R4). -/
abbrev SampleArrives (f : RxFrame) (r : Role) (x : Sample) (s : State) : Prop :=
  Arrives 1 f s ∧ routeSample s (sourceOf f) = some r ∧ x = Sample.ofPayload (payloadOf f)

/-- A STATE frame with report `p` for feeder `k` (R80). -/
abbrev StateArrives (f : RxFrame) (k : Slot) (p : StateReport) (s : State) : Prop :=
  Arrives 2 f s ∧ routeState s (sourceOf f) = some k ∧ StateReport.ofPayload (payloadOf f) = some p

/-- The stream is in LOCKED or PATCHED. -/
abbrev Delivering (r : Role) (s : State) : Prop :=
  (s.stream r).state = .locked ∨ (s.stream r).state = .patched

/-- The distance d of R6 of a sample from the last one of its stream. -/
abbrev distanceOf (r : Role) (x : Sample) (s : State) : Nat :=
  (x.number - (s.stream r).lastSample).toNat

/-- Sample `x`, filled or not, is in the slots of its coefficient index, and every other slot of the window
is as it was (R19, R22). -/
abbrev SlotsReplaced (x : Sample) (filled : Bool) (w u : Window) : Prop :=
  (∀ (ch : Fin 4) (k : Fin 32), u.channels[ch][k] =
    if k.val = x.number.toNat % 32 then ⟨x.values[ch], x.overs[ch], filled, true⟩
    else w.channels[ch][k]) ∧
  u.stored = if (w.channels[0][coeffIndex x.number]).occupied then w.stored else w.stored + 1

/-- The cycle result that a sample of role `r` completes, handed in stream state `st` (R28). -/
abbrev cycleResultOf (r : Role) (x : Sample) (st : StreamState) (w : Window) : CycleResult :=
  ⟨BitVec.ofNat 11 (x.number.toNat / 32), w.results, if r = busRole then none else some w.harmonics,
    decide (st = .patched)⟩

/-- PHE has stored sample `x` of role `r`, handed in LOCKED or PATCHED, and computed what R22, R28 and R29
say. -/
abbrev PhasorsUpdated (r : Role) (x : Sample) (filled : Bool) (st : StreamState) (p q : PheStream) :
    Prop :=
  SlotsReplaced x filled p.window q.window ∧
    q.present = (if r = busRole then p.present else some q.window.results) ∧
    q.results =
      if x.number.toNat % 32 = 31 then (cycleResultOf r x st q.window :: p.results).take 4
      else p.results

/-- The handing of sample `x` to PHE in LOCKED or PATCHED takes `s` to `u`: PHE's update; ELU evaluates the
feeder with the coefficient index, the stream state, the present phasors and the cycle result, if one is
completed (R27, R38); EFS takes the result (R129; of the bus R30, R127). -/
abbrev HandedOn (r : Role) (x : Sample) (filled : Bool) (st : StreamState) (s u : State) : Prop :=
  ∃ p : PheStream, PhasorsUpdated r x filled st (s.pheStream r) p ∧
    let t := s.setPheStream r p
    let c := cycleResultOf r x st p.window
    (∀ k : Slot, r = k.role →
      ∃ i : Fin 32, i.val = x.number.toNat % 32 ∧
        (i.val ≠ 31 → u = evaluate k ⟨x.number, i, st, filled, p.window.results, none⟩ t) ∧
        (i.val = 31 →
          u = efsFeederResult k c (evaluate k ⟨x.number, i, st, filled, p.window.results, some c⟩ t))) ∧
    (r = busRole → u = if x.number.toNat % 32 = 31 then efsBusCompletion c t else t)

/-- The element state record `x` is `e` but for the elements that are off (threshold or pickup 0) in group `old`
and on in group `new`: those begin from the cleared state (R39). -/
abbrev BegunCleared (old new : GroupRecord) (e x : ElementState) : Prop :=
  x.phHs = (if old.phHs.threshold = 0 ∧ new.phHs.threshold ≠ 0 then ⟨false, false, false, 0⟩ else e.phHs) ∧
    x.phIt = (if old.phIt.pickup = 0 ∧ new.phIt.pickup ≠ 0 then ⟨false, false, false, 0⟩ else e.phIt) ∧
    x.efHs =
      (if old.efHs.threshold = 0 ∧ new.efHs.threshold ≠ 0 then ⟨false, false, false, 0⟩ else e.efHs) ∧
    x.efIt = (if old.efIt.pickup = 0 ∧ new.efIt.pickup ≠ 0 then ⟨false, false, false, 0⟩ else e.efIt) ∧
    x.sef = (if old.sef.threshold = 0 ∧ new.sef.threshold ≠ 0 then ⟨false, false, false, 0⟩ else e.sef) ∧
    x.restraint = e.restraint

/-- A window that holds sample `x` alone (R10, R20). -/
abbrev OnlySample (x : Sample) (w : Window) : Prop :=
  w.stored = 1 ∧ ∀ (ch : Fin 4) (k : Fin 32), w.channels[ch][k] =
    if k.val = x.number.toNat % 32 then ⟨x.values[ch], x.overs[ch], false, true⟩
    else ⟨0, false, false, false⟩

/-- What a sample of role `r`, or its stream's loss, leaves alone whatever it brings about. -/
abbrev StreamOnly (r : Role) (s u : State) : Prop :=
  (∀ q, q ≠ r → u.stream q = s.stream q ∧ u.pheStream q = s.pheStream q) ∧
    u.siu.staged = s.siu.staged ∧ u.siu.active = s.siu.active ∧ u.siu.activated = s.siu.activated ∧
    u.siu.foreign = s.siu.foreign ∧ u.rpt = s.rpt ∧ u.gst.curves = s.gst.curves ∧
    u.gst.groups = s.gst.groups ∧ u.gst.feeders = s.gst.feeders ∧ u.mdu = s.mdu ∧ u.mgr = s.mgr ∧
    u.pending = s.pending

/-- The FE-8 has a ring address (R170). -/
abbrev OnTheRing (s : State) : Prop := s.rpt.ownAddress ≠ 0 ∧ s.rpt.ownAddress ≠ 63

/-! ## Words of the obligations: requests (R183) -/

/-- The FIFO's head is `q`, of kind `k` with `n` parameter bytes, and can be executed now. -/
abbrev AtHead (k n : Nat) (q : Request) (rest : List Request) (s : State) : Prop :=
  s.mgr.fifo = q :: rest ∧ nat8At q.payload 0 = k ∧ q.payload.length = 2 + n ∧
    s.rpt.replies.length < 4

/-- `s` with the request out of the FIFO. -/
abbrev begun (rest : List Request) (s : State) : State := { s with mgr := { s.mgr with fifo := rest } }

/-- `v` with the REPLY to `q` at the tail of the reply list (R176, R200). -/
abbrev answered (q : Request) (c : ResultCode) (content : List Byte) (v : State) : State :=
  { v with rpt := { v.rpt with replies := v.rpt.replies ++
      [⟨q.source, byteAt q.payload 0, byteAt q.payload 1, c, content⟩] } }

/-- The effect of request command `i` is `v` and the reply. -/
abbrev Replies (i : Instr) (s : State) (q : Request) (c : ResultCode) (content : List Byte) (v : State) :
    Prop := Effect i s (answered q c content v)

/-- The request commands but WRITE, each with its kind and its number of parameter bytes (R200). -/
abbrev requestForms : List (Instr × Nat × Nat) :=
  [(.read, 1, 3), (.status, 3, 0), (.snapshot, 4, 1), (.operate, 5, 2), (.block, 6, 1),
   (.unblock, 7, 1), (.resetLockout, 8, 1), (.resetSwitch, 9, 1), (.override, 10, 6),
   (.startHunt, 11, 0), (.abortHunt, 12, 0), (.enterService, 13, 0), (.leaveService, 14, 0),
   (.restart, 15, 0)]

/-- The requests that name a feeder slot (R187). -/
abbrev slotForms : List (Instr × Nat × Nat) :=
  [(.snapshot, 4, 1), (.operate, 5, 2), (.block, 6, 1), (.unblock, 7, 1), (.resetLockout, 8, 1),
   (.resetSwitch, 9, 1)]

/-- The entries, the first at index `i`, are all stored, one after the other, and leave `t` (R185). -/
def storesTo (tb : Table) : Nat → List (List Byte) → State → State → Prop
  | _, [], s, t => t = s
  | i, e :: es, s, t => ∃ u, tb.store i e s = .stored u ∧ storesTo tb (i + 1) es u t

/-! ## Words of the obligations: orders, sequencers, modes, hunts -/

/-- The order number of R88: the last issued number plus 1, and once more when that is the last executed
one. -/
abbrev numberAfter (issued executed : OrderNo) : OrderNo :=
  if issued + 1 = executed then issued + 1 + 1 else issued + 1

/-- The fresh number of feeder `f`. -/
abbrev fresh (s : State) (f : Slot) : OrderNo := numberAfter (s.order f).lastIssued (s.switch f).lastExecuted

/-- The order record of a request just taken (R91). -/
abbrev requested (k : OrderKind) (who : Origin) (n : OrderNo) : OrderRecord :=
  ⟨.requested, k, who, ⟨false, false, false, false⟩, n, n, none, none⟩

/-- The order record back in IDLE (R87). -/
abbrev idle (o : OrderRecord) : OrderRecord := { o with state := .idle, echoWatch := none, confirm := none }

/-- The position of R81. -/
abbrev positionOf (reported : Option Reported) (o : OrderRecord) : Position :=
  match reported with
  | none => .unknown
  | some .opened => if o.state = .sent ∧ o.kind = .close then .between else .opened
  | some .closed => .closed
  | some .between => .between

/-- The sequencer in LOCKOUT with its cause, as R102 leaves it. -/
abbrev lockedOut (c : LockoutCause) (q : SeqRecord) : SeqRecord :=
  { q with state := .lockout, dead := none, reclaim := none, endCause := .none, awaited := none
           lockoutCause := c }

/-- The LOCKOUT notice of R102 for a sequencer that was `q`. -/
abbrev lockoutNotice (c : LockoutCause) (f : Slot) (q : SeqRecord) (s : State) : Notice :=
  ⟨some f, s.tod, none, .lockout q.state q.shot c q.reasons⟩

/-- `s` with feeder `f` sent to LOCKOUT by R102. -/
abbrev withLockout (c : LockoutCause) (f : Slot) (s : State) : State :=
  { s.setSeq f (lockedOut c (s.seq f)) with raised := s.raised ++ [lockoutNotice c f (s.seq f) s] }

/-- A sequencer when the device or its feeder leaves service (R120). -/
abbrev seqLeft (q : SeqRecord) : SeqRecord :=
  match q.state with
  | .opening => lockedOut .service q
  | .dead => lockedOut .service q
  | .closing => lockedOut .service q
  | .reclaim => { q with state := .ready, shot := 0, reclaim := none }
  | .ready => q
  | .lockout => q

/-- A sequencer in OPENING, DEAD or CLOSING: a sequence is under way. -/
abbrev MidSequence (q : SeqRecord) : Prop := q.state = .opening ∨ q.state = .dead ∨ q.state = .closing

/-- FIRE of feeder `f` has been brought into line with its district's mode (R161). In DEAD the addition brings
LOCKOUT (R106), and a REQUESTED CLOSE of origin RECLOSE or EARTH is withdrawn and reported (R94). -/
abbrev FireAligned (f : Slot) (s u : State) : Prop :=
  let q := { s.seq f with reasons := { (s.seq f).reasons with fire := decide (s.feederMode f = .ban) } }
  let added := s.feederMode f = .ban ∧ s.holds f .fire = false
  let o := s.order f
  let withdrawn := o.state = .requested ∧ o.kind = .close ∧ (o.origin = .reclose ∨ o.origin = .earth)
  let v := if added ∧ s.acting f = true ∧ q.state = .dead then withLockout .blocked f (s.setSeq f q)
    else s.setSeq f q
  (¬ (added ∧ withdrawn) → u = v) ∧
    (added → withdrawn → u = deliver ⟨f, .close, o.origin, some o.number, o.joined, .withdrawn⟩
      ((v.setOrder f (idle o)).setSwitch f
        { s.switch f with position := positionOf (s.switch f).reported (idle o) }))

/-- `s` with the order of a request just taken, and the position derived anew (R91, R81). -/
abbrev withRequest (k : OrderKind) (who : Origin) (f : Slot) (s : State) : State :=
  (s.setOrder f (requested k who (fresh s f))).setSwitch f
    { s.switch f with position := positionOf (s.switch f).reported (requested k who (fresh s f)) }

/-- The feeder's block-reason set is empty (R103). -/
abbrev NoReason (s : State) (f : Slot) : Prop := ∀ r : Reason, s.holds f r = false

/-- EFS awaits no outcome of feeder `f`'s order (R125). -/
abbrev EfsAwaitsNot (f : Slot) (s : State) : Prop :=
  ¬ (s.efs.record.state = .identified ∧ s.efs.record.identified = some f) ∧
    ¬ (s.efs.record.state = .hunting ∧ s.efs.hunt.underTest = some f)

/-- Every district holds the mode and source that R159 gives it now, and the bus mode is the one of
R164. -/
abbrev ModesEvaluated (s : State) : Prop :=
  (∀ d : District, (s.mdu.modes[d], s.mdu.sources[d]) = districtMode s d) ∧
    s.mdu.busMode = derivedBusMode s

/-- An evaluation of R159 at `s` finds no district's mode and no bus mode changed. -/
abbrev ModesSettled (s : State) : Prop :=
  (∀ d : District, (districtMode s d).1 = s.mdu.modes[d]) ∧ derivedBusMode s = s.mdu.busMode

/-- What an evaluation of R159 leaves alone. -/
abbrev ModesOnly (s u : State) : Prop :=
  u.rpt = s.rpt ∧ u.siu = s.siu ∧ u.phe = s.phe ∧ u.elu = s.elu ∧ u.gst.curves = s.gst.curves ∧
    u.gst.groups = s.gst.groups ∧ u.gst.feeders = s.gst.feeders ∧
    u.mdu = { s.mdu with
      modes := u.mdu.modes, sources := u.mdu.sources, busMode := u.mdu.busMode } ∧
    u.efs.settings = s.efs.settings ∧ u.efs.huntOrder = s.efs.huntOrder ∧ u.mgr = s.mgr ∧
    u.pending = s.pending

/-- The override of a district after the check of R158 at the clock of `s`. -/
abbrev checkedOverride (s : State) (d : District) : Option Override :=
  match s.mdu.overrides[d] with
  | none => none
  | some o =>
    if s.mdu.running = true ∧ (o.untilDay.toNat < s.mdu.day.toNat ∨
        o.untilDay = s.mdu.day ∧ o.untilMinute ≤ s.mdu.ms / 60000) then none
    else some o

/-- The declarations that a purge at day `day` leaves (R156). -/
abbrev purged (day : Day) (ds : List Declaration) : List Declaration :=
  ds.filter fun d => decide (day.toNat ≤ d.day.toNat)

/-- A hunt under way that no abort has touched yet (R142). -/
abbrev HuntUnderWay (s : State) : Prop :=
  s.mgr.device = .inService ∧ s.efs.record.state = .hunting ∧ s.efs.hunt.abortCause = .none

/-- What an abort with cause `c` has done to the hunt of `s` (R142, R143). Where B is not BAN: in OPENING
and RESTORING the order in flight is awaited; in OBSERVING the CLOSE is asked; in SETTLING the abort has
ended and ABORTED is written for the feeder under test. Where B is BAN: the feeder under test is left open
with EARTH and LOCKOUT, and a bus trip begins. -/
abbrev HuntAborted (c : AbortCause) (s u : State) : Prop :=
  (∀ f, s.mdu.busMode ≠ .ban → s.efs.hunt.underTest = some f →
      s.efs.hunt.step = some .opening ∨ s.efs.hunt.step = some .restoring →
      u.efs = { s.efs with hunt := { s.efs.hunt with abortCause := c } } ∧ u.oru = s.oru ∧
        u.rcs = s.rcs) ∧
    (∀ f, s.mdu.busMode ≠ .ban → s.efs.hunt.underTest = some f →
      s.efs.hunt.step = some .observing → s.switchAddress f ≠ 0 → (s.order f).state = .idle →
      s.holds f .fire = false →
      u.efs = { s.efs with hunt := { s.efs.hunt with
        abortCause := c, step := some .restoring, countdown := none, order := some (fresh s f) } } ∧
      u.order f = requested .close .earth (fresh s f)) ∧
    (∀ f, s.mdu.busMode ≠ .ban → s.efs.hunt.underTest = some f →
      s.efs.hunt.step = some .settling →
      u.holds f .hunt = false ∧ u.efs.hunt.underTest = none ∧ u.efs.hunt.abortCause = c ∧
        u.efs.record.state ≠ .hunting ∧ u.efs.result.outcome = .aborted ∧
        u.efs.result.feeder = some f) ∧
    ∀ f, s.mdu.busMode = .ban → s.efs.hunt.underTest = some f →
      u.holds f .hunt = false ∧ u.holds f .earth = true ∧
        (s.acting f = true → (u.seq f).state = .lockout) ∧ u.efs.hunt.underTest = none ∧
        u.efs.record.state = .busTrip ∧ u.efs.result.outcome = .aborted ∧
        u.efs.result.feeder = some f

/-- The bus stream's entry into FILLING or LOST aborts a hunt, and is nothing else to EFS (R142, R148). -/
abbrev BusStreamEntered (s u : State) : Prop :=
  (HuntUnderWay s → HuntAborted .busStream s u) ∧
    (¬ HuntUnderWay s → u.efs = s.efs ∧ u.oru = s.oru ∧ u.rcs = s.rcs)

/-- The feeder has lost its stream (R16, R17, R75): it holds STREAM, has no pending group, and the notice
is raised. The bus raises its notice without a slot, and a hunt aborts (R142). -/
abbrev StreamStopped (r : Role) (n : Option SampleNo) (new : StreamState) (s u : State) : Prop :=
  (∀ k : Slot, r = k.role → u.holds k .stream = true ∧ u.pendingGroup k = none ∧
    (∀ g, s.pendingGroup k = some g → u.activeGroup k = some g) ∧
    ⟨some k, s.tod, n, .streamState new (s.stream r).state⟩ ∈ u.raised) ∧
  (r = busRole → BusStreamEntered s u ∧
    ⟨none, s.tod, n, .streamState new (s.stream r).state⟩ ∈ u.raised)

/-- The end of an episode: the state becomes QUIET with its own fields absent (log entry 17), the outcome is
written and EF_RESULT is raised (R126). -/
abbrev episodeEnded (o : EarthOutcome) (feeder : Option Slot) (s : State) : State :=
  let e := s.efs.record
  let r : EarthResult := ⟨o, feeder, e.episodeTod, s.tod, e.votes, e.candidates⟩
  { s with
    efs := { s.efs with
      record := { e with
        state := .quiet, countdown := none, identified := none, phase := none, awaited := none }
      result := r }
    raised := s.raised ++ [⟨none, s.tod, none, .efResult r⟩] }

/-- `s` with EFS in state PERSISTENT and the outcome PERSISTENT written (R140, R145). -/
abbrev persisting (s : State) : State :=
  let t := episodeEnded .persistent none s
  t.setEfs { t.efs.record with state := .persistent }

/-- `s` with block reason HUNT taken from feeder `f`. -/
abbrev withoutHunt (f : Slot) (s : State) : State :=
  s.setSeq f { s.seq f with reasons := { (s.seq f).reasons with hunt := false } }

/-- `s` with no feeder under test (R136). -/
abbrev stepCleared (s : State) : State :=
  s.setHunt { s.efs.hunt with underTest := none, step := none, countdown := none, order := none }

/-- The sequencer of a feeder that EFS leaves open, EARTH added and its lockout demanded (R117, R147): an
acting one is in LOCKOUT, and in DEAD the addition itself has brought it there (R106). -/
abbrev earthLocked (acting : Bool) (q : SeqRecord) : SeqRecord :=
  let p := { q with reasons := { q.reasons with earth := true } }
  if acting = false ∨ q.state = .lockout then p
  else lockedOut (if q.state = .dead ∧ q.reasons.earth = false then .blocked else .earth) p

/-- Feeder `f` holds EARTH and its lockout has been demanded; nothing else differs but the notices. -/
abbrev LeftOpen (f : Slot) (s u : State) : Prop :=
  u = { s.setSeq f (earthLocked (s.acting f) (s.seq f)) with raised := u.raised } ∧
    s.raised <+: u.raised

end Sys2Proof.Machine
end

