-- ==== Sys2Proof/Certificates/Slice0/Obligations.lean ====
section
/-! DEFINITION. The statements for the provers. Where a clause rests on a choice of the model's own, the
docstring names its log entry. -/

open Sys2Proof Sys2Proof.Machine

/-! ## The step -/

/-- A step runs the command at the front of the queue on the rest of the state. -/
def Obligations.StepRunsFrontCommand : Prop :=
  ∀ (c : Instr) (rest : List Instr) (s : State), s.pending = c :: rest →
    step s = exec c { s with pending := rest }

/-- The block idles on an empty queue (log entry 2), every command completes from every state, and no
command touches the queue. -/
def Obligations.StepsAlwaysComplete : Prop :=
  (∀ s : State, s.pending = [] → step s = .next s) ∧
    ∀ (c : Instr) (s : State), ∃ t, exec c s = .next t ∧ t.pending = s.pending

/-- POWER_ON leaves every field at its power-on value (the reset of `due` and of the fields of an absent
trip record are log entries 4 and 12). -/
def Obligations.PowerOnTakesPowerOnValues : Prop :=
  ∀ (straps : RingAddr) (s : State), ∃ t, exec (.powerOn straps) s = .next t ∧
    t.pending = s.pending ∧ t.raised = [] ∧
    t.rpt = ⟨straps, [], [], .idle, 0, 0, 0, false⟩ ∧
    (∀ i : Fin 17, t.siu.staged[i] = 0 ∧ t.siu.active[i] = 0) ∧
    t.siu.activated = false ∧ t.siu.foreign = 0 ∧
    (∀ r : Role, t.stream r = ⟨0, .absent, 0, 0, 0, none, true, 0, 0, 0⟩) ∧
    (∀ r : Role, (t.pheStream r).window.stored = 0 ∧ (t.pheStream r).present = none ∧
      (t.pheStream r).results = [] ∧
      ∀ (ch : Fin 4) (k : Fin 32),
        (t.pheStream r).window.channels[ch][k] = ⟨0, false, false, false⟩) ∧
    (∀ f : Slot, t.element f =
      ⟨⟨false, false, false, 0⟩, ⟨false, false, false, 0⟩, ⟨false, false, false, 0⟩,
        ⟨false, false, false, 0⟩, ⟨false, false, false, 0⟩, false⟩) ∧
    (∀ f : Slot, (t.trip f).isPresent = false) ∧
    (∀ n : Fin 8, t.gst.curves[n].count = 0 ∧ ∀ i : Fin 16, t.gst.curves[n].points[i] = ⟨0, 0⟩) ∧
    (∀ (f : Slot) (g : GroupNo), t.group f g =
      let none : ElementSet := ⟨false, false, false, false, false⟩
      ⟨⟨0, 0⟩, ⟨0, 0, 0, 0, 0⟩, ⟨0, 0⟩, ⟨0, 0, 0, 0, 0⟩, ⟨0, 0⟩, 0, none, 0, none,
        .replicate 4 ⟨0, none⟩, 0, 0⟩) ∧
    (∀ f : Slot, t.feeder f = ⟨false, 0, .replicate 3 0, 50, 3⟩) ∧
    (∀ f : Slot, t.activeGroup f = none ∧ t.pendingGroup f = none) ∧
    (∀ f : Slot, t.switch f = ⟨none, none, .unknown, false, false, 0, .reachable, none, 0⟩) ∧
    (∀ f : Slot, t.order f =
      ⟨.idle, .open, .protection, ⟨false, false, false, false⟩, 0, 255, none, none⟩) ∧
    t.oru.echoMissing = false ∧
    (∀ f : Slot, t.seq f = ⟨.ready, 0, .none, none, none, none, .none,
      ⟨false, false, false, true, false, false, false, false⟩⟩) ∧
    (t.efs.settings.vNvd = 46339 ∧ t.efs.settings.confirmCycles = 50 ∧
      t.efs.settings.windowCycles = 25 ∧ t.efs.settings.voteThreshold = 13 ∧
      t.efs.settings.wSet = 100 ∧ t.efs.settings.observeCycles = 25 ∧
      t.efs.settings.settleCycles = 25 ∧
      ∀ m : Mode, t.earthMode m = ⟨false, .alarm, 600, 65535⟩) ∧
    t.efs.huntOrder = [] ∧
    t.efs.record = ⟨.quiet, none, none, .replicate 8 0, .replicate 8 none, .replicate 8 false, none, none,
      0, false, none, .replicate 8 none, 0, true, none⟩ ∧
    t.efs.result = ⟨.none, none, none, none, .replicate 8 0, .replicate 8 false⟩ ∧
    t.efs.hunt = ⟨[], 0, none, none, none, none, 0, .auto, .none⟩ ∧
    t.mdu.running = false ∧ t.mdu.day = 0 ∧ t.mdu.ms = 0 ∧ t.mdu.declarations = [] ∧
    t.mdu.busMode = .normal ∧ t.mdu.invalidTime = 0 ∧
    (∀ d : District, t.mdu.windows[d] = ⟨1, 0, .season⟩ ∧ t.mdu.overrides[d] = none ∧
      t.mdu.modes[d] = .season ∧ t.mdu.sources[d] = .unsetClock) ∧
    t.mgr = ⟨[], 0, .configuring, [], 0, 63, 0⟩

/-! ## Laws that every step keeps -/

/-- The state after reset keeps every law. -/
def Obligations.ResetKeepsEveryLaw : Prop :=
  BoundsKept State.reset ∧ RecordsCoherent State.reset ∧ ReasonsFollow State.reset ∧
    HuntCoherent State.reset ∧ ServiceCoherent State.reset ∧ MappedGroupsValid State.reset

/-- Queues, counters, accumulators, result lists, the clock and the declaration table stay in bounds. -/
def Obligations.BoundsAreKept : Prop :=
  ∀ s t : State, BoundsKept s → step s = .next t → BoundsKept t

/-- A timer of an order or sequencer runs in its own state alone (R87, R100). -/
def Obligations.RecordsStayCoherent : Prop :=
  ∀ s t : State, RecordsCoherent s → step s = .next t → RecordsCoherent t

/-- FIRE, TAG, LOCAL, STREAM and SWITCH follow their owners' state, and the position its sources. -/
def Obligations.ReasonsKeepFollowing : Prop :=
  ∀ s t : State, ReasonsFollow s → step s = .next t → ReasonsFollow t

/-- HUNT is held by the feeder under test alone, and only while HUNTING. -/
def Obligations.HuntStaysCoherent : Prop :=
  ∀ s t : State, HuntCoherent s → step s = .next t → HuntCoherent t

/-- Groups, sequencers, elements and EFS stay as the service state demands. -/
def Obligations.ServiceStaysCoherent : Prop :=
  ∀ s t : State, ServiceCoherent s → step s = .next t → ServiceCoherent t

/-- The law of R71: while IN SERVICE every mapped group of an in-service feeder is valid. -/
def Obligations.MappedGroupsStayValid : Prop :=
  ∀ s t : State, MappedGroupsValid s → step s = .next t → MappedGroupsValid t

/-! ## The ring port -/

/-- The three checks of R171, in order, for each of the five commands that bring a frame. -/
def Obligations.BadFramesAreDiscarded : Prop :=
  ∀ (f : RxFrame) (s : State) (i : Instr),
    i = .sample f ∨ i = .state f ∨ i = .time f ∨ i = .request f ∨ i = .frameReceived f →
    (BadLength f →
      Effect i s { s with rpt := { s.rpt with formatErrors := min 65535 (s.rpt.formatErrors + 1) } }) ∧
    (¬ BadLength f → ¬ CrcMatches f →
      Effect i s { s with rpt := { s.rpt with crcErrors := min 65535 (s.rpt.crcErrors + 1) } }) ∧
    (¬ BadLength f → CrcMatches f → BadSource f →
      Effect i s { s with rpt := { s.rpt with formatErrors := min 65535 (s.rpt.formatErrors + 1) } })

/-- R172 to R175, R182, R97: a well-formed frame. One that the FE-8 neither strips, consumes nor copies (an
ORDER, REPLY or NOTICE, a kind outside the seven, a TIME not addressed to 63, a REQUEST not for this node) is
forwarded alone. A REQUEST to this node joins the request FIFO, or is discarded and counted at a full one. A
frame that comes back to its source is removed; an ORDER's echo stops the echo watch of the SENT order it
names, and no other echo changes anything. -/
def Obligations.FramesAreForwardedConsumedOrStripped : Prop :=
  (∀ (f : RxFrame) (k : Nat) (s : State), Arrives k f s → k ≠ 1 → k ≠ 2 →
    (k = 3 → destinationOf f ≠ 63) →
    (k = 5 → ¬ (OnTheRing s ∧ destinationOf f = s.rpt.ownAddress)) →
    Effect (.frameReceived f) s (forwarded f s)) ∧
  (∀ (f : RxFrame) (s : State), Arrives 5 f s → OnTheRing s → destinationOf f = s.rpt.ownAddress →
    (s.mgr.fifo.length < 4 →
      Effect (.request f) s
        { s with mgr := { s.mgr with fifo := s.mgr.fifo ++ [⟨sourceOf f, payloadOf f⟩] } }) ∧
    (4 ≤ s.mgr.fifo.length →
      Effect (.request f) s
        { s with mgr := { s.mgr with overflow := min 65535 (s.mgr.overflow + 1) } })) ∧
  ∀ (f : RxFrame) (s : State), WellFormedFrame f → sourceOf f = s.rpt.ownAddress →
    (∀ k : Slot, kindOf f = 4 → nat8At (payloadOf f) 0 = k.val →
      (s.order k).state = .sent → (s.order k).echoWatch ≠ none →
      (s.order k).number = byteAt (payloadOf f) 2 →
      Effect (.frameReceived f) s (s.setOrder k { s.order k with echoWatch := none })) ∧
    ((∀ k : Slot, kindOf f = 4 → nat8At (payloadOf f) 0 = k.val →
        ¬ ((s.order k).state = .sent ∧ (s.order k).echoWatch ≠ none ∧
          (s.order k).number = byteAt (payloadOf f) 2)) →
      Effect (.frameReceived f) s s)

/-- At the end of a frame the REQUESTED order of the lowest slot starts first: it becomes SENT, its echo
watch and confirm timer start, and the position is derived anew (R177, R178, R95, R81). -/
def Obligations.OrdersStartFirst : Prop :=
  ∀ (s : State) (f : Slot), s.raised = [] → OnTheRing s → (s.order f).state = .requested →
    (∀ g : Slot, g < f → (s.order g).state ≠ .requested) →
    ∃ t, exec .frameEnd s = .next t ∧ BlocksSame s t ∧ t.mgr = s.mgr ∧ t.raised = [] ∧
      t.order f = { s.order f with
        state := .sent, echoWatch := some 5, confirm := some (10 * (s.feeder f).confirmLimit) } ∧
      t.switch f = { s.switch f with position := positionOf (s.switch f).reported (t.order f) } ∧
      (∀ g, g ≠ f → t.order g = s.order g ∧ t.switch g = s.switch g) ∧
      t.oru.echoMissing = s.oru.echoMissing ∧
      t.rpt = { s.rpt with out := .sending (withCrc [BitVec.ofNat 8 (s.switchAddress f).toNat,
        BitVec.ofNat 8 s.rpt.ownAddress.toNat, 4, 4, BitVec.ofNat 8 f.val,
        BitVec.ofNat 8 (s.order f).kind.code, (s.order f).number, 0]) }

/-- With no order to send, the OUT port serves the forward buffer, then the reply list, then the oldest
notice of the highest priority; a part with no ring address inserts nothing of its own (R177, R178, R190,
R170). -/
def Obligations.OutPortServesInTurn : Prop :=
  ∀ s : State, s.raised = [] → (OnTheRing s → ∀ f : Slot, (s.order f).state ≠ .requested) →
    (∀ b rest, s.rpt.forward = b :: rest →
      exec .frameEnd s = .next { s with rpt := { s.rpt with out := .sending b, forward := rest } }) ∧
    (s.rpt.forward = [] → ¬ OnTheRing s →
      exec .frameEnd s = .next { s with rpt := { s.rpt with out := .idle } }) ∧
    (∀ r rest, s.rpt.forward = [] → OnTheRing s → s.rpt.replies = r :: rest →
      exec .frameEnd s = .next { s with rpt := { s.rpt with
        replies := rest
        out := .sending (buildFrame r.destination s.rpt.ownAddress .reply r.payload) } }) ∧
    (∀ a n b, s.rpt.forward = [] → OnTheRing s → s.rpt.replies = [] → s.mgr.notices = a ++ n :: b →
      (∀ m ∈ a, m.body.priority < n.body.priority) → (∀ m ∈ b, m.body.priority ≤ n.body.priority) →
      exec .frameEnd s = .next { s with
        rpt := { s.rpt with out := .sending (buildFrame s.mgr.destination s.rpt.ownAddress
          .notice (n.payload s.mgr.sequence)) }
        mgr := { s.mgr with notices := a ++ b, sequence := s.mgr.sequence + 1 } }) ∧
    (s.rpt.forward = [] → OnTheRing s → s.rpt.replies = [] → s.mgr.notices = [] →
      exec .frameEnd s = .next { s with rpt := { s.rpt with out := .idle } })

/-- The end of every event: its notices join the queue, bus notices first and then by slot (R188), and
while the OUT port is SENDING nothing else happens; otherwise at most one frame starts (R177). A notice that
arrives at a full queue (R189). -/
def Obligations.EventsEndWithNotices : Prop :=
  (∀ s : State, BlocksSame s (finish s) ∧ (finish s).raised = [] ∧
    (finish s).mgr.fifo = s.mgr.fifo ∧ (finish s).mgr.device = s.mgr.device ∧
    (finish s).mgr.overflow = s.mgr.overflow ∧ (finish s).mgr.destination = s.mgr.destination ∧
    (finish s).rpt = { s.rpt with
      forward := (finish s).rpt.forward, replies := (finish s).rpt.replies, out := (finish s).rpt.out } ∧
    (∀ b, s.rpt.out = .sending b → (finish s).rpt = s.rpt ∧ (finish s).oru = s.oru ∧
      (finish s).mgr.sequence = s.mgr.sequence ∧
      (s.mgr.notices.length + s.raised.length ≤ 32 →
        (finish s).mgr.notices = s.mgr.notices ++ s.raised.filter (fun n => n.slot == none) ++
          (allSlots.map fun f => s.raised.filter fun n => n.slot == some f).flatten ∧
        (finish s).mgr.dropped = s.mgr.dropped))) ∧
  ∀ (m : Mgr) (n : Notice), m.notices.length = 32 →
    (∀ a y b, m.notices = a ++ y :: b → y.body.priority < n.body.priority →
      (∀ x ∈ m.notices, y.body.priority ≤ x.body.priority) →
      (∀ x ∈ b, x.body.priority ≠ y.body.priority) →
      joinQueue m n = { m with
        notices := a ++ b ++ [n], dropped := min 65535 (m.dropped + 1) }) ∧
    ((∀ x ∈ m.notices, n.body.priority ≤ x.body.priority) →
      joinQueue m n = { m with dropped := min 65535 (m.dropped + 1) })

/-! ## Streams -/

/-- R9: a duplicate or late sample, in LOCKED, PATCHED or FILLING. -/
def Obligations.RepeatedSamplesAreDiscarded : Prop :=
  ∀ (f : RxFrame) (r : Role) (x : Sample) (s : State), SampleArrives f r x s →
    Delivering r s ∨ (s.stream r).state = .filling →
    distanceOf r x s = 0 ∨ 65532 ≤ distanceOf r x s →
    Effect (.sample f) s (forwarded f (s.setStream r
      { s.stream r with duplicates := min 65535 ((s.stream r).duplicates + 1) }))

/-- R7, R14, R22, R27, R30: a next sample in LOCKED or PATCHED is accepted and handed on. -/
def Obligations.NextSamplesAreAccepted : Prop :=
  ∀ (f : RxFrame) (r : Role) (x : Sample) (s : State), SampleArrives f r x s → Delivering r s →
    distanceOf r x s = 1 →
    let st : StreamState :=
      if (s.stream r).state = .patched ∧ 1 < (s.stream r).patch then .patched else .locked
    let q := { s.stream r with
      lastSample := x.number
      supervision := some 20
      state := st
      patch := if (s.stream r).state = .patched then (s.stream r).patch - 1 else (s.stream r).patch }
    ∃ u, Effect (.sample f) s (forwarded f u) ∧ HandedOn r x false st (s.setStream r q) u ∧
      u.stream r = q ∧ PhasorsUpdated r x false st (s.pheStream r) (u.pheStream r) ∧ StreamOnly r s u ∧
      (s.mgr.device = .configuring →
        u.elu = s.elu ∧ u.gst = s.gst ∧ u.oru = s.oru ∧ u.rcs = s.rcs ∧ u.efs = s.efs ∧
          u.due = s.due ∧ u.raised = s.raised)

/-- R8: a gap of 1, 2 or 3 samples in LOCKED or PATCHED. A filled sample for each missing number, in ascending
order, and then the frame's own are handed on. The slots of the missing numbers repeat the window's slots of
the last accepted number (log entry 24). -/
def Obligations.GapsAreBridged : Prop :=
  ∀ (f : RxFrame) (r : Role) (x : Sample) (s : State), SampleArrives f r x s → Delivering r s →
    2 ≤ distanceOf r x s → distanceOf r x s ≤ 4 →
    let q := { s.stream r with gaps := min 65535 ((s.stream r).gaps + 1), state := .patched }
    let missing := fun (i : Nat) => { (s.pheStream r).window.sampleAt (s.stream r).lastSample with
      number := (s.stream r).lastSample + BitVec.ofNat 16 (i + 1) }
    ∃ (v : Nat → State) (u : State), Effect (.sample f) s (forwarded f u) ∧ StreamOnly r s u ∧
      v 0 = s.setStream r { q with patch := 32 } ∧
      (∀ i : Nat, i + 1 < distanceOf r x s → HandedOn r (missing i) true .patched (v i) (v (i + 1))) ∧
      HandedOn r x false .patched ((v (distanceOf r x s - 1)).setStream r
        { q with patch := 31, lastSample := x.number, supervision := some 20 }) u ∧
      u.stream r = { s.stream r with
        gaps := min 65535 ((s.stream r).gaps + 1)
        state := .patched
        patch := 31
        lastSample := x.number
        supervision := some 20 } ∧
      (∀ ch : Fin 4, (u.pheStream r).window.channels[ch][coeffIndex x.number] =
        ⟨x.values[ch], x.overs[ch], false, true⟩) ∧
      (∀ (i : Nat) (ch : Fin 4), i + 1 < distanceOf r x s →
        (u.pheStream r).window.channels[ch][
            coeffIndex ((s.stream r).lastSample + BitVec.ofNat 16 (i + 1))] =
          { (s.pheStream r).window.channels[ch][coeffIndex (s.stream r).lastSample] with
            filled := true, occupied := true }) ∧
      (∀ (ch : Fin 4) (k : Fin 32), k ≠ coeffIndex x.number →
        (∀ i : Nat, i + 1 < distanceOf r x s →
          k ≠ coeffIndex ((s.stream r).lastSample + BitVec.ofNat 16 (i + 1))) →
        (u.pheStream r).window.channels[ch][k] = (s.pheStream r).window.channels[ch][k])

/-- R11, with the steps of R10: a break in LOCKED or PATCHED. -/
def Obligations.BreaksRestartStreams : Prop :=
  ∀ (f : RxFrame) (r : Role) (x : Sample) (s : State), SampleArrives f r x s → Delivering r s →
    5 ≤ distanceOf r x s → distanceOf r x s ≤ 65531 →
    ∃ u, Effect (.sample f) s (forwarded f u) ∧ StreamOnly r s u ∧
      u.stream r = { s.stream r with
        resyncs := min 65535 ((s.stream r).resyncs + 1)
        state := .filling
        consecutive := 1
        lastSample := x.number
        supervision := some 20
        patch := 0 } ∧
      (u.pheStream r).present = none ∧ (u.pheStream r).results = [] ∧
      OnlySample x (u.pheStream r).window ∧ StreamStopped r (some x.number) .filling s u

/-- R12, R13: a next sample in FILLING is counted, and the 32nd takes the stream to LOCKED and is the first
handed on. -/
def Obligations.FillingLeadsToLocked : Prop :=
  ∀ (f : RxFrame) (r : Role) (x : Sample) (s : State), SampleArrives f r x s →
    (s.stream r).state = .filling → distanceOf r x s = 1 →
    ((s.stream r).consecutive + 1 < 32 → ∃ w, SlotsReplaced x false (s.pheStream r).window w ∧
      Effect (.sample f) s (forwarded f ((s.setStream r { s.stream r with
        lastSample := x.number
        supervision := some 20
        consecutive := (s.stream r).consecutive + 1 }).setPheStream r
          { s.pheStream r with window := w }))) ∧
    (32 ≤ (s.stream r).consecutive + 1 →
      let q := { s.stream r with
        lastSample := x.number, supervision := some 20, state := .locked, consecutive := 0 }
      let notice := fun (k : Option Slot) =>
        (⟨k, s.tod, some x.number, .streamState .locked .filling⟩ : Notice)
      ∃ u, Effect (.sample f) s (forwarded f u) ∧ u.stream r = q ∧
        PhasorsUpdated r x false .locked (s.pheStream r) (u.pheStream r) ∧ StreamOnly r s u ∧
        (∀ k : Slot, r = k.role → u.holds k .stream = false ∧ notice (some k) ∈ u.raised ∧
          HandedOn r x false .locked { (s.setStream r q).setSeq k { s.seq k with
            reasons := { (s.seq k).reasons with stream := false } } with
              raised := s.raised ++ [notice (some k)] } u) ∧
        (r = busRole → notice none ∈ u.raised ∧
          HandedOn r x false .locked { s.setStream r q with raised := s.raised ++ [notice none] } u))

/-- R10, R12, R15, R4: the first sample after ABSENT or LOST, and a gap or break in FILLING, start the
window afresh; a group still pending is applied at once (R75), and for the bus a hunt aborts (R142, R148). A
sample of no stream is counted alone. -/
def Obligations.StreamsStartAfresh : Prop :=
  (∀ (f : RxFrame) (r : Role) (x : Sample) (s : State) (n : Nat), SampleArrives f r x s →
    (((s.stream r).state = .absent ∨ (s.stream r).state = .lost) ∧ n = (s.stream r).resyncs) ∨
      ((s.stream r).state = .filling ∧ 2 ≤ distanceOf r x s ∧ distanceOf r x s ≤ 65531 ∧
        n = min 65535 ((s.stream r).resyncs + 1)) →
    let q := { s.stream r with
      state := .filling
      consecutive := 1
      lastSample := x.number
      supervision := some 20
      patch := 0
      resyncs := n }
    ∃ w, OnlySample x w ∧
      let t := (s.setStream r q).setPheStream r ⟨w, none, []⟩
      let entered := fun (u : State) => Effect (.sample f) s (forwarded f u) ∧ StreamOnly r s u ∧
        u.stream r = q ∧ u.pheStream r = ⟨w, none, []⟩
      (∀ k : Slot, r = k.role →
        (s.pendingGroup k = none → Effect (.sample f) s (forwarded f t)) ∧
        ∀ g, s.pendingGroup k = some g →
          ∃ u, entered u ∧ u.activeGroup k = some g ∧ u.pendingGroup k = none) ∧
      (r = busRole →
        (¬ HuntUnderWay s → Effect (.sample f) s (forwarded f t)) ∧
        (HuntUnderWay s → ∃ u, entered u ∧ HuntAborted .busStream s u))) ∧
  ∀ (f : RxFrame) (s : State), Arrives 1 f s → (∀ r : Role, s.samplingAddress r ≠ sourceOf f) →
    Effect (.sample f) s
      (forwarded f { s with siu := { s.siu with foreign := min 65535 (s.siu.foreign + 1) } })

/-- R15: the supervision timer of a stream expires. Before it has, the row changes nothing (log entry
5). -/
def Obligations.SilenceLosesStreams : Prop :=
  ∀ (r : Role) (s : State),
    ((s.stream r).supervision = some 0 → ∃ u, Effect (.supervisionTimerExpiry r) s u ∧
      u.stream r = { s.stream r with
        state := .lost, supervision := none, consecutive := 0, patch := 0, notDropped := false } ∧
      StreamOnly r s u ∧ u.pheStream r = s.pheStream r ∧ StreamStopped r none .lost s u) ∧
    ((s.stream r).supervision ≠ some 0 → exec (.supervisionTimerExpiry r) s = .next s)

/-! ## Phasors -/

/-- R23 to R26, R32: a magnitude is the exact integer square root; a component is the rounded and clamped sum
over the 32 slots; a constant input gives 0; an overranged channel's magnitude is 46339; W is the floored and
clamped product of the IN and VN phasors of a pair. -/
def Obligations.PhasorsAreRoundedSums : Prop :=
  (∀ p : Phasor, -32767 ≤ p.re → p.re ≤ 32767 → -32767 ≤ p.im → p.im ≤ 32767 →
    (p.magnitude : Int) * p.magnitude ≤ p.re * p.re + p.im * p.im ∧
      p.re * p.re + p.im * p.im < ((p.magnitude : Int) + 1) * (p.magnitude + 1) ∧
      p.magnitude ≤ 46339) ∧
  (∀ (a b : CycleResult), let i := a.channels[3].phasor; let v := b.channels[3].phasor
    residualPower a b = max (-65535) (min 65535 ((i.re * v.re + i.im * v.im) / 32768)) ∧
    (-32767 ≤ i.re → i.re ≤ 32767 → -32767 ≤ i.im → i.im ≤ 32767 →
      -32767 ≤ v.re → v.re ≤ 32767 → -32767 ≤ v.im → v.im ≤ 32767 →
      -65533 ≤ residualPower a b ∧ residualPower a b ≤ 65532)) ∧
  ∀ w : Vector WindowSlot 32,
    let sum := fun (c : Nat → Int) =>
      ((List.finRange 32).map fun k => (w[k].value.toInt * c k.val : Int)).sum
    let part := fun (x : Int) => max (-32767) (min 32767 ((x + 131072) / 262144))
    fundamental w = ⟨part (sum cosAt), part (sum sinAt)⟩ ∧
    secondHarmonic w =
      ⟨part (sum fun k => cosAt (2 * k % 32)), part (sum fun k => sinAt (2 * k % 32))⟩ ∧
    (∀ d, (∀ k : Fin 32, w[k].value = d) → fundamental w = ⟨0, 0⟩ ∧ secondHarmonic w = ⟨0, 0⟩) ∧
    ((∃ k : Fin 32, w[k].overrange = true) →
      channelResult w = ⟨fundamental w, 46339, true⟩) ∧
    ((∀ k : Fin 32, w[k].overrange = false) →
      channelResult w = ⟨fundamental w, (fundamental w).magnitude, false⟩)

/-! ## Elements and groups -/

/-- R39 to R43: one evaluation of a definite-time element. -/
def Obligations.DefiniteTimeElementsCount : Prop :=
  ∀ (c : DefiniteSetting) (i : Nat) (e : DefiniteState),
    (c.threshold = 0 → evalDefinite c i e = ⟨false, false, false, 0⟩) ∧
    (c.threshold ≠ 0 → 20 * i < 19 * c.threshold → evalDefinite c i e = ⟨false, false, false, 0⟩) ∧
    (c.threshold ≠ 0 → i < c.threshold → 19 * c.threshold ≤ 20 * i → e.pickup = false →
      evalDefinite c i e = ⟨false, false, false, 0⟩) ∧
    (c.threshold ≠ 0 → c.threshold ≤ i → e.pickup = false →
      evalDefinite c i e = ⟨true, decide (c.delay = 0), e.acted, 0⟩) ∧
    (c.threshold ≠ 0 → 19 * c.threshold ≤ 20 * i → e.pickup = true → e.operated = true →
      evalDefinite c i e = e) ∧
    (c.threshold ≠ 0 → 19 * c.threshold ≤ 20 * i → e.pickup = true → e.operated = false →
      evalDefinite c i e = ⟨true, decide (c.delay ≤ e.count + 1), e.acted, e.count + 1⟩)

/-- R39, R45 to R49: one evaluation of an inverse-time element, and the rate between two points of its
curve. -/
def Obligations.InverseTimeElementsIntegrate : Prop :=
  (∀ (cs : Vector Curve 8) (c : InverseSetting) (x : Bool) (i : Nat) (e : InverseState),
    let after := if c.resetMode = 0 then 0 else e.acc - c.resetRate
    (c.pickup = 0 → evalInverse cs c x i e = ⟨false, false, false, 0⟩) ∧
    (c.pickup ≠ 0 → 20 * i < 19 * c.pickup → evalInverse cs c x i e = ⟨false, false, false, after⟩) ∧
    (c.pickup ≠ 0 → 19 * c.pickup ≤ 20 * i → x = true → evalInverse cs c x i e = e) ∧
    (c.pickup ≠ 0 → 19 * c.pickup ≤ 20 * i → x = false → i < c.pickup →
      evalInverse cs c x i e = if e.pickup then e else { e with acc := after }) ∧
    (c.pickup ≠ 0 → x = false → c.pickup ≤ i → ∀ (n : Fin 8), c.curve = n.val →
      let rate := min 1048576 (max 1
        (rateAt (min 640 (16 * i / c.pickup)) cs[n].used * 32 / c.dial))
      evalInverse cs c x i e =
        { e with
          pickup := true
          acc := min 1048576 (e.acc + rate)
          operated := e.operated || decide (1048576 ≤ e.acc + rate) })) ∧
  ∀ (k : Curve) (a b : List CurvePoint) (p q : CurvePoint) (m : Nat), k.valid = true →
    k.used = a ++ p :: q :: b →
    (p.m ≤ m → m ≤ q.m →
      rateAt m k.used = p.rate + (m - p.m) * (q.rate - p.rate) / (q.m - p.m)) ∧
    (a = [] → m ≤ p.m → rateAt m k.used = p.rate) ∧
    (b = [] → q.m ≤ m → rateAt m k.used = q.rate)

/-- R38, R39, R50, R74: one evaluation of a feeder's elements. At a cycle completion a pending group is applied
first, the elements it turns on begin from the cleared state, and the restraint is found; the high-sets are
evaluated at every hand-over, the rest at cycle completions; the trip decision ends it. A feeder that does not
act takes no hand-over. The model's choices: an off element of the rest is cleared at a cycle completion alone
(log entry 28); an acting feeder without an active group has no element evaluated (log entry 23). -/
def Obligations.EvaluationsRunTheElements : Prop :=
  ∀ (f : Slot) (h : HandOver) (s : State),
    let phases := max h.present[0].magnitude (max h.present[1].magnitude h.present[2].magnitude)
    let residual := h.present[3].magnitude
    let t := match h.result with
      | none => s
      | some _ => applyPending h.sampleNo f s
    (s.acting f = false → evaluate f h s = s) ∧
    (s.acting f = true → t.activeGroup f = none → evaluate f h s = t) ∧
    ∀ g, s.acting f = true → t.activeGroup f = some g →
      let gr := t.group f g
      ∃ e x : ElementState, evaluate f h s = decideFeederTrip f g gr h (t.setElement f x) ∧
        (h.result = none ∨ s.activeGroup f = none → e = t.element f) ∧
        (∀ r a, h.result = some r → s.activeGroup f = some a →
          BegunCleared (s.group f a) gr (t.element f) e) ∧
        x.phHs = evalDefinite gr.phHs phases e.phHs ∧ x.efHs = evalDefinite gr.efHs residual e.efHs ∧
        (h.result = none →
          x.phIt = e.phIt ∧ x.efIt = e.efIt ∧ x.sef = e.sef ∧ x.restraint = e.restraint) ∧
        ∀ r, h.result = some r →
          x.phIt = evalInverse t.gst.curves gr.phIt x.restraint phases e.phIt ∧
          x.efIt = evalInverse t.gst.curves gr.efIt x.restraint residual e.efIt ∧
          x.sef = evalDefinite gr.sef residual e.sef ∧
          (x.restraint = true ↔ gr.inrush ≠ 0 ∧ ∃ i2, r.second = some i2 ∧ ∃ i : Fin 3,
            64 ≤ r.channels[i.castSucc].magnitude ∧
            gr.inrush * r.channels[i.castSucc].magnitude ≤ 100 * i2[i].magnitude)

/-- R56 to R59: the trip decision of a feeder. The tripping set is the operated and live elements that
have not acted; a trip sets their acted flags, writes the record, raises TRIP, asks the OPEN unless the switch
is open, and tells RCS and EFS, where a hunt aborts (R142). The reclose-initiating mark is judged so in a trip
marked already open too (log entry 29). -/
def Obligations.OperatedLiveElementsTrip : Prop :=
  ∀ (f : Slot) (g : GroupNo) (gr : GroupRecord) (h : HandOver) (s : State),
    let e := s.element f
    let q := s.seq f
    let t := (e.operatedSet.inter (liveSet gr q.state q.shot)).diff e.actedSet
    let initiating := (t.inter gr.initiate).nonempty
    let isOpen := decide ((s.switch f).position = .opened)
    let u := decideFeederTrip f g gr h s
    (t = ElementSet.empty → u = s) ∧
    (t ≠ ElementSet.empty → ∃ (r : TripRecord) (a : State),
      r = ⟨true, t, e.operatedSet, initiating, isOpen, r.magnitudes, r.overranges, e.restraint, h.sampleNo,
        h.filled, g, q.state, q.shot, s.tod⟩ ∧
      (∀ ch : Fin 4, r.magnitudes[ch] = h.present[ch].magnitude ∧
        r.overranges[ch] = h.present[ch].overrange) ∧
      a = { (s.setElement f { e with
          phHs := { e.phHs with acted := e.phHs.acted || t.phHs }
          phIt := { e.phIt with acted := e.phIt.acted || t.phIt }
          efHs := { e.efHs with acted := e.efHs.acted || t.efHs }
          efIt := { e.efIt with acted := e.efIt.acted || t.efIt }
          sef := { e.sef with acted := e.sef.acted || t.sef } }).setTrip f r with
        raised := s.raised ++
          [⟨some f, s.tod, some h.sampleNo, .trip t g q.state q.shot initiating isOpen⟩] } ∧
      ((s.switch f).position = .opened → u = a) ∧
      ((s.switch f).position ≠ .opened →
        let b := tripReport initiating f (ask .open .protection f a).2
        (HuntUnderWay b → HuntAborted .protection b u) ∧ (¬ HuntUnderWay b → u = b) ∧
        u.elu = a.elu ∧ a.raised <+: u.raised ∧
        (s.efs.record.state ≠ .hunting →
          OnlyFeeder f a u ∧ u.efs = s.efs ∧
          (s.switchAddress f ≠ 0 → (s.order f).state = .idle ∨ (s.order f).kind = .close →
            u.order f = requested .open .protection (fresh s f)) ∧
          (s.switchAddress f ≠ 0 → (s.order f).state ≠ .idle → (s.order f).kind = .open →
            u.order f = { s.order f with
              joined := if (s.order f).origin = .protection then (s.order f).joined
                else { (s.order f).joined with protection := true } }) ∧
          (s.switchAddress f = 0 →
            u.order f = s.order f ∧ u.switch f = s.switch f ∧
            ⟨some f, s.tod, none, .orderFail .open .protection ⟨false, false, false, false⟩ none
              (s.switch f).failCount (s.switch f).health⟩ ∈ u.raised ∧
            (s.acting f = true → q.state = .ready ∨ q.state = .reclaim ∨ q.state = .closing →
              (s.order f).state = .idle → u.seq f = lockedOut .order q)))))

/-- R73, R75: MDU asks GST for a group. -/
def Obligations.GroupRequestsActivateOrPend : Prop :=
  ∀ (g : GroupNo) (f : Slot) (s : State),
    (s.activeGroup f = none → requestGroup g f s = s) ∧
    (∀ a, s.activeGroup f = some a →
      (g = a → s.pendingGroup f = none → requestGroup g f s = s) ∧
      (g = a → s.pendingGroup f ≠ none → requestGroup g f s =
        { s.setGroups f (some a) none with
          raised := s.raised ++ [⟨some f, s.tod, none, .groupDeferred a none (s.feederMode f)⟩] }) ∧
      (g ≠ a → s.pendingGroup f = some g → requestGroup g f s = s) ∧
      (g ≠ a → s.pendingGroup f ≠ some g → Delivering f.role s → requestGroup g f s =
        { s.setGroups f (some a) (some g) with
          raised := s.raised ++
            [⟨some f, s.tod, none, .groupDeferred a (some g) (s.feederMode f)⟩] }) ∧
      (g ≠ a → s.pendingGroup f ≠ some g → ¬ Delivering f.role s →
        ∃ u, u = requestGroup g f s ∧ u.activeGroup f = some g ∧ u.pendingGroup f = none ∧
          (s.raised ++ [⟨some f, s.tod, none, .groupChange (some a) g .atOnce none⟩]) <+: u.raised ∧
          ((s.seq f).state ≠ .dead → u.rcs = s.rcs) ∧
          (s.acting f = true → (s.seq f).state = .dead → (s.seq f).shot ≤ (s.group f g).maxShots →
            u.rcs = s.rcs) ∧
          (s.acting f = true → (s.seq f).state = .dead → (s.group f g).maxShots < (s.seq f).shot →
            u.seq f = lockedOut .shots (s.seq f)))) ∧
    ∀ (n : SampleNo), s.pendingGroup f = some g →
      (applyPending n f s).activeGroup f = some g ∧ (applyPending n f s).pendingGroup f = none ∧
      ⟨some f, s.tod, some n, .groupChange (s.activeGroup f) g .atCompletion (some n)⟩ ∈
        (applyPending n f s).raised

/-! ## Orders and switches -/

/-- R88, R90 to R93: what ORU answers to a request, and what it leaves. That an OPERATOR's OPEN without a switch
unit raises ORDER_FAIL too is log entry 39. -/
def Obligations.OrderRequestsAreJudged : Prop :=
  ∀ (k : OrderKind) (who : Origin) (f : Slot) (s : State),
    let a := askOrder k who f s
    let early := who = .operator ∧ s.mgr.device = .configuring
    let passes := ¬ early ∧ s.switchAddress f ≠ 0 ∧
      (who = .operator → s.holds f .tag = false ∧ s.holds f .local = false)
    (early → a.answer = .refused .state ∧ a.state = s) ∧
    (¬ early → s.switchAddress f = 0 → a.answer = .refused .noSwitch ∧
      (k = .close → a.state = s) ∧
      (k = .open → ⟨f, .open, who, none, ⟨false, false, false, false⟩, .failed⟩ ∈ a.reports ∧
        a.state = { s with raised := s.raised ++ [⟨some f, s.tod, none,
          .orderFail .open who ⟨false, false, false, false⟩ none (s.switch f).failCount
            (s.switch f).health⟩] })) ∧
    (¬ early → s.switchAddress f ≠ 0 → who = .operator → s.holds f .tag = true →
      a.answer = .refused .tag ∧ a.state = s) ∧
    (¬ early → s.switchAddress f ≠ 0 → who = .operator → s.holds f .tag = false →
      s.holds f .local = true → a.answer = .refused .local ∧ a.state = s) ∧
    (passes → k = .open → (s.order f).state = .idle →
      a.answer = .taken (fresh s f) ∧ a.state = withRequest .open who f s) ∧
    (passes → k = .open → (s.order f).state ≠ .idle → (s.order f).kind = .close →
      a.answer = .taken (fresh s f) ∧ a.state = withRequest .open who f s ∧
      ⟨f, .close, (s.order f).origin, some (s.order f).number, (s.order f).joined, .superseded⟩ ∈
        a.reports) ∧
    (passes → k = .open → (s.order f).state ≠ .idle → (s.order f).kind = .open →
      a.answer = .merged (s.order f).number ∧
      a.state = s.setOrder f { s.order f with
        joined := if who = (s.order f).origin then (s.order f).joined
          else (s.order f).joined.add who }) ∧
    (passes → k = .close → (s.order f).state ≠ .idle →
      a.answer = .refused .busy ∧ a.state = s) ∧
    (passes → k = .close → (s.order f).state = .idle → who = .reclose ∨ who = .earth →
      s.holds f .fire = true → a.answer = .refused .fire ∧ a.state = s) ∧
    (passes → k = .close → (s.order f).state = .idle →
      (who = .reclose ∨ who = .earth → s.holds f .fire = false) →
      a.answer = .taken (fresh s f) ∧ a.state = withRequest .close who f s) ∧
    fresh s f ≠ (s.switch f).lastExecuted

/-- R80 to R84, R95: a STATE frame brings the switch record and the reasons up to date, and confirms the SENT
order whose number and target position it carries; the confirmation goes to RCS and EFS, and a changed settled
position to RCS. That the confirmation reaches RCS before EFS, and both only after steps 5 and 6 of R80, is the
model's inference (log entry 9). A frame of no switch unit, or with another position, changes nothing. -/
def Obligations.StateFramesUpdateSwitches : Prop :=
  (∀ (f : RxFrame) (k : Slot) (p : StateReport) (s : State), StateArrives f k p s →
    let confirmed := (s.order k).state = .sent ∧ p.executed = (s.order k).number ∧
      ((s.order k).kind = .open ∧ p.reported = .opened ∨
        (s.order k).kind = .close ∧ p.reported = .closed)
    ∃ u, Effect (.state f) s (forwarded f u) ∧
      (u.switch k).reported = some p.reported ∧ (u.switch k).tag = p.tag ∧
      (u.switch k).loc = p.loc ∧ (u.switch k).lastExecuted = p.executed ∧
      (u.switch k).supervision = some 1000 ∧
      (p.reported = .opened → (u.switch k).settled = some .opened) ∧
      (p.reported = .closed → (u.switch k).settled = some .closed) ∧
      (p.reported = .between → (u.switch k).settled = (s.switch k).settled) ∧
      (u.switch k).position = positionOf (some p.reported) (u.order k) ∧
      ((s.switch k).health = .unreachable →
        (u.switch k).health = .reachable ∧ u.holds k .switch = false) ∧
      ((s.switch k).health ≠ .unreachable → (u.switch k).health = (s.switch k).health) ∧
      u.holds k .tag = p.tag ∧ u.holds k .local = p.loc ∧
      (confirmed → (u.switch k).failCount = 0) ∧
      (¬ confirmed → (u.switch k).failCount = (s.switch k).failCount ∧ u.order k = s.order k ∧
        OnlyFeeder k s u ∧ u.efs = s.efs) ∧
      (confirmed → EfsAwaitsNot k s → u.order k = idle (s.order k) ∧ OnlyFeeder k s u) ∧
      let reasons := { (s.seq k).reasons with
        tag := p.tag
        loc := p.loc
        switch := if (s.switch k).health = .unreachable then false else (s.seq k).reasons.switch }
      ∃ v, OnlyFeeder k s v ∧ v.efs = s.efs ∧ s.raised <+: v.raised ∧
        (confirmed → v.order k = idle (s.order k) ∧ (v.switch k).failCount = 0) ∧
        (¬ confirmed → v.order k = s.order k ∧ (v.switch k).failCount = (s.switch k).failCount) ∧
        v.switch k = ⟨some p.reported,
          match p.reported with
            | .opened => some .opened
            | .closed => some .closed
            | .between => (s.switch k).settled,
          positionOf (some p.reported) (v.order k), p.tag, p.loc, p.executed,
          if (s.switch k).health = .unreachable then .reachable else (s.switch k).health,
          some 1000, (v.switch k).failCount⟩ ∧
        v.seq k =
          (if s.acting k = true ∧ (s.seq k).state = .dead ∧
              (p.tag = true ∧ s.holds k .tag = false ∨ p.loc = true ∧ s.holds k .local = false) then
            lockedOut .blocked { s.seq k with reasons := reasons }
          else { s.seq k with reasons := reasons }) ∧
        (confirmed →
          let c : OrderReport := ⟨k, (s.order k).kind, (s.order k).origin, some (s.order k).number,
            (s.order k).joined, .confirmed⟩
          u = efsReport c (rcsReport c v) ∧ (EfsAwaitsNot k s → u.seq k = (rcsReport c v).seq k)) ∧
        (¬ confirmed → u = match p.reported, (s.switch k).settled with
          | .opened, none => rcsPosition .initialOpen k v
          | .closed, none => rcsPosition .initialClosed k v
          | .opened, some .closed => rcsPosition .unsolicitedOpen k v
          | .closed, some .opened => rcsPosition .unsolicitedClose k v
          | _, _ => v)) ∧
  ∀ (f : RxFrame) (s : State), Arrives 2 f s →
    (∀ k : Slot, s.switchAddress k ≠ sourceOf f) ∨ 2 < nat8At (payloadOf f) 0 →
    Effect (.state f) s (forwarded f s)

/-- R96, R85, R86: the confirm timer of a SENT order expires. R97: its echo watch expires. Before they have,
the rows change nothing (log entry 5); that an expired echo watch is stopped is log entry 37. -/
def Obligations.SentOrdersExpire : Prop :=
  (∀ (f : Slot) (s : State),
    ((s.order f).state = .sent → (s.order f).confirm = some 0 →
      let n := min 8 ((s.switch f).failCount + 1)
      let failed := (s.feeder f).failLimit ≤ n
      ∃ u, Effect (.confirmTimerExpiry f) s u ∧
        (u.switch f).failCount = n ∧ (u.switch f).reported = (s.switch f).reported ∧
        (u.switch f).position = positionOf (s.switch f).reported (u.order f) ∧
        (failed → (u.switch f).health = .failed ∧ u.holds f .switch = true) ∧
        (¬ failed → (u.switch f).health = (s.switch f).health ∧
          u.holds f .switch = s.holds f .switch) ∧
        ⟨some f, s.tod, none, .orderFail (s.order f).kind (s.order f).origin (s.order f).joined
          (some (s.order f).number) n (u.switch f).health⟩ ∈ u.raised ∧
        (EfsAwaitsNot f s → u.order f = idle (s.order f) ∧ OnlyFeeder f s u) ∧
        (EfsAwaitsNot f s → s.acting f = true → (s.seq f).awaited = some (s.order f).number →
          (s.seq f).state = .opening ∧ (s.order f).kind = .open ∨
            (s.seq f).state = .closing ∧ (s.order f).kind = .close →
          u.seq f = lockedOut .order { s.seq f with reasons := (u.seq f).reasons })) ∧
    (¬ ((s.order f).state = .sent ∧ (s.order f).confirm = some 0) →
      exec (.confirmTimerExpiry f) s = .next s)) ∧
  ∀ (f : Slot) (s : State),
    ((s.order f).state = .sent → (s.order f).echoWatch = some 0 →
      Effect (.echoWatchExpiry f) s { s with
        oru := { s.oru with
          orders := upd s.oru.orders f { s.order f with echoWatch := none }
          echoMissing := true }
        raised := s.raised ++
          [⟨some f, s.tod, none, .ringEcho (s.order f).kind (s.order f).number⟩] }) ∧
    (¬ ((s.order f).state = .sent ∧ (s.order f).echoWatch = some 0) →
      exec (.echoWatchExpiry f) s = .next s)

/-- R84, R85, R86: the health of a switch unit at STATE_SUPERVISION_EXPIRY and at RESET SWITCH. -/
def Obligations.SwitchHealthIsWatched : Prop :=
  (∀ (f : Slot) (s : State),
    ((s.switch f).supervision = some 0 → ∃ u, Effect (.stateSupervisionExpiry f) s u ∧
      ((s.switch f).health = .reachable →
        u.switch f = { s.switch f with supervision := none, health := .unreachable } ∧
        u.holds f .switch = true) ∧
      ((s.switch f).health ≠ .reachable →
        u = s.setSwitch f { s.switch f with supervision := none }) ∧
      OnlyFeeder f s u ∧ u.order f = s.order f ∧ u.efs = s.efs) ∧
    ((s.switch f).supervision ≠ some 0 → exec (.stateSupervisionExpiry f) s = .next s)) ∧
  ∀ (q : Request) (rest : List Request) (f : Slot) (s : State), AtHead 9 1 q rest s →
    nat8At q.payload 2 = f.val →
    ∃ v h, Replies .resetSwitch s q .ok [BitVec.ofNat 8 h, 0] v ∧
      h = (v.switch f).health.code ∧
      v.switch f = { s.switch f with
        failCount := 0
        health :=
          if (s.switch f).health = .failed then
            if (s.switch f).supervision = none then .unreachable else .reachable
          else (s.switch f).health } ∧
      ((s.switch f).health = .failed →
        v.holds f .switch = decide ((s.switch f).supervision = none)) ∧
      ((s.switch f).health ≠ .failed → v.seq f = s.seq f) ∧
      OnlyFeeder f (begun rest s) v ∧ v.order f = s.order f ∧ v.efs = s.efs

/-! ## Sequencers -/

/-- R107, R108, R101: a trip report, by the sequencer's state. -/
def Obligations.TripReportsAreJudged : Prop :=
  ∀ (i : Bool) (f : Slot) (s : State),
    let q := s.seq f
    let inFlight := (s.order f).state ≠ .idle ∧ (s.order f).kind = .open
    (s.acting f = false → tripReport i f s = s) ∧
    (s.acting f = true → q.state = .ready ∨ q.state = .reclaim ∨ q.state = .closing →
      (¬ inFlight → tripReport i f s = withLockout .order f s) ∧
      (inFlight → i = false → tripReport i f s = s.setSeq f { q with
        state := .opening, endCause := .notInitiating, awaited := some (s.order f).number
        reclaim := none }) ∧
      (inFlight → i = true → maxShots s f < q.shot + 1 → tripReport i f s = s.setSeq f { q with
        state := .opening, endCause := .shots, awaited := some (s.order f).number
        reclaim := none }) ∧
      (inFlight → i = true → q.shot + 1 ≤ maxShots s f → ¬ NoReason s f →
        tripReport i f s = s.setSeq f { q with
          state := .opening, endCause := .blocked, awaited := some (s.order f).number
          reclaim := none }) ∧
      (inFlight → i = true → q.shot + 1 ≤ maxShots s f → NoReason s f →
        tripReport i f s = s.setSeq f { q with
          state := .opening, shot := q.shot + 1, endCause := .none
          awaited := some (s.order f).number, reclaim := none })) ∧
    (s.acting f = true → q.state = .opening → tripReport i f s =
      if i = false ∧ q.endCause = .none then s.setSeq f { q with endCause := .notInitiating }
      else s) ∧
    (s.acting f = true → q.state = .dead →
      tripReport i f s = withLockout (if i = true then .shots else .notInitiating) f s) ∧
    (q.state = .lockout → tripReport i f s = s)

/-- R101, R109, R112, R115, R116, R118: what the reports of ORU do to a feeder's sequencer: the outcomes of orders by
kind, state and awaited number, and the position reports by state; every other report of theirs changes
nothing, and a feeder that does not act takes none. -/
def Obligations.OutcomesMoveSequencers : Prop :=
  ∀ (p : OrderReport) (s : State),
    let f := p.slot
    let q := s.seq f
    let awaited := p.number.isSome = true ∧ p.number = q.awaited
    let same := rcsReport p s = s
    (s.acting f = false → same ∧ ∀ r, rcsPosition r f s = s) ∧
    (s.acting f = true →
    (p.happened = .confirmed → p.kind = .open → q.state = .opening → awaited →
      (∀ c, (c = .notInitiating ∧ q.endCause = .notInitiating ∨ c = .shots ∧ q.endCause = .shots ∨
          c = .blocked ∧ q.endCause = .blocked) → rcsReport p s = withLockout c f s) ∧
      (q.endCause = .none → ¬ NoReason s f → rcsReport p s = withLockout .blocked f s) ∧
      (q.endCause = .none → NoReason s f → maxShots s f < q.shot →
        rcsReport p s = withLockout .shots f s) ∧
      (∀ (gr : GroupRecord) (k : Fin 4), q.endCause = .none → NoReason s f →
        s.settings f = some gr → q.shot = k.val + 1 → q.shot ≤ gr.maxShots →
        rcsReport p s = s.setSeq f { q with
          state := .dead, awaited := none, dead := some (10 * gr.shots[k].deadTime) })) ∧
    (p.happened = .confirmed → p.kind = .open →
      (s.holds f .hunt = false → q.state = .ready ∨ q.state = .closing ∨ q.state = .reclaim →
        rcsReport p s = withLockout .unsolicited f s) ∧
      (s.holds f .hunt = true → p.origin = .earth → ¬ (q.state = .opening ∧ awaited) → same) ∧
      (q.state = .opening → ¬ awaited → same) ∧ (q.state = .dead ∨ q.state = .lockout → same)) ∧
    (∀ (n : OrderNo) (gr : GroupRecord) (g : GroupNo), p.happened = .confirmed → p.kind = .close →
      q.state = .closing → p.number = some n → q.awaited = some n → s.activeGroup f = some g →
      gr = s.group f g →
      rcsReport p s = { s.setSeq f { q with
          state := .reclaim, awaited := none, reclaim := some (10 * gr.reclaimTime) } with
        raised := s.raised ++ [⟨some f, s.tod, none, .reclosed q.shot n (some g)⟩] }) ∧
    (p.happened = .confirmed → p.kind = .close →
      (p.origin = .operator → q.state = .lockout →
        rcsReport p s =
          if s.holds f .hunt = false ∧ s.holds f .earth = false ∧ s.holds f .switch = false then
            s.setSeq f { q with state := .ready, shot := 0, lockoutCause := .none }
          else s) ∧
      (p.origin ≠ .operator → q.state = .lockout → same) ∧ (q.state = .closing → ¬ awaited → same) ∧
      (q.state ≠ .closing → q.state ≠ .lockout → same)) ∧
    (p.happened = .failed →
      let ends := awaited ∧ (p.kind = .open ∧ q.state = .opening ∨ p.kind = .close ∧ q.state = .closing) ∨
        p.number.isSome = true ∧ p.kind = .open ∧ q.state = .closing
      (ends → rcsReport p s = withLockout .order f s) ∧ (¬ ends → same)) ∧
    (p.happened = .withdrawn →
      (q.state = .closing → awaited → rcsReport p s = withLockout .blocked f s) ∧
      (¬ (q.state = .closing ∧ awaited) → same)) ∧
    (p.happened = .superseded ∨ p.happened = .refused → same) ∧
    (p.happened = .taken ∨ p.happened = .merged →
      (p.origin = .operator →
        p.kind = .open ∧ q.state ≠ .lockout ∨ p.happened = .taken ∧ p.kind = .close ∧ q.state = .dead →
        rcsReport p s = withLockout .operator f s) ∧
      (p.origin ≠ .operator ∨ q.state = .lockout ∨ p.kind = .close ∧ q.state ≠ .dead → same)) ∧
    (s.holds f .hunt = true → ∀ r, rcsPosition r f s = s) ∧
    (s.holds f .hunt = false →
      rcsPosition .initialOpen f s = s ∧ rcsPosition .initialClosed f s = s ∧
      (q.state ≠ .lockout → rcsPosition .unsolicitedOpen f s = withLockout .unsolicited f s) ∧
      (q.state = .lockout → rcsPosition .unsolicitedOpen f s = s) ∧
      (q.state = .dead → rcsPosition .unsolicitedClose f s = withLockout .unsolicited f s) ∧
      (q.state ≠ .dead → q.state ≠ .lockout → rcsPosition .unsolicitedClose f s = s) ∧
      (q.state = .lockout → s.holds f .earth = false ∧ s.holds f .switch = false →
        rcsPosition .unsolicitedClose f s =
          s.setSeq f { q with state := .ready, shot := 0, lockoutCause := .none }) ∧
      (q.state = .lockout → s.holds f .earth = true ∨ s.holds f .switch = true →
        rcsPosition .unsolicitedClose f s = s)))

/-- R111: the dead timer expires. Before it has, the row changes nothing (log entry 5). -/
def Obligations.DeadTimerAsksClose : Prop :=
  ∀ (f : Slot) (s : State),
    let q := s.seq f
    let expired := s.acting f = true ∧ q.state = .dead ∧ q.dead = some 0
    (expired → ¬ NoReason s f → Effect (.deadTimerExpiry f) s (withLockout .blocked f s)) ∧
    (expired → NoReason s f → maxShots s f < q.shot →
      Effect (.deadTimerExpiry f) s (withLockout .shots f s)) ∧
    (expired → NoReason s f → q.shot ≤ maxShots s f →
      s.switchAddress f = 0 ∨ (s.order f).state ≠ .idle →
      Effect (.deadTimerExpiry f) s (withLockout .order f s)) ∧
    (expired → NoReason s f → q.shot ≤ maxShots s f → s.switchAddress f ≠ 0 →
      (s.order f).state = .idle →
      Effect (.deadTimerExpiry f) s ((withRequest .close .reclose f s).setSeq f { q with
        state := .closing, awaited := some (fresh s f), dead := none })) ∧
    (¬ expired → exec (.deadTimerExpiry f) s = .next s)

/-- R113: the reclaim timer expires; the live set is then that of shot 0. Before it has, the row changes
nothing: that clause is the model's choice (log entry 5). -/
def Obligations.ReclaimTimerReturnsToReady : Prop :=
  ∀ (f : Slot) (s : State),
    let expired := s.acting f = true ∧ (s.seq f).state = .reclaim ∧ (s.seq f).reclaim = some 0
    let u := s.setSeq f { s.seq f with state := .ready, shot := 0, reclaim := none }
    (expired → Effect (.reclaimTimerExpiry f) s u ∧
      ∀ gr : GroupRecord, liveSet gr (u.seq f).state (u.seq f).shot = gr.shot0Live) ∧
    (¬ expired → exec (.reclaimTimerExpiry f) s = .next s)

/-- R105, R106, R119: BLOCK adds OPERATOR and UNBLOCK removes it; in the dead time the addition brings
LOCKOUT (while R101 holds: log entry 26). RESET LOCKOUT removes EARTH, and returns a closed feeder with no
other reason to READY. -/
def Obligations.ReasonRequestsActOnSequencers : Prop :=
  (∀ (q : Request) (rest : List Request) (f : Slot) (s : State), AtHead 6 1 q rest s →
    nat8At q.payload 2 = f.val →
    let t := begun rest s
    let u := t.setSeq f { s.seq f with reasons := { (s.seq f).reasons with operator := true } }
    (s.holds f .operator = true → Replies .block s q .ok [] t) ∧
    (s.holds f .operator = false → ¬ (s.acting f = true ∧ (s.seq f).state = .dead) →
      Replies .block s q .ok [] u) ∧
    (s.holds f .operator = false → s.acting f = true → (s.seq f).state = .dead →
      Replies .block s q .ok [] (withLockout .blocked f u))) ∧
  (∀ (q : Request) (rest : List Request) (f : Slot) (s : State), AtHead 7 1 q rest s →
    nat8At q.payload 2 = f.val →
    Replies .unblock s q .ok [] ((begun rest s).setSeq f
      { s.seq f with reasons := { (s.seq f).reasons with operator := false } })) ∧
  ∀ (q : Request) (rest : List Request) (f : Slot) (s : State), AtHead 8 1 q rest s →
    nat8At q.payload 2 = f.val →
    let t := (begun rest s).setSeq f
      { s.seq f with reasons := { (s.seq f).reasons with earth := false } }
    let free := (s.seq f).state = .lockout ∧ (s.switch f).position = .closed ∧
      ∀ r : Reason, r ≠ .earth → s.holds f r = false
    (free → Replies .resetLockout s q .ok [0]
      (t.setSeq f { t.seq f with state := .ready, shot := 0, lockoutCause := .none })) ∧
    (¬ free → Replies .resetLockout s q .ok [BitVec.ofNat 8 (s.seq f).state.code] t)

/-! ## Earth faults -/

/-- R127, R128, R130, R131, R125: a bus cycle completion in QUIET, DISPLACED and IDENTIFYING, and the
decision; in CONFIGURING EFS takes none. What a state that is left keeps is log entry 17. -/
def Obligations.DisplacementIsConfirmed : Prop :=
  (∀ (r : CycleResult) (s : State),
    let e := s.efs.record
    let vn := r.channels[3].magnitude
    let dropped := 20 * vn < 19 * s.efs.settings.vNvd
    let u := efsBusCompletion r s
    (s.mgr.device = .configuring → u = s) ∧
    (s.mgr.device = .inService →
      u.efs.record.newestVn = vn ∧ u.efs.record.vnDropped = decide dropped ∧
      (e.state = .quiet → vn < s.efs.settings.vNvd →
        u = s.setEfs { e with newestVn := vn, vnDropped := decide dropped }) ∧
      (e.state = .quiet → s.efs.settings.vNvd ≤ vn →
        u = { s.setEfs { e with
            newestVn := vn
            vnDropped := decide dropped
            episodeTod := s.tod
            votes := .replicate 8 0
            lastPaired := .replicate 8 none
            candidates := .replicate 8 false
            countdown := some s.efs.settings.confirmCycles
            state := .displaced } with
          raised := s.raised ++ [⟨none, s.tod, none,
            .efDetected r.cycle vn r.channels[3].overrange s.mdu.busMode⟩] }) ∧
      (e.state = .displaced → dropped →
        u.efs.record.state = .quiet ∧ u.efs.record.countdown = none ∧
          u.efs.result = ⟨.clearedSelf, none, e.episodeTod, s.tod, e.votes, e.candidates⟩ ∧
          u.raised = s.raised ++ [⟨none, s.tod, none, .efResult u.efs.result⟩]) ∧
      (∀ n, e.state = .displaced → ¬ dropped → e.countdown = some (n + 2) →
        u = s.setEfs { e with newestVn := vn, vnDropped := false, countdown := some (n + 1) }) ∧
      (e.state = .displaced → ¬ dropped → e.countdown = some 1 →
        u = s.setEfs { e with
          newestVn := vn
          vnDropped := false
          votes := .replicate 8 0
          lastPaired := .replicate 8 none
          candidates := .replicate 8 false
          windowFirst := some (r.cycle + 1)
          countdown := some s.efs.settings.windowCycles
          state := .identifying }) ∧
      (e.state = .identifying → ∃ (votes : Vector Nat 8) (paired : Vector (Option CycleNo) 8),
        let v := s.setEfs { e with newestVn := vn, vnDropped := decide dropped }
        let t := s.setEfs
          { e with newestVn := vn, vnDropped := decide dropped, votes := votes, lastPaired := paired }
        (∀ f : Slot,
          ((s.pheStream f.role).results.find? (fun a => a.cycle == r.cycle) = none →
            votes[f] = e.votes[f] ∧ paired[f] = e.lastPaired[f]) ∧
          ∀ a, (s.pheStream f.role).results.find? (fun a => a.cycle == r.cycle) = some a →
            votes[f] = (formPair f a r v).efs.record.votes[f] ∧
            paired[f] = (formPair f a r v).efs.record.lastPaired[f]) ∧
        (dropped → u = episodeEnded .clearedSelf none t) ∧
        (∀ n, ¬ dropped → e.countdown = some (n + 2) →
          u = t.setEfs { t.efs.record with countdown := some (n + 1) }) ∧
        (¬ dropped → e.countdown = some 1 → ∃ set : SlotSet,
          (∀ f : Slot, set[f] = decide (s.efs.settings.voteThreshold ≤ votes[f])) ∧
          (∀ f : Slot, (∀ g : Slot, set[g] = decide (g = f)) → u = t.setEfs { t.efs.record with
            state := .identified
            candidates := set
            identified := some f
            phase := some .delay
            delayCount := 0
            countdown := none }) ∧
          ((∀ f : Slot, ¬ ∀ g : Slot, set[g] = decide (g = f)) →
            u = decide131 (t.setEfs { t.efs.record with candidates := set, countdown := none })))))) ∧
  ∀ s : State,
    (s.mdu.busMode = .ban → decide131 s = busTrip s) ∧
    (s.mdu.busMode ≠ .ban → (s.earthMode s.mdu.busMode).autoHunt = true →
      decide131 s = startHunt .auto s) ∧
    (s.mdu.busMode ≠ .ban → (s.earthMode s.mdu.busMode).autoHunt = false →
      decide131 s = s.setEfs { s.efs.record with
        state := .unresolved
        countdown := none
        identified := none
        phase := none
        awaited := none })

/-- R129, R148: in IDENTIFYING, while the bus stream is LOCKED or PATCHED, a feeder's result looks up the bus's of
its cycle. A pair is formed for a cycle of the
window later than the last paired one, and earns a vote unless it is withheld or W is above −W_set. -/
def Obligations.PairsEarnVotes : Prop :=
  (∀ (f : Slot) (a : CycleResult) (s : State),
    let held := (s.pheStream busRole).results.find? fun b => b.cycle == a.cycle
    let takes := s.mgr.device = .inService ∧ s.efs.record.state = .identifying ∧ Delivering busRole s
    (¬ takes ∨ held = none → efsFeederResult f a s = s) ∧
    ∀ b, takes → held = some b → efsFeederResult f a s = formPair f a b s) ∧
  ∀ (f : Slot) (a b : CycleResult) (s : State),
    let e := s.efs.record
    let place := fun (w c : CycleNo) => (c - w).toNat
    let pairable := ∃ w, e.windowFirst = some w ∧ place w a.cycle < s.efs.settings.windowCycles ∧
      ∀ p, e.lastPaired[f] = some p → place w p < place w a.cycle
    let withheld := a.patched = true ∨ b.patched = true ∨
      (∃ ch : Fin 4, a.channels[ch].overrange = true ∨ b.channels[ch].overrange = true) ∨
      (s.switch f).position ≠ .closed ∨ (s.feeder f).inService = false
    let paired := { e with lastPaired := upd e.lastPaired f (some a.cycle) }
    (¬ pairable → formPair f a b s = s) ∧
    (pairable → withheld ∨ -(s.efs.settings.wSet : Int) < residualPower a b →
      formPair f a b s = s.setEfs paired) ∧
    (pairable → ¬ withheld → residualPower a b ≤ -(s.efs.settings.wSet : Int) →
      formPair f a b s = s.setEfs { paired with
        votes := upd e.votes f (min 250 (e.votes[f] + 1)) })

/-- R132, R133, R134: the identified feeder. A completion in the DELAY phase counts and, when the delay of its
district's mode has expired, trips the feeder; the OPENING phase awaits its OPEN; the OBSERVING phase ends the
episode or finds the displacement persisting. What a state that is left keeps is log entry 17. -/
def Obligations.IdentifiedFeedersAreTripped : Prop :=
  (∀ (r : CycleResult) (f : Slot) (s : State), s.mgr.device = .inService →
    s.efs.record.state = .identified → s.efs.record.identified = some f →
    let e := s.efs.record
    let vn := r.channels[3].magnitude
    let dropped := 20 * vn < 19 * s.efs.settings.vNvd
    let v := s.setEfs { e with newestVn := vn, vnDropped := decide dropped }
    let n := min 65535 (e.delayCount + 1)
    let delay := (s.earthMode (s.feederMode f)).tripDelay
    let u := efsBusCompletion r s
    (e.phase = some .delay →
      (dropped → u = episodeEnded .clearedSelf none v) ∧
      (¬ dropped → delay = 65535 ∨ n < delay →
        u = v.setEfs { v.efs.record with delayCount := n }) ∧
      (¬ dropped → delay ≠ 65535 → delay ≤ n →
        u = tripIdentified f (v.setEfs { v.efs.record with delayCount := n }))) ∧
    (e.phase = some .opening → u = v) ∧
    (e.phase = some .observing →
      (dropped → e.recloseMark = true → u = episodeEnded .trippedIdentified (some f) v) ∧
      (dropped → e.recloseMark = false →
        ∃ b, LeftOpen f v b ∧ u = episodeEnded .trippedIdentified (some f) b) ∧
      (∀ k, ¬ dropped → e.countdown = some (k + 2) →
        u = v.setEfs { v.efs.record with countdown := some (k + 1) }) ∧
      (¬ dropped → e.countdown = some 1 →
        u = displacementPersists f (v.setEfs { v.efs.record with countdown := some 0 })))) ∧
  (∀ (f : Slot) (s : State), ∃ (mark : Bool) (t : State),
    let w := s.setEfs { s.efs.record with recloseMark := mark }
    let earthed := w.setSeq f { s.seq f with reasons := { (s.seq f).reasons with earth := true } }
    let dead := s.acting f = true ∧ (s.seq f).state = .dead ∧ s.holds f .earth = false
    (mark = true ↔ s.feederMode f = .normal ∧
      ∃ g, s.activeGroup f = some g ∧ (s.group f g).efTripRecloses = 1) ∧
    (s.feederMode f = .normal → t = w) ∧
    (s.feederMode f ≠ .normal → ¬ dead → t = earthed) ∧
    (s.feederMode f ≠ .normal → dead → t = withLockout .blocked f earthed) ∧
    ((s.switch f).position = .opened → tripIdentified f s = t.setEfs { t.efs.record with
      awaited := none, phase := some .observing, countdown := some s.efs.settings.observeCycles }) ∧
    ((s.switch f).position ≠ .opened →
      let a := askOrder .open .earth f t
      (∀ n, a.answer = .taken n ∨ a.answer = .merged n →
        tripIdentified f s = tripReport mark f (a.state.setEfs
          { t.efs.record with awaited := some n, phase := some .opening })) ∧
      ∀ c, a.answer = .refused c →
        tripIdentified f s = tripReport mark f (displacementPersists f a.state))) ∧
  (∀ (f : Slot) (s : State), ∃ b, LeftOpen f s b ∧
    let asks := (s.switch f).position ≠ .opened ∧ (s.order f).state = .idle
    let gone := fun (t : State) => t.setEfs { t.efs.record with
      identified := none
      phase := none
      awaited := none
      countdown := none
      candidates := upd t.efs.record.candidates f false }
    (asks → displacementPersists f s = decide131 (gone (askOrder .open .earth f b).state)) ∧
    (¬ asks → displacementPersists f s = decide131 (gone b))) ∧
  ∀ (p : OrderReport) (s : State), s.mgr.device = .inService → s.efs.record.state = .identified →
    s.efs.record.identified = some p.slot → s.efs.record.phase = some .opening →
    p.number.isSome = true → s.efs.record.awaited = p.number →
    (p.happened = .confirmed → efsReport p s = s.setEfs { s.efs.record with
      awaited := none, phase := some .observing, countdown := some s.efs.settings.observeCycles }) ∧
    (p.happened = .failed → efsReport p s = displacementPersists p.slot s)

/-- R146, R135, R136, R140: START HUNT begins a hunt over the hunt order table, its candidates first, each part
in the table's order, less the excluded feeders; the first feeder is under test, holds HUNT and has its OPEN
asked; an empty list is exhausted at once. The start clears the hunt limit's mark (log entry 20); what a state
that is left keeps is log entry 17. -/
def Obligations.HuntsStartWithFirstFeeder : Prop :=
  ∀ (q : Request) (rest : List Request) (s : State), AtHead 11 0 q rest s →
    let allowed := s.mgr.device = .inService ∧ s.mdu.busMode ≠ .ban ∧
      (s.efs.record.state = .unresolved ∨ s.efs.record.state = .persistent)
    let free : Slot → Bool := fun f => (s.switch f).position != .opened && (s.feeder f).inService &&
      (s.order f).state == .idle && (s.seq f).state == .ready &&
      !(s.holds f .tag || s.holds f .local || s.holds f .switch || s.holds f .stream ||
        s.holds f .operator || s.holds f .earth)
    let hunting := { begun rest s with
      efs := { s.efs with
        record := { s.efs.record with
          state := .hunting, countdown := none, identified := none, phase := none, awaited := none }
        hunt := ⟨buildHuntList s, 0, none, none, none, none, 0, .manual, .none⟩ }
      due := { s.due with huntLimit := false } }
    (¬ allowed → Replies .startHunt s q .state [] (begun rest s)) ∧
    (allowed → Replies .startHunt s q .ok [] (startStep hunting)) ∧
    buildHuntList s =
      (s.efs.huntOrder.filter fun f => s.efs.record.candidates[f] && free f) ++
        (s.efs.huntOrder.filter fun f => !s.efs.record.candidates[f] && free f) ∧
    (∀ f, f ∈ buildHuntList s ↔ f ∈ s.efs.huntOrder ∧ (s.switch f).position ≠ .opened ∧
      (s.feeder f).inService = true ∧ (s.order f).state = .idle ∧ (s.seq f).state = .ready ∧
      s.holds f .tag = false ∧ s.holds f .local = false ∧ s.holds f .switch = false ∧
      s.holds f .stream = false ∧ s.holds f .operator = false ∧ s.holds f .earth = false) ∧
    (∀ f fs, allowed → buildHuntList s = f :: fs → s.switchAddress f ≠ 0 →
      Replies .startHunt s q .ok [] { (withRequest .open .earth f hunting).setSeq f
          { s.seq f with reasons := { (s.seq f).reasons with hunt := true } } with
        efs := { hunting.efs with
          hunt := ⟨f :: fs, 0, some f, some .opening, none, some (fresh s f), 0, .manual, .none⟩ }
        raised := s.raised ++ [⟨some f, s.tod, none, .huntStep 0 (fs.length + 1) .manual true⟩] }) ∧
    (allowed → buildHuntList s = [] →
      ((s.earthMode s.mdu.busMode).persistent = .alarm →
        Replies .startHunt s q .ok [] (persisting hunting)) ∧
      ((s.earthMode s.mdu.busMode).persistent = .busTrip →
        Replies .startHunt s q .ok [] (busTrip (persisting hunting))))

/-- R136 to R140, R142: the steps of a hunt. A step starts at the step index, skipping excluded feeders and
those whose OPEN is refused, until the list is exhausted; a completion observes or settles; the outcomes of the
OPEN and of the restore CLOSE move the step, or end an abort. A restore stops the step countdown (the model's
choice, log entry 32). That a state that is left has no countdown, identified feeder, phase and awaited number
is the model's choice (log entry 17). -/
def Obligations.HuntStepsAreWalked : Prop :=
  (∀ s : State,
    let h := s.efs.hunt
    (h.list.length ≤ h.stepIndex →
      ((s.earthMode s.mdu.busMode).persistent = .alarm → startStep s = persisting s) ∧
      ((s.earthMode s.mdu.busMode).persistent = .busTrip → startStep s = busTrip (persisting s))) ∧
    ∀ f, h.list[h.stepIndex]? = some f →
      let excluded := (s.switch f).position = .opened ∨ (s.feeder f).inService = false ∨
        s.holds f .tag = true ∨ s.holds f .local = true ∨ s.holds f .switch = true ∨
        s.holds f .stream = true ∨ s.holds f .operator = true ∨ s.holds f .earth = true ∨
        (s.order f).state ≠ .idle ∨ (s.seq f).state ≠ .ready
      let notice := fun (started : Bool) => (⟨some f, s.tod, none,
        .huntStep h.stepIndex h.list.length h.origin started⟩ : Notice)
      (excluded → startStep s = startStep { s.setHunt { h with stepIndex := h.stepIndex + 1 } with
        raised := s.raised ++ [notice false] }) ∧
      (¬ excluded → s.switchAddress f ≠ 0 →
        startStep s = { (withRequest .open .earth f s).setSeq f
            { s.seq f with reasons := { (s.seq f).reasons with hunt := true } } with
          efs := { s.efs with hunt := { h with
            underTest := some f, step := some .opening, countdown := none, order := some (fresh s f) } }
          raised := s.raised ++ [notice true] }) ∧
      (¬ excluded → s.switchAddress f = 0 →
        startStep s = startStep { withoutHunt f s with
          efs := { s.efs with hunt := { h with
            stepIndex := h.stepIndex + 1
            underTest := none, step := none, countdown := none, order := none } }
          raised := s.raised ++ [notice true, ⟨some f, s.tod, none,
            .orderFail .open .earth ⟨false, false, false, false⟩ none (s.switch f).failCount
              (s.switch f).health⟩] })) ∧
  (∀ (f : Slot) (s : State),
    let next := fun (u : State) => startStep ((withoutHunt f u).setHunt { u.efs.hunt with
      stepIndex := u.efs.hunt.stepIndex + 1
      underTest := none, step := none, countdown := none, order := none })
    let restoring := fun (n : Option OrderNo) => { s.efs.hunt with
      step := some .restoring, countdown := none, order := n }
    let taken := s.switchAddress f ≠ 0 ∧ (s.order f).state = .idle ∧ s.holds f .fire = false
    let demanded := s.acting f = true ∧ (s.seq f).state ≠ .lockout
    endStep f s = next s ∧
    (taken → askRestore f s = (withRequest .close .earth f s).setHunt (restoring (some (fresh s f)))) ∧
    (¬ taken → askRestore f s = restoreFailed f (s.setHunt (restoring none))) ∧
    ∃ b : State, (demanded → b = withLockout .earth f s) ∧ (¬ demanded → b = s) ∧
      (s.efs.hunt.abortCause = .none → restoreFailed f s = next b) ∧
      (s.efs.hunt.abortCause ≠ .none → restoreFailed f s = abortEnd (withoutHunt f b))) ∧
  (∀ (r : CycleResult) (f : Slot) (s : State), s.mgr.device = .inService →
    s.efs.record.state = .hunting → s.efs.hunt.underTest = some f →
    let h := s.efs.hunt
    let vn := r.channels[3].magnitude
    let dropped := 20 * vn < 19 * s.efs.settings.vNvd
    let v := s.setEfs { s.efs.record with newestVn := vn, vnDropped := decide dropped }
    let u := efsBusCompletion r s
    (h.abortCause ≠ .none ∨ h.step = some .opening ∨ h.step = some .restoring → u = v) ∧
    (h.abortCause = .none → h.step = some .observing → dropped → ∃ b, LeftOpen f v b ∧
      u = episodeEnded .foundByHunt (some f) (stepCleared (withoutHunt f b))) ∧
    (h.abortCause = .none → h.step = some .settling → dropped →
      u = episodeEnded .clearedSelf none (stepCleared (withoutHunt f v))) ∧
    (∀ n, h.abortCause = .none → h.step = some .observing ∨ h.step = some .settling → ¬ dropped →
      h.countdown = some (n + 2) → u = v.setHunt { h with countdown := some (n + 1) }) ∧
    (h.abortCause = .none → h.step = some .observing → ¬ dropped → h.countdown = some 1 →
      u = askRestore f (v.setHunt { h with countdown := some 0 })) ∧
    (h.abortCause = .none → h.step = some .settling → ¬ dropped → h.countdown = some 1 →
      u = endStep f (v.setHunt { h with countdown := some 0 }))) ∧
  ∀ (p : OrderReport) (s : State), s.mgr.device = .inService → s.efs.record.state = .hunting →
    s.efs.hunt.underTest = some p.slot → p.number.isSome = true → s.efs.hunt.order = p.number →
    let h := s.efs.hunt
    let aborting := h.abortCause ≠ .none
    (h.step = some .opening → p.happened = .confirmed →
      (¬ aborting → efsReport p s = s.setHunt { h with
        order := none, countdown := some s.efs.settings.observeCycles, step := some .observing }) ∧
      (aborting → efsReport p s = askRestore p.slot s)) ∧
    (h.step = some .opening → p.happened = .failed →
      (¬ aborting → efsReport p s = endStep p.slot s) ∧
      (aborting → efsReport p s = abortEnd (withoutHunt p.slot s))) ∧
    (h.step = some .restoring → p.happened = .confirmed →
      (¬ aborting → efsReport p s = s.setHunt { h with
        order := none, countdown := some s.efs.settings.settleCycles, step := some .settling }) ∧
      (aborting → efsReport p s = abortEnd (withoutHunt p.slot s))) ∧
    (h.step = some .restoring →
      p.happened = .failed ∨ p.happened = .superseded ∨ p.happened = .withdrawn →
      efsReport p s = restoreFailed p.slot s)

/-- R141, R142, R143, R146: a hunt is aborted by request or at its limit, and where an abort ends. A limit that
has not been found reached changes nothing (log entries 5 and 20). What a state that is left keeps is log
entry 17. That an abort with no other destination ends in UNRESOLVED, and takes no decision of R131, is the
model's inference (log entry 16). -/
def Obligations.HuntsAbort : Prop :=
  (∀ (q : Request) (rest : List Request) (s : State), AtHead 12 0 q rest s →
    (¬ HuntUnderWay s → Replies .abortHunt s q .state [] (begun rest s)) ∧
    (HuntUnderWay s → ∃ v, Replies .abortHunt s q .ok [] v ∧ HuntAborted .request s v ∧
      v.rpt = s.rpt ∧ v.siu = s.siu ∧ v.phe = s.phe ∧ v.elu = s.elu ∧ v.gst = s.gst ∧
      v.mdu = s.mdu ∧ v.pending = s.pending)) ∧
  (∀ s : State,
    (s.due.huntLimit = true → HuntUnderWay s → ∃ u, Effect .huntLimitExpiry s u ∧
      HuntAborted .limit s u ∧ u.due = { s.due with huntLimit := false } ∧
      u.rpt = s.rpt ∧ u.siu = s.siu ∧ u.phe = s.phe ∧ u.elu = s.elu ∧ u.gst = s.gst ∧
      u.mdu = s.mdu ∧ u.mgr = s.mgr ∧ u.pending = s.pending) ∧
    (s.due.huntLimit = false → exec .huntLimitExpiry s = .next s)) ∧
  ∀ s : State,
    let e := s.efs.record
    let r : EarthResult :=
      ⟨.aborted, s.efs.hunt.underTest, e.episodeTod, s.tod, e.votes, e.candidates⟩
    let t := stepCleared { s with
      efs := { s.efs with result := r }, raised := s.raised ++ [⟨none, s.tod, none, .efResult r⟩] }
    let left := fun (x : EfsState) (c : Option Nat) => t.setEfs { e with
      state := x, countdown := c, identified := none, phase := none, awaited := none }
    let limit := s.efs.hunt.abortCause = .limit ∧ s.mdu.busMode = .season
    (s.mdu.busMode = .ban → abortEnd s = busTrip t) ∧
    (s.mdu.busMode ≠ .ban → e.vnDropped = true → abortEnd s = left .quiet none) ∧
    (s.mdu.busMode ≠ .ban → e.vnDropped = false → limit → abortEnd s = busTrip t) ∧
    (s.mdu.busMode ≠ .ban → e.vnDropped = false → s.efs.hunt.abortCause = .protection →
      abortEnd s = left .displaced (some s.efs.settings.confirmCycles)) ∧
    (s.mdu.busMode ≠ .ban → e.vnDropped = false → ¬ limit → s.efs.hunt.abortCause ≠ .protection →
      abortEnd s = left .unresolved none)

/-- R144, R145, R146: a bus trip adds EARTH to every in-service feeder that is not open and asks its OPEN; the
outcomes empty its list; a completion then ends it. UNRESOLVED and PERSISTENT end when VN has dropped, and B
becoming BAN begins a bus trip there and aborts a hunt. The feeders ordered open are those asked (log entry
18); what a state that is left keeps is log entry 17. -/
def Obligations.BusTripsOpenFeeders : Prop :=
  (∀ s : State,
    let e := s.efs.record
    let u := busTrip s
    let asked := fun (f : Slot) => (s.feeder f).inService = true ∧ (s.switch f).position ≠ .opened
    (∃ set list, (∀ f : Slot, set[f] = true ↔ asked f) ∧
      u.efs = { s.efs with record := { e with
        state := .busTrip
        countdown := none
        identified := none
        phase := none
        awaited := none
        busTripList := list } } ∧
      ⟨none, s.tod, none, .busTrip s.mdu.busMode set e.state⟩ ∈ u.raised ∧
      ∀ f : Slot, list[f] =
        if (s.feeder f).inService = true ∧ (s.switch f).position ≠ .opened ∧ s.switchAddress f ≠ 0 then
          some (if (s.order f).state ≠ .idle ∧ (s.order f).kind = .open then (s.order f).number
            else fresh s f)
        else e.busTripList[f]) ∧
    (∀ f : Slot, ¬ asked f →
      u.switch f = s.switch f ∧ u.order f = s.order f ∧ u.seq f = s.seq f) ∧
    (∀ f : Slot, asked f →
      (s.holds f .earth = true → u.seq f = s.seq f) ∧
      (s.holds f .earth = false →
        let q := { s.seq f with reasons := { (s.seq f).reasons with earth := true } }
        u.seq f = if s.acting f = true ∧ (s.seq f).state = .dead then lockedOut .blocked q else q) ∧
      (s.switchAddress f = 0 → u.order f = s.order f ∧ u.switch f = s.switch f) ∧
      (s.switchAddress f ≠ 0 → (s.order f).state = .idle ∨ (s.order f).kind = .close →
        u.order f = requested .open .earth (fresh s f) ∧ u.switch f = { s.switch f with
          position := positionOf (s.switch f).reported (requested .open .earth (fresh s f)) }) ∧
      (s.switchAddress f ≠ 0 → (s.order f).state ≠ .idle → (s.order f).kind = .open →
        u.switch f = s.switch f ∧ u.order f = { s.order f with
          joined := if (s.order f).origin = .earth then (s.order f).joined
            else { (s.order f).joined with earth := true } })) ∧
    OutsideOrdersSame s u ∧ u.oru.echoMissing = s.oru.echoMissing ∧ s.raised <+: u.raised) ∧
  (∀ (p : OrderReport) (s : State), s.mgr.device = .inService → s.efs.record.state = .busTrip →
    let ends := (p.happened = .confirmed ∨ p.happened = .failed) ∧ p.number.isSome = true ∧
      s.efs.record.busTripList[p.slot] = p.number
    (ends → efsReport p s = s.setEfs { s.efs.record with
      busTripList := upd s.efs.record.busTripList p.slot none }) ∧
    (¬ ends → efsReport p s = s)) ∧
  (∀ (r : CycleResult) (s : State), s.mgr.device = .inService →
    let e := s.efs.record
    let vn := r.channels[3].magnitude
    let dropped := 20 * vn < 19 * s.efs.settings.vNvd
    let v := s.setEfs { e with newestVn := vn, vnDropped := decide dropped }
    let u := efsBusCompletion r s
    let listed := ∃ f : Slot, e.busTripList[f] ≠ none
    (e.state = .busTrip → listed → u = v) ∧
    (e.state = .busTrip → ¬ listed → dropped → u = episodeEnded .busTripped none v) ∧
    (e.state = .busTrip → ¬ listed → ¬ dropped → u = persisting v) ∧
    (e.state = .unresolved ∨ e.state = .persistent → dropped →
      u = episodeEnded .unresolvedEnd none v) ∧
    (e.state = .unresolved ∨ e.state = .persistent → ¬ dropped → u = v)) ∧
  ∀ s : State, s.mgr.device = .inService →
    (s.efs.record.state = .unresolved ∨ s.efs.record.state = .persistent →
      efsBecameBan s = busTrip s) ∧
    (HuntUnderWay s → s.mdu.busMode = .ban → HuntAborted .ban s (efsBecameBan s)) ∧
    (s.efs.record.state ≠ .unresolved → s.efs.record.state ≠ .persistent → ¬ HuntUnderWay s →
      efsBecameBan s = s)

/-! ## Clock and modes -/

/-- R150, R15, R84, R87, R100, R141: a local tick moves the clock, lets every running timer fall, and
counts the hunt. What it leaves to MINUTE_BOUNDARY, DAY_CHANGE and HUNT_LIMIT_EXPIRY is marked due (log
entries 3, 4 and 20). -/
def Obligations.TicksMoveClockAndTimers : Prop :=
  ∀ s : State, ∃ u, Effect .localTick s u ∧
    (s.mdu.running = false → u.mdu = s.mdu ∧ u.due.minute = s.due.minute ∧
      u.due.day = s.due.day) ∧
    (s.mdu.running = true → s.mdu.ms + 1 < 86400000 →
      u.mdu = { s.mdu with ms := s.mdu.ms + 1 } ∧ u.due.day = s.due.day ∧
      u.due.minute = (s.due.minute || decide ((s.mdu.ms + 1) % 60000 = 0))) ∧
    (s.mdu.running = true → 86400000 ≤ s.mdu.ms + 1 →
      u.mdu = { s.mdu with ms := 0, day := s.mdu.day + 1 } ∧ u.due.day = true ∧
      u.due.minute = true) ∧
    (∀ r : Role, u.stream r =
      { s.stream r with supervision := (s.stream r).supervision.map (· - 1) }) ∧
    (∀ f : Slot, u.switch f =
        { s.switch f with supervision := (s.switch f).supervision.map (· - 1) } ∧
      u.order f = { s.order f with
        echoWatch := (s.order f).echoWatch.map (· - 1)
        confirm := (s.order f).confirm.map (· - 1) } ∧
      u.seq f = { s.seq f with
        dead := (s.seq f).dead.map (· - 1), reclaim := (s.seq f).reclaim.map (· - 1) }) ∧
    (s.efs.record.state ≠ .hunting → u.efs = s.efs ∧ u.due.huntLimit = false) ∧
    (s.efs.record.state = .hunting →
      u.efs = { s.efs with hunt := { s.efs.hunt with
        elapsed := min 3600000 (s.efs.hunt.elapsed + 1) } } ∧
      u.due.huntLimit = decide (s.efs.hunt.abortCause = .none ∧
        1000 * (s.earthMode s.mdu.busMode).huntLimit ≤ u.efs.hunt.elapsed)) ∧
    u.rpt = s.rpt ∧ u.phe = s.phe ∧ u.elu = s.elu ∧ u.gst = s.gst ∧ u.mgr = s.mgr ∧
    u.siu.staged = s.siu.staged ∧ u.siu.active = s.siu.active ∧
    u.siu.activated = s.siu.activated ∧ u.siu.foreign = s.siu.foreign ∧
    u.oru.echoMissing = s.oru.echoMissing ∧ u.raised = s.raised ∧ u.pending = s.pending

/-- R150, R156, R158, R159: the boundary work that a tick left. A boundary or day change whose tick has
not come as LOCAL_TICK takes that tick with it, and one that is not there changes nothing (log entries 4
and 5). -/
def Obligations.BoundariesEvaluateModes : Prop :=
  (∀ s : State,
    (s.due.day = true → Effect .dayChange s { s with
      mdu := { s.mdu with declarations := purged s.mdu.day s.mdu.declarations }
      due := { s.due with day := false } }) ∧
    (s.due.day = false → s.mdu.running = true → 86400000 ≤ s.mdu.ms + 1 →
      ∃ u, Effect .dayChange s u ∧ u.due.day = false ∧ u.due.minute = true ∧
        u.mdu = { s.mdu with
          ms := 0
          day := s.mdu.day + 1
          declarations := purged (s.mdu.day + 1) s.mdu.declarations }) ∧
    (s.due.day = false → s.mdu.running = false ∨ s.mdu.ms + 1 < 86400000 →
      exec .dayChange s = .next s)) ∧
  ∀ s : State,
    (s.due.minute = true → ∃ t u, Effect .minuteBoundary s u ∧
      t = { s with
        mdu := { s.mdu with
          declarations :=
            if s.due.day = true then purged s.mdu.day s.mdu.declarations else s.mdu.declarations
          overrides := t.mdu.overrides }
        due := { s.due with minute := false, day := false } } ∧
      (∀ d : District, t.mdu.overrides[d] = checkedOverride s d) ∧
      u = evaluateModes t ∧ ModesOnly t u ∧ ModesEvaluated u ∧
      (ModesSettled t → u = { t with mdu := { t.mdu with sources := u.mdu.sources } })) ∧
    (s.due.minute = false → s.mdu.running = true → (s.mdu.ms + 1) % 60000 = 0 →
      s.mdu.ms < 86400000 → ∃ u, Effect .minuteBoundary s u ∧ u.due.minute = false ∧
        u.mdu.ms = (s.mdu.ms + 1) % 86400000 ∧ ModesEvaluated u) ∧
    (s.due.minute = false → s.mdu.running = false ∨ (s.mdu.ms + 1) % 60000 ≠ 0 →
      exec .minuteBoundary s = .next s)

/-- R151, R156, R158: a TIME frame addressed to 63. A valid one covers the boundary work a tick left (log
entry 4). -/
def Obligations.TimeFramesSetTheClock : Prop :=
  ∀ (f : RxFrame) (s : State), Arrives 3 f s → destinationOf f = 63 →
    let new : Tod := ⟨word16At (payloadOf f) 0, nat32At (payloadOf f) 2⟩
    (86400000 ≤ new.ms → Effect (.time f) s
      (forwarded f { s with mdu := { s.mdu with
        invalidTime := min 65535 (s.mdu.invalidTime + 1) } })) ∧
    (new.ms < 86400000 → ∃ t u, Effect (.time f) s (forwarded f u) ∧
      t = { s with
        mdu := { s.mdu with
          running := true
          day := new.day
          ms := new.ms
          declarations := purged new.day s.mdu.declarations
          overrides := t.mdu.overrides }
        due := { s.due with minute := false, day := false }
        raised := t.raised } ∧
      (∀ d : District, t.mdu.overrides[d] = checkedOverride
        { s with mdu := { s.mdu with running := true, day := new.day, ms := new.ms } } d) ∧
      (s.mdu.running = false → t.raised = s.raised ++
        [⟨none, some new, none, .clockSet none new none⟩]) ∧
      (s.mdu.running = true →
        let step := ((new.day.toNat : Int) - s.mdu.day.toNat) * 86400000 +
          ((new.ms : Int) - s.mdu.ms)
        (1000 < step ∨ step < -1000 → t.raised = s.raised ++
          [⟨none, some new, none, .clockSet (some ⟨s.mdu.day, s.mdu.ms⟩) new (some step)⟩]) ∧
        (-1000 ≤ step → step ≤ 1000 → t.raised = s.raised)) ∧
      u = evaluateModes t ∧ ModesOnly t u ∧ ModesEvaluated u ∧ t.raised <+: u.raised ∧
      (ModesSettled t → u = { t with mdu := { t.mdu with sources := u.mdu.sources } }))

/-- R159, R153, R152: a district's mode and deciding source. -/
def Obligations.DistrictModeIsDecided : Prop :=
  ∀ (s : State) (d : District),
    let declared := fun (m : Mode) => ∃ x ∈ s.mdu.declarations, x.district = d ∧ x.level = m ∧
      x.day = s.mdu.day ∧ x.startMinute ≤ s.mdu.ms / 60000 ∧ s.mdu.ms / 60000 < x.endMinute
    let inWindow := s.mdu.windows[d].startDay.toNat ≤ s.mdu.day.toNat ∧
      s.mdu.day.toNat ≤ s.mdu.windows[d].endDay.toNat
    (∀ o, s.mdu.overrides[d] = some o → districtMode s d = (o.mode, .override)) ∧
    (s.mdu.overrides[d] = none →
      (s.mdu.running = false → districtMode s d = (s.mdu.windows[d].unsetMode, .unsetClock)) ∧
      (s.mdu.running = true → declared .ban → districtMode s d = (.ban, .declaration)) ∧
      (s.mdu.running = true → ¬ declared .ban → declared .season →
        districtMode s d = (.season, .declaration)) ∧
      (s.mdu.running = true → ¬ declared .ban → ¬ declared .season → inWindow →
        districtMode s d = (.season, .seasonWindow)) ∧
      (s.mdu.running = true → ¬ declared .ban → ¬ declared .season → ¬ inWindow →
        districtMode s d = (.normal, .default)))

/-- R164: the bus mode. -/
def Obligations.BusModeIsMostSevere : Prop :=
  ∀ s : State,
    ((∃ f : Slot, (s.feeder f).inService = true ∧ s.mdu.modes[(s.feeder f).district] = .ban) →
      derivedBusMode s = .ban) ∧
    ((∀ f : Slot, (s.feeder f).inService = true → s.mdu.modes[(s.feeder f).district] ≠ .ban) →
      (∃ f : Slot, (s.feeder f).inService = true ∧
        s.mdu.modes[(s.feeder f).district] = .season) →
      derivedBusMode s = .season) ∧
    ((∀ f : Slot, (s.feeder f).inService = true → s.mdu.modes[(s.feeder f).district] = .normal) →
      derivedBusMode s = .normal)

/-- R159, R162, R163, R161, R94, R165: an evaluation takes the districts in order and then the bus mode. A
district whose mode has changed raises MODE_CHANGE, FIRE follows on its feeders, and GST is asked for the group
the new mode calls for; a bus mode that becomes BAN is told to EFS. -/
def Obligations.ModeChangesReachEveryBlock : Prop :=
  (∀ s : State,
    let b := derivedBusMode s
    evaluateModes s = updateBusMode (allDistricts.foldl evaluateDistrict s) ∧
    (b = s.mdu.busMode → updateBusMode s = s) ∧
    (b ≠ s.mdu.busMode → b ≠ .ban →
      updateBusMode s = { s with mdu := { s.mdu with busMode := b } }) ∧
    (b ≠ s.mdu.busMode → b = .ban →
      updateBusMode s = efsBecameBan { s with mdu := { s.mdu with busMode := b } }) ∧
    ∀ d : District,
      let r := districtMode s d
      (r.1 = s.mdu.modes[d] → evaluateDistrict s d =
        { s with mdu := { s.mdu with sources := upd s.mdu.sources d r.2 } }) ∧
      (r.1 ≠ s.mdu.modes[d] → evaluateDistrict s d = changeMode d r.1 r.2 s)) ∧
  ∀ (d : District) (m : Mode) (source : ModeSource) (s : State),
    let left := s.mdu.modes[d]
    let u := changeMode d m source s
    u.mdu = { s.mdu with
      modes := upd s.mdu.modes d m, sources := upd s.mdu.sources d source } ∧
    (s.raised ++ [⟨none, s.tod, none, .modeChange d left m source⟩]) <+: u.raised ∧
    (s.efs.record.state ≠ .hunting → u.efs = s.efs) ∧
    (∀ f : Slot, (s.feeder f).district ≠ d →
      u.activeGroup f = s.activeGroup f ∧ u.pendingGroup f = s.pendingGroup f ∧
      u.holds f .fire = s.holds f .fire ∧
      (s.efs.record.state ≠ .hunting →
        u.seq f = s.seq f ∧ u.order f = s.order f ∧ u.switch f = s.switch f)) ∧
    (∀ f : Slot, (s.feeder f).district = d →
      let o := s.order f
      let withdrawn := m = .ban ∧ s.holds f .fire = false ∧ o.state = .requested ∧
        o.kind = .close ∧ (o.origin = .reclose ∨ o.origin = .earth)
      let fire := if m = .ban then true else if left = .ban then false else s.holds f .fire
      let q := { s.seq f with reasons := { (s.seq f).reasons with fire := fire } }
      let blocked := m = .ban ∧ s.holds f .fire = false ∧ s.acting f = true ∧
        ((s.seq f).state = .dead ∨
          (s.seq f).state = .closing ∧ withdrawn ∧ (s.seq f).awaited = some o.number)
      let g := (s.feeder f).modeMap[m.index]
      let kept := u.activeGroup f = s.activeGroup f ∧ u.pendingGroup f = s.pendingGroup f
      u.holds f .fire = fire ∧
      (s.efs.record.state ≠ .hunting →
        (withdrawn → u.order f = idle o ∧
          u.switch f = { s.switch f with position := positionOf (s.switch f).reported (idle o) }) ∧
        (¬ withdrawn → u.order f = o ∧ u.switch f = s.switch f) ∧
        (blocked → u.seq f = lockedOut .blocked q) ∧
        (¬ blocked → (s.seq f).state ≠ .dead → u.seq f = q)) ∧
      ((s.feeder f).inService = false ∨ s.activeGroup f = none → kept) ∧
      ∀ a, (s.feeder f).inService = true → s.activeGroup f = some a →
        (g = a → s.pendingGroup f = none ∨ s.pendingGroup f = some g → kept) ∧
        (∀ p, g = a → s.pendingGroup f = some p → p ≠ g →
          u.activeGroup f = some a ∧ u.pendingGroup f = none ∧
          ⟨some f, s.tod, none, .groupDeferred a none m⟩ ∈ u.raised) ∧
        (g ≠ a → s.pendingGroup f = some g → kept) ∧
        (g ≠ a → s.pendingGroup f ≠ some g → Delivering f.role s →
          u.activeGroup f = some a ∧ u.pendingGroup f = some g ∧
          ⟨some f, s.tod, none, .groupDeferred a (some g) m⟩ ∈ u.raised) ∧
        (g ≠ a → s.pendingGroup f ≠ some g → ¬ Delivering f.role s →
          u.activeGroup f = some g ∧ u.pendingGroup f = none ∧
          ⟨some f, s.tod, none, .groupChange (some a) g .atOnce none⟩ ∈ u.raised))

/-- R157: OVERRIDE sets or clears a district's override, and the modes are evaluated. That the district is
judged first, and the clear form without its until bytes, is log entry 38. -/
def Obligations.OverridesSetModes : Prop :=
  ∀ (q : Request) (rest : List Request) (s : State), AtHead 10 6 q rest s →
    let d := nat8At q.payload 2
    let m := nat8At q.payload 3
    let day := word16At q.payload 4
    let minute := nat16At q.payload 6
    let past := s.mdu.running = true ∧
      (day.toNat < s.mdu.day.toNat ∨ day = s.mdu.day ∧ minute ≤ s.mdu.ms / 60000)
    (4 ≤ d → Replies .override s q .badIndex [] (begun rest s)) ∧
    (d < 4 → 2 < m → m ≠ 255 → Replies .override s q .invalid [] (begun rest s)) ∧
    (d < 4 → m ≤ 2 → 1439 < minute ∨ past → Replies .override s q .invalid [] (begun rest s)) ∧
    ∀ (k : District) (o : Option Override), d = k.val →
      (m = 255 ∧ o = none ∨ minute ≤ 1439 ∧ ¬ past ∧
        (m = 0 ∧ o = some ⟨.normal, day, minute⟩ ∨ m = 1 ∧ o = some ⟨.season, day, minute⟩ ∨
          m = 2 ∧ o = some ⟨.ban, day, minute⟩)) →
      ∃ t v, Replies .override s q .ok [] v ∧
        t = { begun rest s with mdu := { s.mdu with overrides := upd s.mdu.overrides k o } } ∧
        v = evaluateModes t ∧ ModesOnly t v ∧ ModesEvaluated v ∧
        (ModesSettled t → v = { t with mdu := { t.mdu with sources := v.mdu.sources } })

/-! ## Requests -/

/-- R183, R187: a request waits while the reply list is full; one whose payload does not fit its form, and
one of no kind, is INVALID; a slot above 7 is BAD_INDEX; a row whose kind is not the head's changes nothing
(log entry 5). That such an INVALID has no content, of ENTER SERVICE neither, is log entry 35. The form of a
WRITE is judged in `WritesStopAtFirstRefusal`. -/
def Obligations.RequestsAreCheckedFirst : Prop :=
  ∀ (q : Request) (rest : List Request) (s : State), s.mgr.fifo = q :: rest →
    let kind := nat8At q.payload 0
    (∀ x ∈ (.write, 2, 0) :: requestForms,
      4 ≤ s.rpt.replies.length ∨ kind ≠ x.2.1 → exec x.1 s = .next s) ∧
    (4 ≤ s.rpt.replies.length ∨ 1 ≤ kind ∧ kind ≤ 15 → exec .unknownRequestKind s = .next s) ∧
    (s.rpt.replies.length < 4 → 2 ≤ q.payload.length →
      (∀ x ∈ requestForms, kind = x.2.1 → q.payload.length ≠ 2 + x.2.2 →
        Replies x.1 s q .invalid [] (begun rest s)) ∧
      (∀ x ∈ slotForms, kind = x.2.1 → q.payload.length = 2 + x.2.2 → 8 ≤ nat8At q.payload 2 →
        Replies x.1 s q .badIndex [] (begun rest s)) ∧
      (kind = 0 ∨ 15 < kind → Replies .unknownRequestKind s q .invalid [] (begun rest s)))

/-- R184, R153, R33 to R35: READ returns whole entries up to the count, the 120 bytes and the table's end.
SNAPSHOT returns the newest cycle the two lists share: its number, the two results and W, or else the newest
result of each list; then the two stream states and the validity marks of feeder, bus and W. Neither changes
anything. The order and the presence bytes of SNAPSHOT are the model's inference (log entry 14). -/
def Obligations.ReadingChangesNothing : Prop :=
  (∀ (q : Request) (rest : List Request) (s : State), AtHead 1 3 q rest s →
    let n := nat8At q.payload 2
    let i := nat8At q.payload 3
    (n = 0 ∨ 21 < n → Replies .read s q .badTable [] (begun rest s)) ∧
    ∀ t : Table, tableOf n = some t →
      (t ≠ .declarations ∧ t.entries s ≤ i ∨ t = .declarations ∧ 31 < i →
        Replies .read s q .badIndex [] (begun rest s)) ∧
      (¬ (t ≠ .declarations ∧ t.entries s ≤ i ∨ t = .declarations ∧ 31 < i) → ∃ k : Nat,
        let es := ((List.range k).map fun j => t.read s (i + j)).flatten
        Replies .read s q .ok
          ([BitVec.ofNat 8 n, BitVec.ofNat 8 i, BitVec.ofNat 8 k, 0] ++ es) (begun rest s) ∧
        k ≤ nat8At q.payload 4 ∧ (∀ j, j < k → i + j < t.entries s) ∧ es.length ≤ 120 ∧
        (k = nat8At q.payload 4 ∨ t.entries s ≤ i + k ∨
          120 < es.length + (t.read s (i + k)).length))) ∧
  (∀ (q : Request) (rest : List Request) (f : Slot) (s : State), AtHead 4 1 q rest s →
    nat8At q.payload 2 = f.val →
    let own := (s.pheStream f.role).results
    let bus := (s.pheStream busRole).results
    let states := [BitVec.ofNat 8 (s.stream f.role).state.code, BitVec.ofNat 8 (s.stream busRole).state.code]
    let mark := fun (b : Bool) => (if b = true then 1 else 0 : Byte)
    let valid := fun (r : Role) (x : CycleResult) =>
      decide ((s.stream r).state = .locked ∧ x.patched = false)
    let newest := fun (width : Nat) (l : List CycleResult) => match l with
      | [] => 0 :: List.replicate width 0
      | x :: _ => 1 :: x.bytes
    (∀ r b, commonResult bus own = some (r, b) → Replies .snapshot s q .ok
      ((1 :: cycleBytes r.cycle) ++ (1 :: r.bytes) ++ (1 :: b.bytes) ++ (1 :: i32 (residualPower r b)) ++
        states ++ [mark (valid f.role r), mark (valid busRole b),
          mark (valid f.role r && valid busRole b && !r.channels[3].overrange &&
            !b.channels[3].overrange)]) (begun rest s)) ∧
    (commonResult bus own = none → Replies .snapshot s q .ok
      ([0, 0, 0] ++ newest 49 own ++ newest 31 bus ++ [0, 0, 0, 0, 0] ++ states ++ [0, 0, 0])
      (begun rest s))) ∧
  ∀ (a b c d : List CycleResult) (r p : CycleResult),
    (∀ x ∈ a, ∀ y ∈ c ++ p :: d, y.cycle ≠ x.cycle) → (∀ y ∈ c, y.cycle ≠ r.cycle) →
    (p.cycle = r.cycle → commonResult (c ++ p :: d) (a ++ r :: b) = some (r, p)) ∧
    commonResult (c ++ p :: d) a = none

/-- R186, R18: STATUS reports the counters and flags as they stand, then clears the latch-high flags and
sets the dropped-since-read flags high. -/
def Obligations.StatusReportsAndRearms : Prop :=
  ∀ (q : Request) (rest : List Request) (s : State), AtHead 3 0 q rest s →
    ∃ v, Replies .status s q .ok
        ([(if s.mgr.device = .inService then 1 else 0), BitVec.ofNat 8 s.rpt.ownAddress.toNat,
            BitVec.ofNat 8 s.mgr.destination.toNat] ++ flag s.siu.activated ++
          u16 s.mgr.overflow ++ u16 s.mgr.dropped ++ u8 s.mgr.notices.length ++ u16 s.siu.foreign ++
          (allRoles.map fun r => u8 (s.stream r).state.code ++ u16 (s.stream r).gaps ++
            u16 (s.stream r).duplicates ++ u16 (s.stream r).resyncs ++
            flag (s.stream r).notDropped).flatten ++
          u16 s.rpt.crcErrors ++ u16 s.rpt.formatErrors ++ u16 s.rpt.overflows ++
          flag s.rpt.overflowFlag ++ flag s.oru.echoMissing ++ u16 s.mdu.invalidTime) v ∧
      v = { begun rest s with
        rpt := { s.rpt with overflowFlag := false }
        oru := { s.oru with echoMissing := false }
        siu := { s.siu with streams := v.siu.streams } } ∧
      ∀ r : Role, v.stream r = { s.stream r with notDropped := true }

/-- R185, R200: a WRITE whose payload ends before table, index and count is INVALID with nothing stored (log
entry 19), its reply holding 0 for the table or index it lacks (log entry 36). A WRITE of no writable table is
BAD_TABLE; one whose entries do not fit is INVALID (log entry 19), also of declarations at another index than 0 (log entry 38); otherwise its entries are stored in
order up to the first refused one, and the reply carries the number stored. The modes are evaluated once after
season windows or declarations. -/
def Obligations.WritesStopAtFirstRefusal : Prop :=
  (∀ (q : Request) (rest : List Request) (n : Nat) (s : State), AtHead 2 n q rest s → n < 3 →
    Replies .write s q .invalid ((q.payload.drop 2 ++ [0, 0]).take 2 ++ [0, 0]) (begun rest s)) ∧
  ∀ (q : Request) (rest : List Request) (n : Nat) (s : State), AtHead 2 (3 + n) q rest s →
    let i := nat8At q.payload 3
    let count := nat8At q.payload 4
    let content := fun (k : Nat) => [byteAt q.payload 2, byteAt q.payload 3, BitVec.ofNat 8 k, 0]
    (∀ t, tableOf (nat8At q.payload 2) = t → t.bind Table.writeSize = none →
      Replies .write s q .badTable (content 0) (begun rest s)) ∧
    ∀ (t : Table) (size : Nat), tableOf (nat8At q.payload 2) = some t → t.writeSize = some size →
      (count = 0 ∨ n ≠ count * size ∨ 232 < n →
        Replies .write s q .invalid (content 0) (begun rest s)) ∧
      (count ≠ 0 → n = count * size → n ≤ 232 → t = .declarations → i ≠ 0 →
        Replies .write s q .badIndex (content 0) (begun rest s)) ∧
      (count ≠ 0 → n = count * size → n ≤ 232 → (t = .declarations → i = 0) →
        ∀ (a b : List (List Byte)) (u : State),
          q.payload.drop 5 = (a ++ b).flatten → (∀ e ∈ a ++ b, e.length = size) →
          storesTo t i a (begun rest s) u →
          let after := if (t = .seasonWindows ∨ t = .declarations) ∧ a ≠ [] then evaluateModes u
            else u
          (b = [] → Replies .write s q .ok (content a.length) after) ∧
          ∀ e c code, b = e :: c → t.store (i + a.length) e u = .refused code →
            Replies .write s q code (content a.length) after)

/-- R2, R62, R64, R67, R69, R70, R123, R124, R152, R154: what the owners of the tables check of one entry. An
index beyond the table is BAD_INDEX (R185), whatever the entry's fields (log entry 38). The effects of a stored
feeder record: its groups, element state and sequencer as it leaves or joins service (R70, R38, R120, R76), FIRE
by its new district (R161), the bus mode (R165). The model's choices: a feeder record that stays in service is
held to its district and the entry of the present mode alone, also while a change is pending, and a curve is in
use by the mode maps alone (log entry 30); the order of a feeder record's effects (log entry 21). -/
def Obligations.EntriesAreGuarded : Prop :=
  (∀ (i : Fin 17) (e : List Byte) (s : State),
    let n := nat8At e 0
    let bad := 62 < n ∨ n ≠ 0 ∧ (n = s.rpt.ownAddress.toNat ∨
      ∃ j : Fin 17, j ≠ i ∧ s.siu.staged[j].toNat = n)
    (bad → Table.store i.val e s .stagedMap = .refused .invalid) ∧
    (¬ bad → Table.store i.val e s .stagedMap = .stored { s with siu := { s.siu with
      staged := upd s.siu.staged i (BitVec.ofNat 6 n) } })) ∧
  (∀ (i : Fin 8) (e : List Byte) (s : State),
    let c := Curve.ofBytes e
    let inUse := ∃ (f : Slot) (m : Fin 3), (s.feeder f).inService = true ∧
      let g := s.group f (s.feeder f).modeMap[m]
      g.phIt.pickup ≠ 0 ∧ g.phIt.curve = i.val ∨ g.efIt.pickup ≠ 0 ∧ g.efIt.curve = i.val
    (16 < nat8At e 0 → Table.store i.val e s .curves = .refused .invalid) ∧
    (nat8At e 0 ≤ 16 → c.valid = false → inUse → Table.store i.val e s .curves = .refused .inUse) ∧
    (nat8At e 0 ≤ 16 → c.valid = true ∨ ¬ inUse → Table.store i.val e s .curves =
      .stored { s with gst := { s.gst with curves := upd s.gst.curves i c } })) ∧
  (∀ (f : Slot) (g : GroupNo) (e : List Byte) (s : State),
    let r := GroupRecord.ofBytes e
    let active := s.activeGroup f = some g ∨ s.pendingGroup f = some g
    let named := (s.feeder f).inService = true ∧ ∃ m : Fin 3, (s.feeder f).modeMap[m] = g
    let i := 4 * f.val + g.val
    (active → Table.store i e s .groups = .refused .active) ∧
    (¬ active → named → r.valid s.gst.curves = false →
      Table.store i e s .groups = .refused .invalid) ∧
    (¬ active → ¬ named ∨ r.valid s.gst.curves = true → Table.store i e s .groups =
      .stored { s with gst := { s.gst with groups := upd s.gst.groups (State.groupIndex f g) r } })) ∧
  (∀ (f : Slot) (e : List Byte) (s : State),
    (FeederRecord.ofBytes e = none → Table.store f.val e s .feeders = .refused .invalid) ∧
    ∀ r, FeederRecord.ofBytes e = some r →
      let old := s.feeder f
      let bad := (∃ m : Fin 3, groupValidAt s f r.modeMap[m] = false) ∨
        s.mgr.device = .inService ∧ r.inService = true ∧ old.inService = false ∧
          s.samplingAddress f.role = 0
      let mode := (s.feederMode f).index
      let active := s.mgr.device = .inService ∧ old.inService = true ∧ r.inService = true ∧
        (r.district ≠ old.district ∨ r.modeMap[mode] ≠ old.modeMap[mode])
      (bad → Table.store f.val e s .feeders = .refused .invalid) ∧
      (¬ bad → active → Table.store f.val e s .feeders = .refused .active) ∧
      (¬ bad → ¬ active → ∃ v w t,
        let a := s.setFeeder f r
        let left := (a.setElement f ElementState.cleared).setGroups f none none
        let g := r.modeMap[(s.mdu.modes[r.district]).index]
        let joined := { a.setGroups f (some g) none with raised :=
          s.raised ++ [⟨some f, s.tod, none, .groupChange (s.activeGroup f) g .joining none⟩] }
        let leaves := old.inService = true ∧ r.inService = false
        let joins := old.inService = false ∧ r.inService = true
        Table.store f.val e s .feeders = .stored t ∧ t.feeder f = r ∧
        (∀ k, k ≠ f → t.feeder k = s.feeder k) ∧
        (leaves → s.mgr.device = .configuring → v = a.setElement f ElementState.cleared) ∧
        (leaves → s.mgr.device = .inService →
          (MidSequence (s.seq f) → v = withLockout .service f left) ∧
          (¬ MidSequence (s.seq f) → v = left.setSeq f (seqLeft (s.seq f))) ∧
          t.activeGroup f = none ∧ t.pendingGroup f = none ∧ t.element f = ElementState.cleared) ∧
        (joins → s.mgr.device = .configuring → v = a) ∧
        (joins → s.mgr.device = .inService →
          let ends := (s.seq f).state = .dead ∧ (s.group f g).maxShots < (s.seq f).shot
          (ends → v = withLockout .shots f joined) ∧ (¬ ends → v = joined) ∧
          t.activeGroup f = some g) ∧
        (old.inService = r.inService → v = a) ∧
        (r.district = old.district → w = v) ∧ (r.district ≠ old.district → FireAligned f v w) ∧
        t = if old.inService = r.inService ∧ old.district = r.district then w else updateBusMode w)) ∧
  (∀ (i : Nat) (e : List Byte) (s : State),
    (17 ≤ i → Table.store i e s .stagedMap = .refused .badIndex) ∧
    (8 ≤ i → Table.store i e s .curves = .refused .badIndex) ∧
    (32 ≤ i → Table.store i e s .groups = .refused .badIndex) ∧
    (8 ≤ i → Table.store i e s .feeders = .refused .badIndex) ∧
    (1 ≤ i → Table.store i e s .earthSettings = .refused .badIndex) ∧
    (1 ≤ i → Table.store i e s .huntOrder = .refused .badIndex) ∧
    (4 ≤ i → Table.store i e s .seasonWindows = .refused .badIndex)) ∧
  (∀ (e : List Byte) (s : State),
    let good := (16 ≤ nat16At e 0 ∧ nat16At e 0 ≤ 46339) ∧ (1 ≤ nat16At e 2 ∧ nat16At e 2 ≤ 3000) ∧
      (4 ≤ nat8At e 4 ∧ nat8At e 4 ≤ 250) ∧ (1 ≤ nat8At e 5 ∧ nat8At e 5 ≤ nat8At e 4) ∧
      1 ≤ nat16At e 6 ∧ (5 ≤ nat16At e 8 ∧ nat16At e 8 ≤ 500) ∧
      (5 ≤ nat16At e 10 ∧ nat16At e 10 ≤ 500) ∧
      ∀ m : Mode, let k := 12 + 6 * m.index.val
        nat8At e k ≤ 1 ∧ nat8At e (k + 1) ≤ 1 ∧ 10 ≤ nat16At e (k + 2) ∧ nat16At e (k + 2) ≤ 3600
    (¬ good → Table.store 0 e s .earthSettings = .refused .invalid) ∧
    (good → ∃ perMode, Table.store 0 e s .earthSettings = .stored { s with efs := { s.efs with
        settings := ⟨nat16At e 0, nat16At e 2, nat8At e 4, nat8At e 5, nat16At e 6, nat16At e 8,
          nat16At e 10, perMode⟩ } } ∧
      ∀ m : Mode, let k := 12 + 6 * m.index.val
        perMode[m.index] = ⟨decide (nat8At e k = 1),
          if nat8At e (k + 1) = 1 then .busTrip else .alarm, nat16At e (k + 2), nat16At e (k + 4)⟩)) ∧
  (∀ (e : List Byte) (s : State),
    let listed := (e.drop 1).take (nat8At e 0)
    let good := nat8At e 0 ≤ 8 ∧ (∀ b ∈ listed, b.toNat ≤ 7) ∧ listed.Nodup
    (¬ good → Table.store 0 e s .huntOrder = .refused .invalid) ∧
    (good → ∃ order : List Slot, order.map Fin.val = listed.map BitVec.toNat ∧
      Table.store 0 e s .huntOrder =
        .stored { s with efs := { s.efs with huntOrder := order } })) ∧
  (∀ (d : District) (e : List Byte) (s : State),
    (2 < nat8At e 4 → Table.store d.val e s .seasonWindows = .refused .invalid) ∧
    ∀ m : Mode, nat8At e 4 = m.index.val → Table.store d.val e s .seasonWindows =
      .stored { s with mdu := { s.mdu with
        windows := upd s.mdu.windows d ⟨word16At e 0, word16At e 2, m⟩ } }) ∧
  (∀ (i : Nat) (e : List Byte) (s : State),
    let level := nat8At e 3
    let good := nat8At e 2 ≤ 3 ∧ nat16At e 4 ≤ 1439 ∧ nat16At e 6 ≤ 1440 ∧
      nat16At e 4 < nat16At e 6 ∧ (level = 1 ∨ level = 2 ∨ level = 255)
    (¬ good → Table.store i e s .declarations = .refused .invalid) ∧
    (good → level = 255 → Table.store i e s .declarations =
      .stored { s with mdu := { s.mdu with declarations := s.mdu.declarations.filter fun x =>
        !(x.day == word16At e 0 && x.district.val == nat8At e 2 &&
          x.startMinute == nat16At e 4) } }) ∧
    (∀ d : District, good → level ≠ 255 → nat8At e 2 = d.val →
      DeclarationWrite.ofBytes e = some (.put ⟨d, word16At e 0, nat16At e 4, nat16At e 6,
        if level = 1 then .season else .ban⟩))) ∧
  ∀ (e : List Byte) (d : Declaration) (s : State),
    DeclarationWrite.ofBytes e = some (.put d) →
    let held := ∃ x ∈ s.mdu.declarations, x.day = d.day ∧ x.district = d.district ∧
      x.startMinute = d.startMinute
    (¬ held → 32 ≤ s.mdu.declarations.length →
      Table.store 0 e s .declarations = .refused .full) ∧
    (held ∨ s.mdu.declarations.length < 32 → ∃ ds,
      Table.store 0 e s .declarations =
        .stored { s with mdu := { s.mdu with declarations := ds } } ∧ d ∈ ds ∧
      (CalendarSound s → ∀ x, x ∈ ds ↔ x = d ∨ x ∈ s.mdu.declarations ∧
        ¬ (x.day = d.day ∧ x.district = d.district ∧ x.startMinute = d.startMinute)))

/-- R187, R89 to R93, R116: OPERATE asks ORU for an order of origin OPERATOR; a taken or merged OPEN, and a
CLOSE taken in DEAD, end the sequence. An OPEN that supersedes a restore CLOSE of the feeder under test has EFS
take the restore as failed first (R139; the order of the reports is log entry 9). That a refused OPEN without a switch unit raises ORDER_FAIL is log entry
39, that the slot is judged before the kind byte log entry 19. -/
def Obligations.OperateAsksOrders : Prop :=
  ∀ (q : Request) (rest : List Request) (f : Slot) (s : State), AtHead 5 2 q rest s →
    nat8At q.payload 2 = f.val →
    let b := nat8At q.payload 3
    let t := begun rest s
    let ready := s.mgr.device = .inService ∧ s.switchAddress f ≠ 0 ∧ s.holds f .tag = false ∧
      s.holds f .local = false
    let ends := fun (u : State) =>
      if s.acting f = true ∧ (s.seq f).state ≠ .lockout then withLockout .operator f u else u
    (1 < b → Replies .operate s q .invalid [] t) ∧
    (b ≤ 1 → s.mgr.device = .configuring → Replies .operate s q .state [] t) ∧
    (b ≤ 1 → s.mgr.device = .inService → s.switchAddress f ≠ 0 →
      s.holds f .tag = true ∨ s.holds f .local = true → Replies .operate s q .refused [] t) ∧
    (b = 0 → s.mgr.device = .inService → s.switchAddress f = 0 → Replies .operate s q .state []
      { t with raised := s.raised ++ [⟨some f, s.tod, none,
        .orderFail .open .operator ⟨false, false, false, false⟩ none (s.switch f).failCount
          (s.switch f).health⟩] }) ∧
    (b = 1 → s.mgr.device = .inService → s.switchAddress f = 0 →
      Replies .operate s q .state [] t) ∧
    (b = 1 → ready → (s.order f).state ≠ .idle → Replies .operate s q .busy [] t) ∧
    (b = 1 → ready → (s.order f).state = .idle → Replies .operate s q .ok [fresh s f]
      (if s.acting f = true ∧ (s.seq f).state = .dead then
        withLockout .operator f (withRequest .close .operator f t)
      else withRequest .close .operator f t)) ∧
    (b = 0 → ready → (s.order f).state = .idle →
      Replies .operate s q .ok [fresh s f] (ends (withRequest .open .operator f t))) ∧
    (b = 0 → ready → (s.order f).state ≠ .idle → (s.order f).kind = .close →
      let restoring := s.efs.record.state = .hunting ∧ s.efs.hunt.underTest = some f ∧
        s.efs.hunt.step = some .restoring ∧ s.efs.hunt.order = some (s.order f).number
      (¬ restoring → Replies .operate s q .ok [fresh s f] (ends (withRequest .open .operator f t))) ∧
      (restoring → ∃ w, w = restoreFailed f (withRequest .open .operator f t) ∧
        Replies .operate s q .ok [fresh s f]
          (if s.acting f = true ∧ (w.seq f).state ≠ .lockout then withLockout .operator f w else w))) ∧
    (b = 0 → ready → (s.order f).state ≠ .idle → (s.order f).kind = .open →
      Replies .operate s q .ok [(s.order f).number] (ends (t.setOrder f { s.order f with
        joined := if (s.order f).origin = .operator then (s.order f).joined
          else { (s.order f).joined with operator := true } })))

/-- R192: ENTER SERVICE is refused in service and at the first failing feeder; otherwise the part goes in
service with each in-service feeder on the group mapped for its district's mode. Of a feeder that fails both
checks the cause GROUP is log entry 33. -/
def Obligations.EnterServiceChecksFeeders : Prop :=
  ∀ (q : Request) (rest : List Request) (s : State), AtHead 13 0 q rest s →
    let invalid := fun (f : Slot) => (s.feeder f).inService = true ∧
      ∃ m : Fin 3, groupValidAt s f (s.feeder f).modeMap[m] = false
    let unmapped := fun (f : Slot) => (s.feeder f).inService = true ∧
      (if s.siu.activated = true then s.samplingAddress f.role else s.siu.staged[f.role]) = 0
    (s.mgr.device = .inService → Replies .enterService s q .state [] (begun rest s)) ∧
    (∀ f, s.mgr.device = .configuring → (∀ g, g < f → ¬ invalid g ∧ ¬ unmapped g) →
      (invalid f → Replies .enterService s q .invalid [BitVec.ofNat 8 f.val, 0] (begun rest s)) ∧
      (¬ invalid f → unmapped f →
        Replies .enterService s q .invalid [BitVec.ofNat 8 f.val, 1] (begun rest s))) ∧
    (s.mgr.device = .configuring → (∀ f, ¬ invalid f ∧ ¬ unmapped f) →
      ∃ v, Replies .enterService s q .ok [] v ∧
        v.mgr = { s.mgr with fifo := rest, device := .inService, destination := q.source } ∧
        (s.siu.activated = true → v.siu = s.siu ∧ v.phe = s.phe) ∧
        (s.siu.activated = false → v.siu.active = s.siu.staged ∧
          ∀ r, (v.stream r).state = .absent ∧ (v.stream r).address = s.siu.staged[r.val] ∧
            (v.pheStream r).results = []) ∧
        v.siu.activated = true ∧ v.siu.staged = s.siu.staged ∧ ModesEvaluated v ∧
        (∀ f, (s.feeder f).inService = true →
          v.activeGroup f = some (s.feeder f).modeMap[(v.feederMode f).index] ∧
          v.pendingGroup f = none) ∧
        (∀ f, (s.feeder f).inService = false →
          v.activeGroup f = s.activeGroup f ∧ v.pendingGroup f = s.pendingGroup f) ∧
        (∀ f, v.seq f = { s.seq f with reasons := (v.seq f).reasons }) ∧
        v.elu = s.elu ∧ v.efs = s.efs ∧ v.gst.curves = s.gst.curves ∧
        v.gst.groups = s.gst.groups ∧ v.gst.feeders = s.gst.feeders ∧ v.rpt = s.rpt ∧
        v.mdu = { s.mdu with
          modes := v.mdu.modes, sources := v.mdu.sources, busMode := v.mdu.busMode })

/-- R193, R120, R148, R38, R72: LEAVE SERVICE. A hunt ends without a restore close: the feeder under test loses
HUNT, and one that is not CLOSED or has an OPEN in flight is left open with EARTH and its lockout demanded. Every
sequencer then follows R120, and EFS is QUIET. That no feeder is under test from then on is read from
R135 (log entry 17). -/
def Obligations.LeaveServiceEndsTheWork : Prop :=
  ∀ (q : Request) (rest : List Request) (s : State), AtHead 14 0 q rest s →
    let e := s.efs.record
    let h := s.efs.hunt
    let hunting := e.state = .hunting
    (s.mgr.device = .configuring → Replies .leaveService s q .state [] (begun rest s)) ∧
    (s.mgr.device = .inService → ∃ v, Replies .leaveService s q .ok [] v ∧
      v.mgr = { s.mgr with fifo := rest, device := .configuring } ∧
      (∀ f, v.activeGroup f = none ∧ v.pendingGroup f = none ∧
        v.element f = ElementState.cleared ∧ v.trip f = s.trip f) ∧
      v.efs.record = { e with
        state := .quiet, countdown := none, identified := none, phase := none, awaited := none
        busTripList := .replicate 8 none } ∧
      v.efs.hunt = { h with
        underTest := none, step := none, countdown := none, order := none
        abortCause := if hunting then .service else h.abortCause } ∧
      (e.state = .quiet → v.efs.result = s.efs.result) ∧
      (e.state ≠ .quiet →
        let r : EarthResult := ⟨.aborted, if hunting then h.underTest else none, e.episodeTod, s.tod,
          e.votes, e.candidates⟩
        v.efs.result = r ∧ ⟨none, s.tod, none, .efResult r⟩ ∈ v.raised) ∧
      (∀ f, ¬ (hunting ∧ h.underTest = some f) →
        v.seq f = seqLeft (s.seq f) ∧
        (MidSequence (s.seq f) → lockoutNotice .service f (s.seq f) s ∈ v.raised)) ∧
      (∀ f, hunting → h.underTest = some f →
        let leftOpen := (s.switch f).position ≠ .closed ∨
          (s.order f).state ≠ .idle ∧ (s.order f).kind = .open
        let p := if leftOpen then earthLocked (s.acting f) (s.seq f) else s.seq f
        let k := { p with reasons := { p.reasons with hunt := false } }
        v.seq f = seqLeft k ∧
        (MidSequence k → lockoutNotice .service f k s ∈ v.raised) ∧
        (leftOpen → s.acting f = true → (s.seq f).state ≠ .lockout →
          lockoutNotice p.lockoutCause f
            { s.seq f with reasons := { (s.seq f).reasons with earth := true } } s ∈ v.raised)) ∧
      v.oru = s.oru ∧ v.siu = s.siu ∧ v.phe = s.phe ∧ v.mdu = s.mdu ∧ v.rpt = s.rpt ∧
      v.gst.curves = s.gst.curves ∧ v.gst.groups = s.gst.groups ∧
      v.gst.feeders = s.gst.feeders ∧ v.efs.settings = s.efs.settings ∧
      v.efs.huntOrder = s.efs.huntOrder)

/-- R194, R3, R20, R99, R104, R121, R148, R180: RESTART. -/
def Obligations.RestartClearsTheWork : Prop :=
  ∀ (q : Request) (rest : List Request) (s : State), AtHead 15 0 q rest s →
    ∃ v, Replies .restart s q .ok [] v ∧
      v.rpt = { s.rpt with forward := [], replies := [] } ∧
      v.mgr = { s.mgr with fifo := [], notices := [], device := .configuring } ∧
      v.siu.staged = s.siu.staged ∧ v.siu.active = s.siu.staged ∧ v.siu.activated = true ∧
      v.siu.foreign = s.siu.foreign ∧
      (∀ r, v.stream r = ⟨s.siu.staged[r.val], .absent, 0, 0, 0, none, (s.stream r).notDropped,
          (s.stream r).gaps, (s.stream r).duplicates, (s.stream r).resyncs⟩ ∧
        (v.pheStream r).window.stored = 0 ∧ (v.pheStream r).present = none ∧
        (v.pheStream r).results = []) ∧
      (∀ f, v.element f = ElementState.cleared ∧ v.trip f = s.trip f ∧
        v.activeGroup f = none ∧ v.pendingGroup f = none ∧ v.order f = idle (s.order f)) ∧
      (∀ f, v.switch f = { s.switch f with
        supervision := if s.siu.staged[9 + f.val] = 0 then none else some 1000
        health := if (s.switch f).health = .failed then .failed
          else if s.siu.staged[9 + f.val] = 0 then .unreachable else .reachable
        position := positionOf (s.switch f).reported (idle (s.order f)) }) ∧
      (∀ f, (v.seq f).reasons = ⟨decide (s.feederMode f = .ban), (s.switch f).tag,
        (s.switch f).loc, true, decide ((v.switch f).health ≠ .reachable), false,
        (s.seq f).reasons.earth, (s.seq f).reasons.operator⟩) ∧
      (∀ f, let q := { s.seq f with reasons := (v.seq f).reasons }
        ((s.seq f).state = .opening ∨ (s.seq f).state = .dead ∨ (s.seq f).state = .closing →
          v.seq f = lockedOut .service q ∧ lockoutNotice .service f q s ∈ v.raised) ∧
        ((s.seq f).state = .lockout → v.seq f = { q with
          dead := none, reclaim := none, endCause := .none, awaited := none }) ∧
        ((s.seq f).state = .ready ∨ (s.seq f).state = .reclaim →
          v.seq f = ⟨.ready, 0, .none, none, none, none, .none, (v.seq f).reasons⟩)) ∧
      v.efs.record = EfsRecord.powerOn ∧ v.efs.hunt.underTest = none ∧
      v.efs.result = s.efs.result ∧ v.efs.settings = s.efs.settings ∧
      v.efs.huntOrder = s.efs.huntOrder ∧ v.mdu = s.mdu ∧ v.gst.curves = s.gst.curves ∧
      v.gst.groups = s.gst.groups ∧ v.gst.feeders = s.gst.feeders ∧
      v.oru.echoMissing = s.oru.echoMissing ∧ v.pending = s.pending
end

