-- ==== Sys2Proof/Laws/State.lean ====
section
/-! SUPPORT. What each writer of Machine/Ops.lean writes and what it leaves: one lemma for each block and
each update, true by `rfl`, so that no proof unfolds a record update. -/

namespace Sys2Proof.Machine

/-! ## Vectors -/

@[simp] theorem upd_val {α : Type} {n : Nat} (v : Vector α n) (i : Fin n) (x : α) (k : Nat) (h : k < n) :
    (upd v i x)[k] = if i.val = k then x else v[k] := by
  simp only [upd, Vector.getElem_set]

theorem upd_get {α : Type} {n : Nat} (v : Vector α n) (i j : Fin n) (x : α) :
    (upd v i x)[j] = if i = j then x else v[j] := by
  simp only [Fin.getElem_fin, upd_val, Fin.ext_iff]

theorem upd_same {α : Type} {n : Nat} (v : Vector α n) (i : Fin n) (x : α) : (upd v i x)[i] = x := by
  simp

theorem upd_other {α : Type} {n : Nat} (v : Vector α n) {i j : Fin n} (x : α) (h : i ≠ j) :
    (upd v i x)[j] = v[j] := by
  rw [upd_get, if_neg h]

@[simp] theorem mapV_val {α β : Type} {n : Nat} (g : α → β) (v : Vector α n) (k : Nat) (h : k < n) :
    (mapV g v)[k] = g v[k] := by
  rcases v with ⟨⟨l⟩, h⟩
  simp [mapV]

theorem mapV_get {α β : Type} {n : Nat} (g : α → β) (v : Vector α n) (i : Fin n) :
    (mapV g v)[i] = g v[i] := by
  simp

theorem upd_self {α : Type} {n : Nat} (v : Vector α n) (i : Fin n) : upd v i v[i] = v := by
  simp [upd]

namespace State

/-! ## Blocks -/

section
variable (r : Role) (x : StreamRecord) (s : State)
@[simp] theorem setStream_rpt : (setStream r x s).rpt = s.rpt := rfl
@[simp] theorem setStream_phe : (setStream r x s).phe = s.phe := rfl
@[simp] theorem setStream_elu : (setStream r x s).elu = s.elu := rfl
@[simp] theorem setStream_gst : (setStream r x s).gst = s.gst := rfl
@[simp] theorem setStream_oru : (setStream r x s).oru = s.oru := rfl
@[simp] theorem setStream_rcs : (setStream r x s).rcs = s.rcs := rfl
@[simp] theorem setStream_efs : (setStream r x s).efs = s.efs := rfl
@[simp] theorem setStream_mdu : (setStream r x s).mdu = s.mdu := rfl
@[simp] theorem setStream_mgr : (setStream r x s).mgr = s.mgr := rfl
@[simp] theorem setStream_due : (setStream r x s).due = s.due := rfl
@[simp] theorem setStream_raised : (setStream r x s).raised = s.raised := rfl
@[simp] theorem setStream_pending : (setStream r x s).pending = s.pending := rfl
@[simp] theorem setStream_siu_staged : (setStream r x s).siu.staged = s.siu.staged := rfl
@[simp] theorem setStream_siu_active : (setStream r x s).siu.active = s.siu.active := rfl
@[simp] theorem setStream_siu_activated : (setStream r x s).siu.activated = s.siu.activated := rfl
@[simp] theorem setStream_siu_foreign : (setStream r x s).siu.foreign = s.siu.foreign := rfl
end

section
variable (r : Role) (x : PheStream) (s : State)
@[simp] theorem setPheStream_rpt : (setPheStream r x s).rpt = s.rpt := rfl
@[simp] theorem setPheStream_siu : (setPheStream r x s).siu = s.siu := rfl
@[simp] theorem setPheStream_elu : (setPheStream r x s).elu = s.elu := rfl
@[simp] theorem setPheStream_gst : (setPheStream r x s).gst = s.gst := rfl
@[simp] theorem setPheStream_oru : (setPheStream r x s).oru = s.oru := rfl
@[simp] theorem setPheStream_rcs : (setPheStream r x s).rcs = s.rcs := rfl
@[simp] theorem setPheStream_efs : (setPheStream r x s).efs = s.efs := rfl
@[simp] theorem setPheStream_mdu : (setPheStream r x s).mdu = s.mdu := rfl
@[simp] theorem setPheStream_mgr : (setPheStream r x s).mgr = s.mgr := rfl
@[simp] theorem setPheStream_due : (setPheStream r x s).due = s.due := rfl
@[simp] theorem setPheStream_raised : (setPheStream r x s).raised = s.raised := rfl
@[simp] theorem setPheStream_pending : (setPheStream r x s).pending = s.pending := rfl
end

section
variable (f : Slot) (x : ElementState) (s : State)
@[simp] theorem setElement_rpt : (setElement f x s).rpt = s.rpt := rfl
@[simp] theorem setElement_siu : (setElement f x s).siu = s.siu := rfl
@[simp] theorem setElement_phe : (setElement f x s).phe = s.phe := rfl
@[simp] theorem setElement_gst : (setElement f x s).gst = s.gst := rfl
@[simp] theorem setElement_oru : (setElement f x s).oru = s.oru := rfl
@[simp] theorem setElement_rcs : (setElement f x s).rcs = s.rcs := rfl
@[simp] theorem setElement_efs : (setElement f x s).efs = s.efs := rfl
@[simp] theorem setElement_mdu : (setElement f x s).mdu = s.mdu := rfl
@[simp] theorem setElement_mgr : (setElement f x s).mgr = s.mgr := rfl
@[simp] theorem setElement_due : (setElement f x s).due = s.due := rfl
@[simp] theorem setElement_raised : (setElement f x s).raised = s.raised := rfl
@[simp] theorem setElement_pending : (setElement f x s).pending = s.pending := rfl
@[simp] theorem setElement_elu_trips : (setElement f x s).elu.trips = s.elu.trips := rfl
end

section
variable (f : Slot) (x : TripRecord) (s : State)
@[simp] theorem setTrip_rpt : (setTrip f x s).rpt = s.rpt := rfl
@[simp] theorem setTrip_siu : (setTrip f x s).siu = s.siu := rfl
@[simp] theorem setTrip_phe : (setTrip f x s).phe = s.phe := rfl
@[simp] theorem setTrip_gst : (setTrip f x s).gst = s.gst := rfl
@[simp] theorem setTrip_oru : (setTrip f x s).oru = s.oru := rfl
@[simp] theorem setTrip_rcs : (setTrip f x s).rcs = s.rcs := rfl
@[simp] theorem setTrip_efs : (setTrip f x s).efs = s.efs := rfl
@[simp] theorem setTrip_mdu : (setTrip f x s).mdu = s.mdu := rfl
@[simp] theorem setTrip_mgr : (setTrip f x s).mgr = s.mgr := rfl
@[simp] theorem setTrip_due : (setTrip f x s).due = s.due := rfl
@[simp] theorem setTrip_raised : (setTrip f x s).raised = s.raised := rfl
@[simp] theorem setTrip_pending : (setTrip f x s).pending = s.pending := rfl
@[simp] theorem setTrip_elu_elements : (setTrip f x s).elu.elements = s.elu.elements := rfl
end

section
variable (f : Slot) (x : FeederRecord) (s : State)
@[simp] theorem setFeeder_rpt : (setFeeder f x s).rpt = s.rpt := rfl
@[simp] theorem setFeeder_siu : (setFeeder f x s).siu = s.siu := rfl
@[simp] theorem setFeeder_phe : (setFeeder f x s).phe = s.phe := rfl
@[simp] theorem setFeeder_elu : (setFeeder f x s).elu = s.elu := rfl
@[simp] theorem setFeeder_oru : (setFeeder f x s).oru = s.oru := rfl
@[simp] theorem setFeeder_rcs : (setFeeder f x s).rcs = s.rcs := rfl
@[simp] theorem setFeeder_efs : (setFeeder f x s).efs = s.efs := rfl
@[simp] theorem setFeeder_mdu : (setFeeder f x s).mdu = s.mdu := rfl
@[simp] theorem setFeeder_mgr : (setFeeder f x s).mgr = s.mgr := rfl
@[simp] theorem setFeeder_due : (setFeeder f x s).due = s.due := rfl
@[simp] theorem setFeeder_raised : (setFeeder f x s).raised = s.raised := rfl
@[simp] theorem setFeeder_pending : (setFeeder f x s).pending = s.pending := rfl
@[simp] theorem setFeeder_gst_curves : (setFeeder f x s).gst.curves = s.gst.curves := rfl
@[simp] theorem setFeeder_gst_groups : (setFeeder f x s).gst.groups = s.gst.groups := rfl
@[simp] theorem setFeeder_gst_activeGroup : (setFeeder f x s).gst.activeGroup = s.gst.activeGroup := rfl
@[simp] theorem setFeeder_gst_pendingGroup : (setFeeder f x s).gst.pendingGroup = s.gst.pendingGroup := rfl
end

section
variable (f : Slot) (a p : Option GroupNo) (s : State)
@[simp] theorem setGroups_rpt : (setGroups f a p s).rpt = s.rpt := rfl
@[simp] theorem setGroups_siu : (setGroups f a p s).siu = s.siu := rfl
@[simp] theorem setGroups_phe : (setGroups f a p s).phe = s.phe := rfl
@[simp] theorem setGroups_elu : (setGroups f a p s).elu = s.elu := rfl
@[simp] theorem setGroups_oru : (setGroups f a p s).oru = s.oru := rfl
@[simp] theorem setGroups_rcs : (setGroups f a p s).rcs = s.rcs := rfl
@[simp] theorem setGroups_efs : (setGroups f a p s).efs = s.efs := rfl
@[simp] theorem setGroups_mdu : (setGroups f a p s).mdu = s.mdu := rfl
@[simp] theorem setGroups_mgr : (setGroups f a p s).mgr = s.mgr := rfl
@[simp] theorem setGroups_due : (setGroups f a p s).due = s.due := rfl
@[simp] theorem setGroups_raised : (setGroups f a p s).raised = s.raised := rfl
@[simp] theorem setGroups_pending : (setGroups f a p s).pending = s.pending := rfl
@[simp] theorem setGroups_gst_curves : (setGroups f a p s).gst.curves = s.gst.curves := rfl
@[simp] theorem setGroups_gst_groups : (setGroups f a p s).gst.groups = s.gst.groups := rfl
@[simp] theorem setGroups_gst_feeders : (setGroups f a p s).gst.feeders = s.gst.feeders := rfl
end

section
variable (f : Slot) (x : SwitchRecord) (s : State)
@[simp] theorem setSwitch_rpt : (setSwitch f x s).rpt = s.rpt := rfl
@[simp] theorem setSwitch_siu : (setSwitch f x s).siu = s.siu := rfl
@[simp] theorem setSwitch_phe : (setSwitch f x s).phe = s.phe := rfl
@[simp] theorem setSwitch_elu : (setSwitch f x s).elu = s.elu := rfl
@[simp] theorem setSwitch_gst : (setSwitch f x s).gst = s.gst := rfl
@[simp] theorem setSwitch_rcs : (setSwitch f x s).rcs = s.rcs := rfl
@[simp] theorem setSwitch_efs : (setSwitch f x s).efs = s.efs := rfl
@[simp] theorem setSwitch_mdu : (setSwitch f x s).mdu = s.mdu := rfl
@[simp] theorem setSwitch_mgr : (setSwitch f x s).mgr = s.mgr := rfl
@[simp] theorem setSwitch_due : (setSwitch f x s).due = s.due := rfl
@[simp] theorem setSwitch_raised : (setSwitch f x s).raised = s.raised := rfl
@[simp] theorem setSwitch_pending : (setSwitch f x s).pending = s.pending := rfl
@[simp] theorem setSwitch_oru_echoMissing : (setSwitch f x s).oru.echoMissing = s.oru.echoMissing := rfl
@[simp] theorem setSwitch_oru_orders : (setSwitch f x s).oru.orders = s.oru.orders := rfl
end

section
variable (f : Slot) (x : OrderRecord) (s : State)
@[simp] theorem setOrder_rpt : (setOrder f x s).rpt = s.rpt := rfl
@[simp] theorem setOrder_siu : (setOrder f x s).siu = s.siu := rfl
@[simp] theorem setOrder_phe : (setOrder f x s).phe = s.phe := rfl
@[simp] theorem setOrder_elu : (setOrder f x s).elu = s.elu := rfl
@[simp] theorem setOrder_gst : (setOrder f x s).gst = s.gst := rfl
@[simp] theorem setOrder_rcs : (setOrder f x s).rcs = s.rcs := rfl
@[simp] theorem setOrder_efs : (setOrder f x s).efs = s.efs := rfl
@[simp] theorem setOrder_mdu : (setOrder f x s).mdu = s.mdu := rfl
@[simp] theorem setOrder_mgr : (setOrder f x s).mgr = s.mgr := rfl
@[simp] theorem setOrder_due : (setOrder f x s).due = s.due := rfl
@[simp] theorem setOrder_raised : (setOrder f x s).raised = s.raised := rfl
@[simp] theorem setOrder_pending : (setOrder f x s).pending = s.pending := rfl
@[simp] theorem setOrder_oru_echoMissing : (setOrder f x s).oru.echoMissing = s.oru.echoMissing := rfl
@[simp] theorem setOrder_oru_switches : (setOrder f x s).oru.switches = s.oru.switches := rfl
end

section
variable (f : Slot) (x : SeqRecord) (s : State)
@[simp] theorem setSeq_rpt : (setSeq f x s).rpt = s.rpt := rfl
@[simp] theorem setSeq_siu : (setSeq f x s).siu = s.siu := rfl
@[simp] theorem setSeq_phe : (setSeq f x s).phe = s.phe := rfl
@[simp] theorem setSeq_elu : (setSeq f x s).elu = s.elu := rfl
@[simp] theorem setSeq_gst : (setSeq f x s).gst = s.gst := rfl
@[simp] theorem setSeq_oru : (setSeq f x s).oru = s.oru := rfl
@[simp] theorem setSeq_efs : (setSeq f x s).efs = s.efs := rfl
@[simp] theorem setSeq_mdu : (setSeq f x s).mdu = s.mdu := rfl
@[simp] theorem setSeq_mgr : (setSeq f x s).mgr = s.mgr := rfl
@[simp] theorem setSeq_due : (setSeq f x s).due = s.due := rfl
@[simp] theorem setSeq_raised : (setSeq f x s).raised = s.raised := rfl
@[simp] theorem setSeq_pending : (setSeq f x s).pending = s.pending := rfl
end

section
variable (x : EfsRecord) (s : State)
@[simp] theorem setEfs_rpt : (setEfs x s).rpt = s.rpt := rfl
@[simp] theorem setEfs_siu : (setEfs x s).siu = s.siu := rfl
@[simp] theorem setEfs_phe : (setEfs x s).phe = s.phe := rfl
@[simp] theorem setEfs_elu : (setEfs x s).elu = s.elu := rfl
@[simp] theorem setEfs_gst : (setEfs x s).gst = s.gst := rfl
@[simp] theorem setEfs_oru : (setEfs x s).oru = s.oru := rfl
@[simp] theorem setEfs_rcs : (setEfs x s).rcs = s.rcs := rfl
@[simp] theorem setEfs_mdu : (setEfs x s).mdu = s.mdu := rfl
@[simp] theorem setEfs_mgr : (setEfs x s).mgr = s.mgr := rfl
@[simp] theorem setEfs_due : (setEfs x s).due = s.due := rfl
@[simp] theorem setEfs_raised : (setEfs x s).raised = s.raised := rfl
@[simp] theorem setEfs_pending : (setEfs x s).pending = s.pending := rfl
@[simp] theorem setEfs_efs_settings : (setEfs x s).efs.settings = s.efs.settings := rfl
@[simp] theorem setEfs_efs_huntOrder : (setEfs x s).efs.huntOrder = s.efs.huntOrder := rfl
@[simp] theorem setEfs_efs_result : (setEfs x s).efs.result = s.efs.result := rfl
@[simp] theorem setEfs_efs_hunt : (setEfs x s).efs.hunt = s.efs.hunt := rfl
end

section
variable (x : HuntRecord) (s : State)
@[simp] theorem setHunt_rpt : (setHunt x s).rpt = s.rpt := rfl
@[simp] theorem setHunt_siu : (setHunt x s).siu = s.siu := rfl
@[simp] theorem setHunt_phe : (setHunt x s).phe = s.phe := rfl
@[simp] theorem setHunt_elu : (setHunt x s).elu = s.elu := rfl
@[simp] theorem setHunt_gst : (setHunt x s).gst = s.gst := rfl
@[simp] theorem setHunt_oru : (setHunt x s).oru = s.oru := rfl
@[simp] theorem setHunt_rcs : (setHunt x s).rcs = s.rcs := rfl
@[simp] theorem setHunt_mdu : (setHunt x s).mdu = s.mdu := rfl
@[simp] theorem setHunt_mgr : (setHunt x s).mgr = s.mgr := rfl
@[simp] theorem setHunt_due : (setHunt x s).due = s.due := rfl
@[simp] theorem setHunt_raised : (setHunt x s).raised = s.raised := rfl
@[simp] theorem setHunt_pending : (setHunt x s).pending = s.pending := rfl
@[simp] theorem setHunt_efs_settings : (setHunt x s).efs.settings = s.efs.settings := rfl
@[simp] theorem setHunt_efs_huntOrder : (setHunt x s).efs.huntOrder = s.efs.huntOrder := rfl
@[simp] theorem setHunt_efs_result : (setHunt x s).efs.result = s.efs.result := rfl
@[simp] theorem setHunt_efs_record : (setHunt x s).efs.record = s.efs.record := rfl
end

@[simp] theorem setEfs_record (x : EfsRecord) (s : State) : (setEfs x s).efs.record = x := rfl
@[simp] theorem setHunt_hunt (x : HuntRecord) (s : State) : (setHunt x s).efs.hunt = x := rfl

/-! ## Readers after their own writer -/

@[simp] theorem stream_setStream (i j : Role) (x : StreamRecord) (s : State) :
    (setStream i x s).stream j = if i = j then x else s.stream j :=
  upd_get _ _ _ _

@[simp] theorem pheStream_setPheStream (i j : Role) (x : PheStream) (s : State) :
    (setPheStream i x s).pheStream j = if i = j then x else s.pheStream j :=
  upd_get _ _ _ _

@[simp] theorem element_setElement (i j : Slot) (x : ElementState) (s : State) :
    (setElement i x s).element j = if i = j then x else s.element j :=
  upd_get _ _ _ _

@[simp] theorem trip_setTrip (i j : Slot) (x : TripRecord) (s : State) :
    (setTrip i x s).trip j = if i = j then x else s.trip j :=
  upd_get _ _ _ _

@[simp] theorem feeder_setFeeder (i j : Slot) (x : FeederRecord) (s : State) :
    (setFeeder i x s).feeder j = if i = j then x else s.feeder j :=
  upd_get _ _ _ _

@[simp] theorem switch_setSwitch (i j : Slot) (x : SwitchRecord) (s : State) :
    (setSwitch i x s).switch j = if i = j then x else s.switch j :=
  upd_get _ _ _ _

@[simp] theorem order_setOrder (i j : Slot) (x : OrderRecord) (s : State) :
    (setOrder i x s).order j = if i = j then x else s.order j :=
  upd_get _ _ _ _

@[simp] theorem seq_setSeq (i j : Slot) (x : SeqRecord) (s : State) :
    (setSeq i x s).seq j = if i = j then x else s.seq j :=
  upd_get _ _ _ _

@[simp] theorem activeGroup_setGroups (i j : Slot) (a p : Option GroupNo) (s : State) :
    (setGroups i a p s).activeGroup j = if i = j then a else s.activeGroup j :=
  upd_get _ _ _ _

@[simp] theorem pendingGroup_setGroups (i j : Slot) (a p : Option GroupNo) (s : State) :
    (setGroups i a p s).pendingGroup j = if i = j then p else s.pendingGroup j :=
  upd_get _ _ _ _

/-! ## Readers after another writer -/

section
variable (r : Role) (x : StreamRecord) (s : State)
@[simp] theorem pheStream_setStream (j : Role) : (setStream r x s).pheStream j = s.pheStream j := rfl
@[simp] theorem element_setStream (j : Slot) : (setStream r x s).element j = s.element j := rfl
@[simp] theorem trip_setStream (j : Slot) : (setStream r x s).trip j = s.trip j := rfl
@[simp] theorem feeder_setStream (j : Slot) : (setStream r x s).feeder j = s.feeder j := rfl
@[simp] theorem group_setStream (j : Slot) (g : GroupNo) : (setStream r x s).group j g = s.group j g := rfl
@[simp] theorem activeGroup_setStream (j : Slot) : (setStream r x s).activeGroup j = s.activeGroup j := rfl
@[simp] theorem pendingGroup_setStream (j : Slot) : (setStream r x s).pendingGroup j = s.pendingGroup j := rfl
@[simp] theorem switch_setStream (j : Slot) : (setStream r x s).switch j = s.switch j := rfl
@[simp] theorem order_setStream (j : Slot) : (setStream r x s).order j = s.order j := rfl
@[simp] theorem seq_setStream (j : Slot) : (setStream r x s).seq j = s.seq j := rfl
@[simp] theorem switchAddress_setStream (j : Slot) : (setStream r x s).switchAddress j = s.switchAddress j := rfl
@[simp] theorem samplingAddress_setStream (j : Role) : (setStream r x s).samplingAddress j = s.samplingAddress j := rfl
@[simp] theorem holds_setStream (j : Slot) (q : Reason) : (setStream r x s).holds j q = s.holds j q := rfl
@[simp] theorem acting_setStream (j : Slot) : (setStream r x s).acting j = s.acting j := rfl
@[simp] theorem feederMode_setStream (j : Slot) : (setStream r x s).feederMode j = s.feederMode j := rfl
@[simp] theorem settings_setStream (j : Slot) : (setStream r x s).settings j = s.settings j := rfl
@[simp] theorem tod_setStream : (setStream r x s).tod = s.tod := rfl
@[simp] theorem minute_setStream : (setStream r x s).minute = s.minute := rfl
@[simp] theorem earthMode_setStream (m : Mode) : (setStream r x s).earthMode m = s.earthMode m := rfl
end

section
variable (r : Role) (x : PheStream) (s : State)
@[simp] theorem stream_setPheStream (j : Role) : (setPheStream r x s).stream j = s.stream j := rfl
@[simp] theorem element_setPheStream (j : Slot) : (setPheStream r x s).element j = s.element j := rfl
@[simp] theorem trip_setPheStream (j : Slot) : (setPheStream r x s).trip j = s.trip j := rfl
@[simp] theorem feeder_setPheStream (j : Slot) : (setPheStream r x s).feeder j = s.feeder j := rfl
@[simp] theorem group_setPheStream (j : Slot) (g : GroupNo) : (setPheStream r x s).group j g = s.group j g := rfl
@[simp] theorem activeGroup_setPheStream (j : Slot) : (setPheStream r x s).activeGroup j = s.activeGroup j := rfl
@[simp] theorem pendingGroup_setPheStream (j : Slot) : (setPheStream r x s).pendingGroup j = s.pendingGroup j := rfl
@[simp] theorem switch_setPheStream (j : Slot) : (setPheStream r x s).switch j = s.switch j := rfl
@[simp] theorem order_setPheStream (j : Slot) : (setPheStream r x s).order j = s.order j := rfl
@[simp] theorem seq_setPheStream (j : Slot) : (setPheStream r x s).seq j = s.seq j := rfl
@[simp] theorem switchAddress_setPheStream (j : Slot) : (setPheStream r x s).switchAddress j = s.switchAddress j := rfl
@[simp] theorem samplingAddress_setPheStream (j : Role) : (setPheStream r x s).samplingAddress j = s.samplingAddress j := rfl
@[simp] theorem holds_setPheStream (j : Slot) (q : Reason) : (setPheStream r x s).holds j q = s.holds j q := rfl
@[simp] theorem acting_setPheStream (j : Slot) : (setPheStream r x s).acting j = s.acting j := rfl
@[simp] theorem feederMode_setPheStream (j : Slot) : (setPheStream r x s).feederMode j = s.feederMode j := rfl
@[simp] theorem settings_setPheStream (j : Slot) : (setPheStream r x s).settings j = s.settings j := rfl
@[simp] theorem tod_setPheStream : (setPheStream r x s).tod = s.tod := rfl
@[simp] theorem minute_setPheStream : (setPheStream r x s).minute = s.minute := rfl
@[simp] theorem earthMode_setPheStream (m : Mode) : (setPheStream r x s).earthMode m = s.earthMode m := rfl
end

section
variable (f : Slot) (x : ElementState) (s : State)
@[simp] theorem stream_setElement (j : Role) : (setElement f x s).stream j = s.stream j := rfl
@[simp] theorem pheStream_setElement (j : Role) : (setElement f x s).pheStream j = s.pheStream j := rfl
@[simp] theorem trip_setElement (j : Slot) : (setElement f x s).trip j = s.trip j := rfl
@[simp] theorem feeder_setElement (j : Slot) : (setElement f x s).feeder j = s.feeder j := rfl
@[simp] theorem group_setElement (j : Slot) (g : GroupNo) : (setElement f x s).group j g = s.group j g := rfl
@[simp] theorem activeGroup_setElement (j : Slot) : (setElement f x s).activeGroup j = s.activeGroup j := rfl
@[simp] theorem pendingGroup_setElement (j : Slot) : (setElement f x s).pendingGroup j = s.pendingGroup j := rfl
@[simp] theorem switch_setElement (j : Slot) : (setElement f x s).switch j = s.switch j := rfl
@[simp] theorem order_setElement (j : Slot) : (setElement f x s).order j = s.order j := rfl
@[simp] theorem seq_setElement (j : Slot) : (setElement f x s).seq j = s.seq j := rfl
@[simp] theorem switchAddress_setElement (j : Slot) : (setElement f x s).switchAddress j = s.switchAddress j := rfl
@[simp] theorem samplingAddress_setElement (j : Role) : (setElement f x s).samplingAddress j = s.samplingAddress j := rfl
@[simp] theorem holds_setElement (j : Slot) (q : Reason) : (setElement f x s).holds j q = s.holds j q := rfl
@[simp] theorem acting_setElement (j : Slot) : (setElement f x s).acting j = s.acting j := rfl
@[simp] theorem feederMode_setElement (j : Slot) : (setElement f x s).feederMode j = s.feederMode j := rfl
@[simp] theorem settings_setElement (j : Slot) : (setElement f x s).settings j = s.settings j := rfl
@[simp] theorem tod_setElement : (setElement f x s).tod = s.tod := rfl
@[simp] theorem minute_setElement : (setElement f x s).minute = s.minute := rfl
@[simp] theorem earthMode_setElement (m : Mode) : (setElement f x s).earthMode m = s.earthMode m := rfl
end

section
variable (f : Slot) (x : TripRecord) (s : State)
@[simp] theorem stream_setTrip (j : Role) : (setTrip f x s).stream j = s.stream j := rfl
@[simp] theorem pheStream_setTrip (j : Role) : (setTrip f x s).pheStream j = s.pheStream j := rfl
@[simp] theorem element_setTrip (j : Slot) : (setTrip f x s).element j = s.element j := rfl
@[simp] theorem feeder_setTrip (j : Slot) : (setTrip f x s).feeder j = s.feeder j := rfl
@[simp] theorem group_setTrip (j : Slot) (g : GroupNo) : (setTrip f x s).group j g = s.group j g := rfl
@[simp] theorem activeGroup_setTrip (j : Slot) : (setTrip f x s).activeGroup j = s.activeGroup j := rfl
@[simp] theorem pendingGroup_setTrip (j : Slot) : (setTrip f x s).pendingGroup j = s.pendingGroup j := rfl
@[simp] theorem switch_setTrip (j : Slot) : (setTrip f x s).switch j = s.switch j := rfl
@[simp] theorem order_setTrip (j : Slot) : (setTrip f x s).order j = s.order j := rfl
@[simp] theorem seq_setTrip (j : Slot) : (setTrip f x s).seq j = s.seq j := rfl
@[simp] theorem switchAddress_setTrip (j : Slot) : (setTrip f x s).switchAddress j = s.switchAddress j := rfl
@[simp] theorem samplingAddress_setTrip (j : Role) : (setTrip f x s).samplingAddress j = s.samplingAddress j := rfl
@[simp] theorem holds_setTrip (j : Slot) (q : Reason) : (setTrip f x s).holds j q = s.holds j q := rfl
@[simp] theorem acting_setTrip (j : Slot) : (setTrip f x s).acting j = s.acting j := rfl
@[simp] theorem feederMode_setTrip (j : Slot) : (setTrip f x s).feederMode j = s.feederMode j := rfl
@[simp] theorem settings_setTrip (j : Slot) : (setTrip f x s).settings j = s.settings j := rfl
@[simp] theorem tod_setTrip : (setTrip f x s).tod = s.tod := rfl
@[simp] theorem minute_setTrip : (setTrip f x s).minute = s.minute := rfl
@[simp] theorem earthMode_setTrip (m : Mode) : (setTrip f x s).earthMode m = s.earthMode m := rfl
end

section
variable (f : Slot) (x : FeederRecord) (s : State)
@[simp] theorem stream_setFeeder (j : Role) : (setFeeder f x s).stream j = s.stream j := rfl
@[simp] theorem pheStream_setFeeder (j : Role) : (setFeeder f x s).pheStream j = s.pheStream j := rfl
@[simp] theorem element_setFeeder (j : Slot) : (setFeeder f x s).element j = s.element j := rfl
@[simp] theorem trip_setFeeder (j : Slot) : (setFeeder f x s).trip j = s.trip j := rfl
@[simp] theorem group_setFeeder (j : Slot) (g : GroupNo) : (setFeeder f x s).group j g = s.group j g := rfl
@[simp] theorem activeGroup_setFeeder (j : Slot) : (setFeeder f x s).activeGroup j = s.activeGroup j := rfl
@[simp] theorem pendingGroup_setFeeder (j : Slot) : (setFeeder f x s).pendingGroup j = s.pendingGroup j := rfl
@[simp] theorem switch_setFeeder (j : Slot) : (setFeeder f x s).switch j = s.switch j := rfl
@[simp] theorem order_setFeeder (j : Slot) : (setFeeder f x s).order j = s.order j := rfl
@[simp] theorem seq_setFeeder (j : Slot) : (setFeeder f x s).seq j = s.seq j := rfl
@[simp] theorem switchAddress_setFeeder (j : Slot) : (setFeeder f x s).switchAddress j = s.switchAddress j := rfl
@[simp] theorem samplingAddress_setFeeder (j : Role) : (setFeeder f x s).samplingAddress j = s.samplingAddress j := rfl
@[simp] theorem holds_setFeeder (j : Slot) (q : Reason) : (setFeeder f x s).holds j q = s.holds j q := rfl
@[simp] theorem settings_setFeeder (j : Slot) : (setFeeder f x s).settings j = s.settings j := rfl
@[simp] theorem tod_setFeeder : (setFeeder f x s).tod = s.tod := rfl
@[simp] theorem minute_setFeeder : (setFeeder f x s).minute = s.minute := rfl
@[simp] theorem earthMode_setFeeder (m : Mode) : (setFeeder f x s).earthMode m = s.earthMode m := rfl
end

section
variable (f : Slot) (a p : Option GroupNo) (s : State)
@[simp] theorem stream_setGroups (j : Role) : (setGroups f a p s).stream j = s.stream j := rfl
@[simp] theorem pheStream_setGroups (j : Role) : (setGroups f a p s).pheStream j = s.pheStream j := rfl
@[simp] theorem element_setGroups (j : Slot) : (setGroups f a p s).element j = s.element j := rfl
@[simp] theorem trip_setGroups (j : Slot) : (setGroups f a p s).trip j = s.trip j := rfl
@[simp] theorem feeder_setGroups (j : Slot) : (setGroups f a p s).feeder j = s.feeder j := rfl
@[simp] theorem group_setGroups (j : Slot) (g : GroupNo) : (setGroups f a p s).group j g = s.group j g := rfl
@[simp] theorem switch_setGroups (j : Slot) : (setGroups f a p s).switch j = s.switch j := rfl
@[simp] theorem order_setGroups (j : Slot) : (setGroups f a p s).order j = s.order j := rfl
@[simp] theorem seq_setGroups (j : Slot) : (setGroups f a p s).seq j = s.seq j := rfl
@[simp] theorem switchAddress_setGroups (j : Slot) : (setGroups f a p s).switchAddress j = s.switchAddress j := rfl
@[simp] theorem samplingAddress_setGroups (j : Role) : (setGroups f a p s).samplingAddress j = s.samplingAddress j := rfl
@[simp] theorem holds_setGroups (j : Slot) (q : Reason) : (setGroups f a p s).holds j q = s.holds j q := rfl
@[simp] theorem acting_setGroups (j : Slot) : (setGroups f a p s).acting j = s.acting j := rfl
@[simp] theorem feederMode_setGroups (j : Slot) : (setGroups f a p s).feederMode j = s.feederMode j := rfl
@[simp] theorem tod_setGroups : (setGroups f a p s).tod = s.tod := rfl
@[simp] theorem minute_setGroups : (setGroups f a p s).minute = s.minute := rfl
@[simp] theorem earthMode_setGroups (m : Mode) : (setGroups f a p s).earthMode m = s.earthMode m := rfl
end

section
variable (f : Slot) (x : SwitchRecord) (s : State)
@[simp] theorem stream_setSwitch (j : Role) : (setSwitch f x s).stream j = s.stream j := rfl
@[simp] theorem pheStream_setSwitch (j : Role) : (setSwitch f x s).pheStream j = s.pheStream j := rfl
@[simp] theorem element_setSwitch (j : Slot) : (setSwitch f x s).element j = s.element j := rfl
@[simp] theorem trip_setSwitch (j : Slot) : (setSwitch f x s).trip j = s.trip j := rfl
@[simp] theorem feeder_setSwitch (j : Slot) : (setSwitch f x s).feeder j = s.feeder j := rfl
@[simp] theorem group_setSwitch (j : Slot) (g : GroupNo) : (setSwitch f x s).group j g = s.group j g := rfl
@[simp] theorem activeGroup_setSwitch (j : Slot) : (setSwitch f x s).activeGroup j = s.activeGroup j := rfl
@[simp] theorem pendingGroup_setSwitch (j : Slot) : (setSwitch f x s).pendingGroup j = s.pendingGroup j := rfl
@[simp] theorem order_setSwitch (j : Slot) : (setSwitch f x s).order j = s.order j := rfl
@[simp] theorem seq_setSwitch (j : Slot) : (setSwitch f x s).seq j = s.seq j := rfl
@[simp] theorem switchAddress_setSwitch (j : Slot) : (setSwitch f x s).switchAddress j = s.switchAddress j := rfl
@[simp] theorem samplingAddress_setSwitch (j : Role) : (setSwitch f x s).samplingAddress j = s.samplingAddress j := rfl
@[simp] theorem holds_setSwitch (j : Slot) (q : Reason) : (setSwitch f x s).holds j q = s.holds j q := rfl
@[simp] theorem acting_setSwitch (j : Slot) : (setSwitch f x s).acting j = s.acting j := rfl
@[simp] theorem feederMode_setSwitch (j : Slot) : (setSwitch f x s).feederMode j = s.feederMode j := rfl
@[simp] theorem settings_setSwitch (j : Slot) : (setSwitch f x s).settings j = s.settings j := rfl
@[simp] theorem tod_setSwitch : (setSwitch f x s).tod = s.tod := rfl
@[simp] theorem minute_setSwitch : (setSwitch f x s).minute = s.minute := rfl
@[simp] theorem earthMode_setSwitch (m : Mode) : (setSwitch f x s).earthMode m = s.earthMode m := rfl
end

section
variable (f : Slot) (x : OrderRecord) (s : State)
@[simp] theorem stream_setOrder (j : Role) : (setOrder f x s).stream j = s.stream j := rfl
@[simp] theorem pheStream_setOrder (j : Role) : (setOrder f x s).pheStream j = s.pheStream j := rfl
@[simp] theorem element_setOrder (j : Slot) : (setOrder f x s).element j = s.element j := rfl
@[simp] theorem trip_setOrder (j : Slot) : (setOrder f x s).trip j = s.trip j := rfl
@[simp] theorem feeder_setOrder (j : Slot) : (setOrder f x s).feeder j = s.feeder j := rfl
@[simp] theorem group_setOrder (j : Slot) (g : GroupNo) : (setOrder f x s).group j g = s.group j g := rfl
@[simp] theorem activeGroup_setOrder (j : Slot) : (setOrder f x s).activeGroup j = s.activeGroup j := rfl
@[simp] theorem pendingGroup_setOrder (j : Slot) : (setOrder f x s).pendingGroup j = s.pendingGroup j := rfl
@[simp] theorem switch_setOrder (j : Slot) : (setOrder f x s).switch j = s.switch j := rfl
@[simp] theorem seq_setOrder (j : Slot) : (setOrder f x s).seq j = s.seq j := rfl
@[simp] theorem switchAddress_setOrder (j : Slot) : (setOrder f x s).switchAddress j = s.switchAddress j := rfl
@[simp] theorem samplingAddress_setOrder (j : Role) : (setOrder f x s).samplingAddress j = s.samplingAddress j := rfl
@[simp] theorem holds_setOrder (j : Slot) (q : Reason) : (setOrder f x s).holds j q = s.holds j q := rfl
@[simp] theorem acting_setOrder (j : Slot) : (setOrder f x s).acting j = s.acting j := rfl
@[simp] theorem feederMode_setOrder (j : Slot) : (setOrder f x s).feederMode j = s.feederMode j := rfl
@[simp] theorem settings_setOrder (j : Slot) : (setOrder f x s).settings j = s.settings j := rfl
@[simp] theorem tod_setOrder : (setOrder f x s).tod = s.tod := rfl
@[simp] theorem minute_setOrder : (setOrder f x s).minute = s.minute := rfl
@[simp] theorem earthMode_setOrder (m : Mode) : (setOrder f x s).earthMode m = s.earthMode m := rfl
end

section
variable (f : Slot) (x : SeqRecord) (s : State)
@[simp] theorem stream_setSeq (j : Role) : (setSeq f x s).stream j = s.stream j := rfl
@[simp] theorem pheStream_setSeq (j : Role) : (setSeq f x s).pheStream j = s.pheStream j := rfl
@[simp] theorem element_setSeq (j : Slot) : (setSeq f x s).element j = s.element j := rfl
@[simp] theorem trip_setSeq (j : Slot) : (setSeq f x s).trip j = s.trip j := rfl
@[simp] theorem feeder_setSeq (j : Slot) : (setSeq f x s).feeder j = s.feeder j := rfl
@[simp] theorem group_setSeq (j : Slot) (g : GroupNo) : (setSeq f x s).group j g = s.group j g := rfl
@[simp] theorem activeGroup_setSeq (j : Slot) : (setSeq f x s).activeGroup j = s.activeGroup j := rfl
@[simp] theorem pendingGroup_setSeq (j : Slot) : (setSeq f x s).pendingGroup j = s.pendingGroup j := rfl
@[simp] theorem switch_setSeq (j : Slot) : (setSeq f x s).switch j = s.switch j := rfl
@[simp] theorem order_setSeq (j : Slot) : (setSeq f x s).order j = s.order j := rfl
@[simp] theorem switchAddress_setSeq (j : Slot) : (setSeq f x s).switchAddress j = s.switchAddress j := rfl
@[simp] theorem samplingAddress_setSeq (j : Role) : (setSeq f x s).samplingAddress j = s.samplingAddress j := rfl
@[simp] theorem acting_setSeq (j : Slot) : (setSeq f x s).acting j = s.acting j := rfl
@[simp] theorem feederMode_setSeq (j : Slot) : (setSeq f x s).feederMode j = s.feederMode j := rfl
@[simp] theorem settings_setSeq (j : Slot) : (setSeq f x s).settings j = s.settings j := rfl
@[simp] theorem tod_setSeq : (setSeq f x s).tod = s.tod := rfl
@[simp] theorem minute_setSeq : (setSeq f x s).minute = s.minute := rfl
@[simp] theorem earthMode_setSeq (m : Mode) : (setSeq f x s).earthMode m = s.earthMode m := rfl
end

section
variable (x : EfsRecord) (s : State)
@[simp] theorem stream_setEfs (j : Role) : (setEfs x s).stream j = s.stream j := rfl
@[simp] theorem pheStream_setEfs (j : Role) : (setEfs x s).pheStream j = s.pheStream j := rfl
@[simp] theorem element_setEfs (j : Slot) : (setEfs x s).element j = s.element j := rfl
@[simp] theorem trip_setEfs (j : Slot) : (setEfs x s).trip j = s.trip j := rfl
@[simp] theorem feeder_setEfs (j : Slot) : (setEfs x s).feeder j = s.feeder j := rfl
@[simp] theorem group_setEfs (j : Slot) (g : GroupNo) : (setEfs x s).group j g = s.group j g := rfl
@[simp] theorem activeGroup_setEfs (j : Slot) : (setEfs x s).activeGroup j = s.activeGroup j := rfl
@[simp] theorem pendingGroup_setEfs (j : Slot) : (setEfs x s).pendingGroup j = s.pendingGroup j := rfl
@[simp] theorem switch_setEfs (j : Slot) : (setEfs x s).switch j = s.switch j := rfl
@[simp] theorem order_setEfs (j : Slot) : (setEfs x s).order j = s.order j := rfl
@[simp] theorem seq_setEfs (j : Slot) : (setEfs x s).seq j = s.seq j := rfl
@[simp] theorem switchAddress_setEfs (j : Slot) : (setEfs x s).switchAddress j = s.switchAddress j := rfl
@[simp] theorem samplingAddress_setEfs (j : Role) : (setEfs x s).samplingAddress j = s.samplingAddress j := rfl
@[simp] theorem holds_setEfs (j : Slot) (q : Reason) : (setEfs x s).holds j q = s.holds j q := rfl
@[simp] theorem acting_setEfs (j : Slot) : (setEfs x s).acting j = s.acting j := rfl
@[simp] theorem feederMode_setEfs (j : Slot) : (setEfs x s).feederMode j = s.feederMode j := rfl
@[simp] theorem settings_setEfs (j : Slot) : (setEfs x s).settings j = s.settings j := rfl
@[simp] theorem tod_setEfs : (setEfs x s).tod = s.tod := rfl
@[simp] theorem minute_setEfs : (setEfs x s).minute = s.minute := rfl
@[simp] theorem earthMode_setEfs (m : Mode) : (setEfs x s).earthMode m = s.earthMode m := rfl
end

section
variable (x : HuntRecord) (s : State)
@[simp] theorem stream_setHunt (j : Role) : (setHunt x s).stream j = s.stream j := rfl
@[simp] theorem pheStream_setHunt (j : Role) : (setHunt x s).pheStream j = s.pheStream j := rfl
@[simp] theorem element_setHunt (j : Slot) : (setHunt x s).element j = s.element j := rfl
@[simp] theorem trip_setHunt (j : Slot) : (setHunt x s).trip j = s.trip j := rfl
@[simp] theorem feeder_setHunt (j : Slot) : (setHunt x s).feeder j = s.feeder j := rfl
@[simp] theorem group_setHunt (j : Slot) (g : GroupNo) : (setHunt x s).group j g = s.group j g := rfl
@[simp] theorem activeGroup_setHunt (j : Slot) : (setHunt x s).activeGroup j = s.activeGroup j := rfl
@[simp] theorem pendingGroup_setHunt (j : Slot) : (setHunt x s).pendingGroup j = s.pendingGroup j := rfl
@[simp] theorem switch_setHunt (j : Slot) : (setHunt x s).switch j = s.switch j := rfl
@[simp] theorem order_setHunt (j : Slot) : (setHunt x s).order j = s.order j := rfl
@[simp] theorem seq_setHunt (j : Slot) : (setHunt x s).seq j = s.seq j := rfl
@[simp] theorem switchAddress_setHunt (j : Slot) : (setHunt x s).switchAddress j = s.switchAddress j := rfl
@[simp] theorem samplingAddress_setHunt (j : Role) : (setHunt x s).samplingAddress j = s.samplingAddress j := rfl
@[simp] theorem holds_setHunt (j : Slot) (q : Reason) : (setHunt x s).holds j q = s.holds j q := rfl
@[simp] theorem acting_setHunt (j : Slot) : (setHunt x s).acting j = s.acting j := rfl
@[simp] theorem feederMode_setHunt (j : Slot) : (setHunt x s).feederMode j = s.feederMode j := rfl
@[simp] theorem settings_setHunt (j : Slot) : (setHunt x s).settings j = s.settings j := rfl
@[simp] theorem tod_setHunt : (setHunt x s).tod = s.tod := rfl
@[simp] theorem minute_setHunt : (setHunt x s).minute = s.minute := rfl
@[simp] theorem earthMode_setHunt (m : Mode) : (setHunt x s).earthMode m = s.earthMode m := rfl
end

end State

/-! ## Raising a notice -/

section
variable (o : Option Slot) (n : Option SampleNo) (b : NoticeBody) (s : State)
@[simp] theorem raise_rpt : (raise o n b s).rpt = s.rpt := rfl
@[simp] theorem raise_siu : (raise o n b s).siu = s.siu := rfl
@[simp] theorem raise_phe : (raise o n b s).phe = s.phe := rfl
@[simp] theorem raise_elu : (raise o n b s).elu = s.elu := rfl
@[simp] theorem raise_gst : (raise o n b s).gst = s.gst := rfl
@[simp] theorem raise_oru : (raise o n b s).oru = s.oru := rfl
@[simp] theorem raise_rcs : (raise o n b s).rcs = s.rcs := rfl
@[simp] theorem raise_efs : (raise o n b s).efs = s.efs := rfl
@[simp] theorem raise_mdu : (raise o n b s).mdu = s.mdu := rfl
@[simp] theorem raise_mgr : (raise o n b s).mgr = s.mgr := rfl
@[simp] theorem raise_due : (raise o n b s).due = s.due := rfl
@[simp] theorem raise_pending : (raise o n b s).pending = s.pending := rfl
@[simp] theorem raise_raised : (raise o n b s).raised = s.raised ++ [⟨o, s.tod, n, b⟩] := rfl
@[simp] theorem stream_raise (j : Role) : (raise o n b s).stream j = s.stream j := rfl
@[simp] theorem pheStream_raise (j : Role) : (raise o n b s).pheStream j = s.pheStream j := rfl
@[simp] theorem element_raise (j : Slot) : (raise o n b s).element j = s.element j := rfl
@[simp] theorem trip_raise (j : Slot) : (raise o n b s).trip j = s.trip j := rfl
@[simp] theorem feeder_raise (j : Slot) : (raise o n b s).feeder j = s.feeder j := rfl
@[simp] theorem group_raise (j : Slot) (g : GroupNo) : (raise o n b s).group j g = s.group j g := rfl
@[simp] theorem activeGroup_raise (j : Slot) : (raise o n b s).activeGroup j = s.activeGroup j := rfl
@[simp] theorem pendingGroup_raise (j : Slot) : (raise o n b s).pendingGroup j = s.pendingGroup j := rfl
@[simp] theorem switch_raise (j : Slot) : (raise o n b s).switch j = s.switch j := rfl
@[simp] theorem order_raise (j : Slot) : (raise o n b s).order j = s.order j := rfl
@[simp] theorem seq_raise (j : Slot) : (raise o n b s).seq j = s.seq j := rfl
@[simp] theorem switchAddress_raise (j : Slot) : (raise o n b s).switchAddress j = s.switchAddress j := rfl
@[simp] theorem samplingAddress_raise (j : Role) : (raise o n b s).samplingAddress j = s.samplingAddress j := rfl
@[simp] theorem holds_raise (j : Slot) (q : Reason) : (raise o n b s).holds j q = s.holds j q := rfl
@[simp] theorem acting_raise (j : Slot) : (raise o n b s).acting j = s.acting j := rfl
@[simp] theorem feederMode_raise (j : Slot) : (raise o n b s).feederMode j = s.feederMode j := rfl
@[simp] theorem settings_raise (j : Slot) : (raise o n b s).settings j = s.settings j := rfl
@[simp] theorem tod_raise : (raise o n b s).tod = s.tod := rfl
@[simp] theorem minute_raise : (raise o n b s).minute = s.minute := rfl
@[simp] theorem earthMode_raise (m : Mode) : (raise o n b s).earthMode m = s.earthMode m := rfl
end

end Sys2Proof.Machine
end

