-- ==== Sys2Proof/Laws/Frames.lean ====
section
/-! SUPPORT. Which blocks the shared operations of RCS, ORU, EFS and GST can change: one lemma for each
operation. -/

namespace Sys2Proof.Machine

/-- Only RCS and the notices raised have changed. -/
structure RcsWork (s t : State) : Prop where
  rpt : t.rpt = s.rpt
  siu : t.siu = s.siu
  phe : t.phe = s.phe
  elu : t.elu = s.elu
  gst : t.gst = s.gst
  oru : t.oru = s.oru
  efs : t.efs = s.efs
  mdu : t.mdu = s.mdu
  mgr : t.mgr = s.mgr
  due : t.due = s.due
  pending : t.pending = s.pending
  raised : s.raised <+: t.raised

/-- Only the order records, the positions, RCS, EFS, the hunt limit's mark and the notices raised have
changed. -/
structure EfsWork (s t : State) : Prop where
  rpt : t.rpt = s.rpt
  siu : t.siu = s.siu
  phe : t.phe = s.phe
  elu : t.elu = s.elu
  gst : t.gst = s.gst
  echoMissing : t.oru.echoMissing = s.oru.echoMissing
  switch : ∀ f, t.switch f = { s.switch f with position := (t.switch f).position }
  settings : t.efs.settings = s.efs.settings
  huntOrder : t.efs.huntOrder = s.efs.huntOrder
  mdu : t.mdu = s.mdu
  mgr : t.mgr = s.mgr
  dueMinute : t.due.minute = s.due.minute
  dueDay : t.due.day = s.due.day
  pending : t.pending = s.pending
  raised : s.raised <+: t.raised

/-- Only ORU, RCS, EFS, the hunt limit's mark and the notices raised have changed. -/
structure OrderWork (s t : State) : Prop where
  rpt : t.rpt = s.rpt
  siu : t.siu = s.siu
  phe : t.phe = s.phe
  elu : t.elu = s.elu
  gst : t.gst = s.gst
  mdu : t.mdu = s.mdu
  mgr : t.mgr = s.mgr
  dueMinute : t.due.minute = s.due.minute
  dueDay : t.due.day = s.due.day
  pending : t.pending = s.pending
  raised : s.raised <+: t.raised

namespace RcsWork

theorem refl (s : State) : RcsWork s s :=
  ⟨rfl, rfl, rfl, rfl, rfl, rfl, rfl, rfl, rfl, rfl, rfl, List.prefix_rfl⟩

theorem trans {s t u : State} (a : RcsWork s t) (b : RcsWork t u) : RcsWork s u :=
  ⟨b.rpt.trans a.rpt, b.siu.trans a.siu, b.phe.trans a.phe, b.elu.trans a.elu, b.gst.trans a.gst,
    b.oru.trans a.oru, b.efs.trans a.efs, b.mdu.trans a.mdu, b.mgr.trans a.mgr, b.due.trans a.due,
    b.pending.trans a.pending, a.raised.trans b.raised⟩

theorem efsWork {s t : State} (a : RcsWork s t) : EfsWork s t :=
  ⟨a.rpt, a.siu, a.phe, a.elu, a.gst, by rw [a.oru], fun f => by simp only [State.switch, a.oru],
    by rw [a.efs], by rw [a.efs], a.mdu, a.mgr, by rw [a.due], by rw [a.due], a.pending, a.raised⟩

theorem order {s t : State} (a : RcsWork s t) : OrderWork s t :=
  ⟨a.rpt, a.siu, a.phe, a.elu, a.gst, a.mdu, a.mgr, by rw [a.due], by rw [a.due], a.pending, a.raised⟩

theorem setSeq (f : Slot) (x : SeqRecord) (s : State) : RcsWork s (s.setSeq f x) :=
  ⟨rfl, rfl, rfl, rfl, rfl, rfl, rfl, rfl, rfl, rfl, rfl, List.prefix_rfl⟩

theorem raise (o : Option Slot) (n : Option SampleNo) (b : NoticeBody) (s : State) :
    RcsWork s (Machine.raise o n b s) :=
  ⟨rfl, rfl, rfl, rfl, rfl, rfl, rfl, rfl, rfl, rfl, rfl, List.prefix_append _ _⟩

theorem ite {c : Prop} [Decidable c] {s t u : State} (a : RcsWork s t) (b : RcsWork s u) :
    RcsWork s (if c then t else u) := by
  split <;> assumption

end RcsWork

namespace EfsWork

theorem refl (s : State) : EfsWork s s := (RcsWork.refl s).efsWork

theorem trans {s t u : State} (a : EfsWork s t) (b : EfsWork t u) : EfsWork s u :=
  ⟨b.rpt.trans a.rpt, b.siu.trans a.siu, b.phe.trans a.phe, b.elu.trans a.elu, b.gst.trans a.gst,
    b.echoMissing.trans a.echoMissing, fun f => by rw [b.switch f, a.switch f],
    b.settings.trans a.settings, b.huntOrder.trans a.huntOrder, b.mdu.trans a.mdu, b.mgr.trans a.mgr,
    b.dueMinute.trans a.dueMinute, b.dueDay.trans a.dueDay, b.pending.trans a.pending,
    a.raised.trans b.raised⟩

theorem order {s t : State} (a : EfsWork s t) : OrderWork s t :=
  ⟨a.rpt, a.siu, a.phe, a.elu, a.gst, a.mdu, a.mgr, a.dueMinute, a.dueDay, a.pending, a.raised⟩

theorem setOrder (f : Slot) (x : OrderRecord) (s : State) : EfsWork s (s.setOrder f x) :=
  ⟨rfl, rfl, rfl, rfl, rfl, rfl, fun _ => rfl, rfl, rfl, rfl, rfl, rfl, rfl, rfl, List.prefix_rfl⟩

theorem setPosition (f : Slot) (p : Position) (s : State) :
    EfsWork s (s.setSwitch f { s.switch f with position := p }) := by
  refine ⟨rfl, rfl, rfl, rfl, rfl, rfl, fun g => ?_, rfl, rfl, rfl, rfl, rfl, rfl, rfl, List.prefix_rfl⟩
  by_cases h : f = g
  · subst h; simp
  · simp [h]

theorem setEfs (x : EfsRecord) (s : State) : EfsWork s (s.setEfs x) :=
  ⟨rfl, rfl, rfl, rfl, rfl, rfl, fun _ => rfl, rfl, rfl, rfl, rfl, rfl, rfl, rfl, List.prefix_rfl⟩

theorem setHunt (x : HuntRecord) (s : State) : EfsWork s (s.setHunt x) :=
  ⟨rfl, rfl, rfl, rfl, rfl, rfl, fun _ => rfl, rfl, rfl, rfl, rfl, rfl, rfl, rfl, List.prefix_rfl⟩

theorem raise (o : Option Slot) (n : Option SampleNo) (b : NoticeBody) (s : State) :
    EfsWork s (Machine.raise o n b s) := (RcsWork.raise o n b s).efsWork

theorem ite {c : Prop} [Decidable c] {s t u : State} (a : EfsWork s t) (b : EfsWork s u) :
    EfsWork s (if c then t else u) := by
  split <;> assumption

theorem foldl {α : Type} {g : State → α → State} (h : ∀ s a, EfsWork s (g s a)) (l : List α)
    (s : State) : EfsWork s (l.foldl g s) := by
  induction l generalizing s with
  | nil => exact refl s
  | cons a l ih => exact (h s a).trans (ih _)

theorem forSlots {g : Slot → State → State} (h : ∀ f s, EfsWork s (g f s)) (s : State) :
    EfsWork s (Machine.forSlots g s) := foldl (fun s f => h f s) _ s

end EfsWork

namespace OrderWork

theorem refl (s : State) : OrderWork s s := (RcsWork.refl s).order

theorem trans {s t u : State} (a : OrderWork s t) (b : OrderWork t u) : OrderWork s u :=
  ⟨b.rpt.trans a.rpt, b.siu.trans a.siu, b.phe.trans a.phe, b.elu.trans a.elu, b.gst.trans a.gst,
    b.mdu.trans a.mdu, b.mgr.trans a.mgr, b.dueMinute.trans a.dueMinute, b.dueDay.trans a.dueDay,
    b.pending.trans a.pending, a.raised.trans b.raised⟩

theorem setSwitch (f : Slot) (x : SwitchRecord) (s : State) : OrderWork s (s.setSwitch f x) :=
  ⟨rfl, rfl, rfl, rfl, rfl, rfl, rfl, rfl, rfl, rfl, List.prefix_rfl⟩

theorem ite {c : Prop} [Decidable c] {s t u : State} (a : OrderWork s t) (b : OrderWork s u) :
    OrderWork s (if c then t else u) := by
  split <;> assumption

end OrderWork

/-! ## RCS -/

theorem enterLockout_work (c : LockoutCause) (f : Slot) (s : State) : RcsWork s (enterLockout c f s) :=
  .ite (.refl s) ((RcsWork.setSeq _ _ s).trans (.raise _ _ _ _))

theorem addReason_work (r : Reason) (f : Slot) (s : State) : RcsWork s (addReason r f s) :=
  .ite (.refl s)
    (.ite ((RcsWork.setSeq _ _ s).trans (enterLockout_work _ _ _)) (.setSeq _ _ s))

theorem removeReason_work (r : Reason) (f : Slot) (s : State) : RcsWork s (removeReason r f s) :=
  .setSeq _ _ s

theorem alignReason_work (r : Reason) (b : Bool) (f : Slot) (s : State) :
    RcsWork s (alignReason r b f s) :=
  .ite (addReason_work r f s) (removeReason_work r f s)

theorem demandLockout_work (f : Slot) (s : State) : RcsWork s (demandLockout f s) :=
  .ite (enterLockout_work _ _ _) (.refl s)

theorem decideTrip_work (i : Bool) (f : Slot) (s : State) : RcsWork s (decideTrip i f s) :=
  .ite (.setSeq _ _ s) (enterLockout_work _ _ _)

theorem tripReport_work (i : Bool) (f : Slot) (s : State) : RcsWork s (tripReport i f s) := by
  refine .ite ?_ (.refl s)
  dsimp only
  split
  · exact decideTrip_work i f s
  · exact decideTrip_work i f s
  · exact decideTrip_work i f s
  · exact .ite (.setSeq _ _ s) (.refl s)
  · exact enterLockout_work _ _ _
  · exact .refl s

theorem openConfirmed_work (f : Slot) (s : State) : RcsWork s (openConfirmed f s) :=
  .ite (enterLockout_work _ _ _)
    (.ite (enterLockout_work _ _ _) (.ite (enterLockout_work _ _ _) (.setSeq _ _ s)))

theorem closeConfirmed_work (n : OrderNo) (f : Slot) (s : State) : RcsWork s (closeConfirmed n f s) :=
  (RcsWork.setSeq _ _ s).trans (.raise _ _ _ _)

theorem leaveLockout_work (f : Slot) (s : State) : RcsWork s (leaveLockout f s) :=
  .ite (.setSeq _ _ s) (.refl s)

theorem rcsConfirmed_work (p : OrderReport) (s : State) : RcsWork s (rcsConfirmed p s) := by
  unfold rcsConfirmed
  dsimp only
  split
  · exact .ite (openConfirmed_work _ _) (.refl s)
  · exact .ite (.refl s) (enterLockout_work _ _ _)
  · exact .ite (.refl s) (enterLockout_work _ _ _)
  · exact .ite (.refl s) (enterLockout_work _ _ _)
  · split
    · exact .ite (closeConfirmed_work _ _ _) (.refl s)
    · exact .refl s
  · exact .ite (leaveLockout_work _ _) (.refl s)
  · exact .refl s

theorem rcsFailed_work (p : OrderReport) (s : State) : RcsWork s (rcsFailed p s) := by
  unfold rcsFailed
  dsimp only
  split
  · exact .ite (enterLockout_work _ _ _) (.refl s)
  · exact .ite (enterLockout_work _ _ _) (.refl s)
  · exact .ite (enterLockout_work _ _ _) (.refl s)
  · exact .refl s

theorem rcsOperator_work (p : OrderReport) (s : State) : RcsWork s (rcsOperator p s) := by
  unfold rcsOperator
  split
  · exact enterLockout_work _ _ _
  · exact .ite (enterLockout_work _ _ _) (.refl s)

theorem rcsReport_work (p : OrderReport) (s : State) : RcsWork s (rcsReport p s) := by
  refine .ite ?_ (.refl s)
  split
  · exact .ite (rcsOperator_work _ _) (.refl s)
  · exact .ite (rcsOperator_work _ _) (.refl s)
  · exact .refl s
  · exact .refl s
  · exact .ite (enterLockout_work _ _ _) (.refl s)
  · exact rcsConfirmed_work p s
  · exact rcsFailed_work p s

theorem rcsPosition_work (p : PositionReport) (f : Slot) (s : State) : RcsWork s (rcsPosition p f s) := by
  refine .ite ?_ (.refl s)
  split
  · exact enterLockout_work _ _ _
  · exact enterLockout_work _ _ _
  · exact leaveLockout_work _ _
  · exact .refl s

theorem groupNotify_work (f : Slot) (s : State) : RcsWork s (groupNotify f s) :=
  .ite (enterLockout_work _ _ _) (.refl s)

theorem reclaimExpired_work (f : Slot) (s : State) : RcsWork s (reclaimExpired f s) := .setSeq _ _ s

theorem leaveSequencer_work (f : Slot) (s : State) : RcsWork s (leaveSequencer f s) := by
  unfold leaveSequencer
  dsimp only
  split
  · exact enterLockout_work _ _ _
  · exact enterLockout_work _ _ _
  · exact enterLockout_work _ _ _
  · exact .setSeq _ _ s
  · exact .refl s
  · exact .refl s

theorem restartSequencer_work (f : Slot) (s : State) : RcsWork s (restartSequencer f s) := by
  unfold restartSequencer
  dsimp only
  split
  · exact enterLockout_work _ _ _
  · exact enterLockout_work _ _ _
  · exact enterLockout_work _ _ _
  · exact .setSeq _ _ s
  · exact .setSeq _ _ s
  · exact .setSeq _ _ s

theorem resetLockout_work (f : Slot) (s : State) : RcsWork s (resetLockout f s) :=
  .ite ((removeReason_work _ _ s).trans (.setSeq _ _ _)) (removeReason_work _ _ s)

/-! ## ORU -/

theorem refreshPosition_work (f : Slot) (s : State) : EfsWork s (refreshPosition f s) :=
  .setPosition _ _ s

theorem putOrder_work (f : Slot) (o : OrderRecord) (s : State) : EfsWork s (putOrder f o s) :=
  (EfsWork.setOrder _ _ s).trans (refreshPosition_work _ _)

theorem setHealth_work (h : Health) (f : Slot) (s : State) : OrderWork s (setHealth h f s) :=
  (OrderWork.setSwitch _ _ s).trans (alignReason_work _ _ _ _).order

theorem stateSupervisionExpired_work (f : Slot) (s : State) :
    OrderWork s (stateSupervisionExpired f s) :=
  .ite ((OrderWork.setSwitch _ _ s).trans (setHealth_work _ _ _)) (.setSwitch _ _ s)

theorem countFailure_work (f : Slot) (s : State) : OrderWork s (countFailure f s) :=
  .ite ((OrderWork.setSwitch _ _ s).trans (setHealth_work _ _ _)) (.setSwitch _ _ s)

theorem resetSwitch_work (f : Slot) (s : State) : OrderWork s (resetSwitch f s) :=
  .ite ((OrderWork.setSwitch _ _ s).trans (setHealth_work _ _ _)) (.setSwitch _ _ s)

theorem activateSwitch_work (f : Slot) (s : State) : OrderWork s (activateSwitch f s) := .setSwitch _ _ s

theorem enterRequested_work (k : OrderKind) (who : Origin) (f : Slot) (s : State) :
    EfsWork s (enterRequested k who f s) := putOrder_work _ _ s

theorem askRecord_work (k : OrderKind) (who : Origin) (f : Slot) (s : State) :
    EfsWork s (askRecord k who f s).state := by
  unfold askRecord
  dsimp only
  split
  · split
    · exact enterRequested_work _ _ _ _
    · split
      · exact enterRequested_work _ _ _ _
      · exact .setOrder _ _ s
  · split
    · exact .refl s
    · split
      · exact .refl s
      · exact enterRequested_work _ _ _ _

theorem refuseNoSwitch_work (k : OrderKind) (who : Origin) (f : Slot) (s : State) :
    EfsWork s (refuseNoSwitch k who f s).state := by
  cases k
  · exact .raise _ _ _ s
  · exact .refl s

theorem askOrder_work (k : OrderKind) (who : Origin) (f : Slot) (s : State) :
    EfsWork s (askOrder k who f s).state := by
  unfold askOrder
  split
  · exact .refl s
  · split
    · exact refuseNoSwitch_work k who f s
    · split
      · exact .refl s
      · split
        · exact .refl s
        · exact askRecord_work k who f s

theorem orderStarted_work (f : Slot) (s : State) : EfsWork s (orderStarted f s) := putOrder_work _ _ s

theorem orderFailed_work (f : Slot) (s : State) : OrderWork s (orderFailed f s) :=
  ((putOrder_work _ _ s).order.trans (countFailure_work _ _)).trans (RcsWork.raise _ _ _ _).order

theorem echoExpired_work (f : Slot) (s : State) : OrderWork s (echoExpired f s) :=
  ⟨rfl, rfl, rfl, rfl, rfl, rfl, rfl, rfl, rfl, rfl, List.prefix_append _ _⟩

theorem orderEcho_work (f : Slot) (n : OrderNo) (s : State) : EfsWork s (orderEcho f n s) :=
  .ite (.setOrder _ _ s) (.refl s)

theorem withdrawOrder_work (f : Slot) (s : State) : EfsWork s (withdrawOrder f s) := putOrder_work _ _ s

theorem stateCopied_work (r : StateReport) (f : Slot) (s : State) : OrderWork s (stateCopied r f s) :=
  ((OrderWork.ite ((OrderWork.setSwitch _ _ s).trans (setHealth_work _ _ _)) (.setSwitch _ _ s)).trans
    (alignReason_work _ _ _ _).order).trans (alignReason_work _ _ _ _).order

theorem orderConfirmed_work (f : Slot) (s : State) : OrderWork s (orderConfirmed f s) :=
  (putOrder_work _ _ s).order.trans (.setSwitch _ _ _)

theorem settle_work (r : StateReport) (f : Slot) (s : State) : OrderWork s (settle r f s) :=
  (OrderWork.setSwitch _ _ s).trans (refreshPosition_work _ _).order

theorem takeStateReport_work (r : StateReport) (f : Slot) (s : State) :
    OrderWork s (takeStateReport r f s) :=
  (stateCopied_work r f s).trans
    ((OrderWork.ite (orderConfirmed_work _ _) (.refl _)).trans (settle_work _ _ _))

/-! ## EFS -/

theorem efsAsk_work (k : OrderKind) (f : Slot) (s : State) : EfsWork s (efsAsk k f s).2 :=
  (askOrder_work k .earth f s).trans (.foldl (fun t p => (rcsReport_work p t).efsWork) _ _)

theorem writeOutcome_work (o : EarthOutcome) (g : Option Slot) (s : State) :
    EfsWork s (writeOutcome o g s) :=
  ⟨rfl, rfl, rfl, rfl, rfl, rfl, fun _ => rfl, rfl, rfl, rfl, rfl, rfl, rfl, rfl, List.prefix_append _ _⟩

theorem enterState_work (x : EfsState) (s : State) : EfsWork s (enterState x s) := .setEfs _ s

theorem endEpisode_work (o : EarthOutcome) (g : Option Slot) (s : State) :
    EfsWork s (endEpisode o g s) :=
  (enterState_work _ s).trans (writeOutcome_work _ _ _)

theorem busTripFeeder_work (a : State × SlotSet) (f : Slot) : EfsWork a.1 (busTripFeeder a f).1 := by
  unfold busTripFeeder
  dsimp only
  have h := (addReason_work .earth f a.1).efsWork.trans (efsAsk_work .open f (addReason .earth f a.1))
  split
  · split
    · exact h.trans (.setEfs _ _)
    · exact h.trans (.setEfs _ _)
    · exact h
  · exact .refl _

theorem busTripFeeders_work (l : List Slot) (a : State × SlotSet) :
    EfsWork a.1 (l.foldl busTripFeeder a).1 := by
  induction l generalizing a with
  | nil => exact .refl _
  | cons f l ih => exact (busTripFeeder_work a f).trans (ih _)

theorem busTrip_work (s : State) : EfsWork s (busTrip s) :=
  ((busTripFeeders_work allSlots (s, SlotSet.empty)).trans (.raise _ _ _ _)).trans (enterState_work _ _)

theorem clearStep_work (s : State) : EfsWork s (clearStep s) := .setHunt _ s

theorem nextIndex_work (s : State) : EfsWork s (nextIndex s) := .setHunt _ s

theorem huntExhausted_work (s : State) : EfsWork s (huntExhausted s) := by
  have h := (enterState_work .persistent s).trans (writeOutcome_work .persistent none _)
  unfold huntExhausted
  dsimp only
  split
  · exact h.trans (busTrip_work _)
  · exact h

theorem beginStep_work (f : Slot) (s : State) : EfsWork s (beginStep f s) :=
  ((EfsWork.setHunt _ s).trans (addReason_work _ _ _).efsWork).trans (.raise _ _ _ _)

theorem startSteps_work (n : Nat) (s : State) : EfsWork s (startSteps n s) := by
  induction n generalizing s with
  | zero => exact .refl s
  | succ n ih =>
    unfold startSteps
    split
    · exact huntExhausted_work s
    · next f _ =>
      have h := (beginStep_work f s).trans (efsAsk_work .open f _)
      split
      · exact ((EfsWork.raise _ _ _ s).trans (nextIndex_work _)).trans (ih _)
      · dsimp only
        split
        · exact h.trans (.setHunt _ _)
        · exact h.trans (.setHunt _ _)
        · exact (((h.trans (removeReason_work _ _ _).efsWork).trans (clearStep_work _)).trans
            (nextIndex_work _)).trans (ih _)

theorem endStep_work (f : Slot) (s : State) : EfsWork s (endStep f s) :=
  (((removeReason_work _ _ s).efsWork.trans (clearStep_work _)).trans (nextIndex_work _)).trans
    (startSteps_work _ _)

theorem startHunt_work (o : HuntOrigin) (s : State) : EfsWork s (startHunt o s) := by
  unfold startHunt startStep
  dsimp only
  refine EfsWork.trans ?_ (startSteps_work _ _)
  exact ⟨rfl, rfl, rfl, rfl, rfl, rfl, fun _ => rfl, rfl, rfl, rfl, rfl, rfl, rfl, rfl, List.prefix_rfl⟩

theorem decide131_work (s : State) : EfsWork s (decide131 s) :=
  .ite (busTrip_work s) (.ite (startHunt_work _ s) (enterState_work _ s))

theorem abortEnd_work (s : State) : EfsWork s (abortEnd s) := by
  have h := (writeOutcome_work .aborted s.efs.hunt.underTest s).trans (clearStep_work _)
  unfold abortEnd
  dsimp only
  refine .ite (h.trans (busTrip_work _)) (.ite (h.trans (enterState_work _ _))
    (.ite (h.trans (busTrip_work _)) (.ite ?_ (h.trans (enterState_work _ _)))))
  exact (h.trans (enterState_work _ _)).trans (.setEfs _ _)

theorem restoreFailed_work (f : Slot) (s : State) : EfsWork s (restoreFailed f s) :=
  .ite ((demandLockout_work f s).efsWork.trans (endStep_work _ _))
    (((demandLockout_work f s).efsWork.trans (removeReason_work _ _ _).efsWork).trans (abortEnd_work _))

theorem askRestore_work (f : Slot) (s : State) : EfsWork s (askRestore f s) := by
  unfold askRestore
  dsimp only
  have h := (EfsWork.setHunt
    { s.efs.hunt with step := some .restoring, countdown := none, order := none } s).trans
      (efsAsk_work .close f _)
  split
  · exact h.trans (.setHunt _ _)
  · exact h.trans (.setHunt _ _)
  · exact h.trans (restoreFailed_work _ _)

theorem abortRestore_work (s : State) : EfsWork s (abortRestore s) := by
  unfold abortRestore
  split
  · exact .refl s
  · exact askRestore_work _ s
  · exact .refl s
  · exact (removeReason_work _ _ s).efsWork.trans (abortEnd_work _)
  · exact abortEnd_work s

theorem abortUnderBan_work (s : State) : EfsWork s (abortUnderBan s) := by
  unfold abortUnderBan
  dsimp only
  refine EfsWork.trans ?_ ((EfsWork.setHunt _ _).trans (abortEnd_work _))
  split
  · exact (((addReason_work _ _ s).trans (demandLockout_work _ _)).trans (removeReason_work _ _ _)).efsWork
  · exact .refl s

theorem abortHunt_work (c : AbortCause) (s : State) : EfsWork s (abortHunt c s) :=
  .ite
    (.ite ((EfsWork.setHunt _ s).trans (abortUnderBan_work _))
      ((EfsWork.setHunt _ s).trans (abortRestore_work _)))
    (.refl s)

theorem reopen_work (f : Slot) (s : State) : EfsWork s (reopen f s) :=
  .ite (efsAsk_work _ _ s) (.refl s)

theorem displacementPersists_work (f : Slot) (s : State) : EfsWork s (displacementPersists f s) :=
  ((((addReason_work _ _ s).trans (demandLockout_work _ _)).efsWork.trans (reopen_work _ _)).trans
    (.setEfs _ _)).trans (decide131_work _)

theorem tripIdentified_work (f : Slot) (s : State) : EfsWork s (tripIdentified f s) := by
  have h : EfsWork s (if (s.setEfs { s.efs.record with recloseMark := recloseMarkOf s f }).feederMode f
      = .normal then s.setEfs { s.efs.record with recloseMark := recloseMarkOf s f }
      else addReason .earth f (s.setEfs { s.efs.record with recloseMark := recloseMarkOf s f })) :=
    .ite (.setEfs _ s) ((EfsWork.setEfs _ s).trans (addReason_work _ _ _).efsWork)
  unfold tripIdentified
  dsimp only
  refine .ite (h.trans (.setEfs _ _)) (EfsWork.trans ?_ (tripReport_work _ _ _).efsWork)
  have k := h.trans (efsAsk_work .open f _)
  split
  · exact k.trans (.setEfs _ _)
  · exact k.trans (.setEfs _ _)
  · exact k.trans (displacementPersists_work _ _)

theorem formPair_work (f : Slot) (a b : CycleResult) (s : State) : EfsWork s (formPair f a b s) :=
  .ite (.setEfs _ s) (.refl s)

theorem efsFeederResult_work (f : Slot) (r : CycleResult) (s : State) :
    EfsWork s (efsFeederResult f r s) := by
  refine .ite ?_ (.refl s)
  split
  · exact formPair_work _ _ _ s
  · exact .refl s

theorem formBusPairs_work (b : CycleResult) (s : State) : EfsWork s (formBusPairs b s) := by
  refine .ite (.forSlots (fun f t => ?_) s) (.refl s)
  split
  · exact formPair_work _ _ _ t
  · exact .refl t

theorem countDown_work (s : State) : EfsWork s (countDown s).2 := by
  unfold countDown
  split
  · exact .refl s
  · exact .setEfs _ s

theorem stepCountDown_work (s : State) : EfsWork s (stepCountDown s).2 := by
  unfold stepCountDown
  split
  · exact .refl s
  · exact .setHunt _ s

theorem clearVotes_work (s : State) : EfsWork s (clearVotes s) := .setEfs _ s

theorem quietCompletion_work (r : CycleResult) (s : State) : EfsWork s (quietCompletion r s) := by
  unfold quietCompletion
  dsimp only
  exact .ite ((((EfsWork.setEfs _ s).trans (clearVotes_work _)).trans (.setEfs _ _)).trans
    (.raise _ _ _ _)) (.refl s)

theorem displacedCompletion_work (r : CycleResult) (s : State) : EfsWork s (displacedCompletion r s) :=
  .ite (endEpisode_work _ _ s)
    (.ite (((countDown_work s).trans (clearVotes_work _)).trans (.setEfs _ _)) (countDown_work s))

theorem windowEnd_work (s : State) : EfsWork s (windowEnd s) := by
  unfold windowEnd
  dsimp only
  refine EfsWork.trans (.setEfs { s.efs.record with candidates := candidateSet s, countdown := none } s) ?_
  split
  · exact .setEfs _ _
  · exact decide131_work _

theorem identifyingCompletion_work (s : State) : EfsWork s (identifyingCompletion s) :=
  .ite (endEpisode_work _ _ s)
    (.ite ((countDown_work s).trans (windowEnd_work _)) (countDown_work s))

theorem delayCompletion_work (f : Slot) (s : State) : EfsWork s (delayCompletion f s) :=
  .ite (endEpisode_work _ _ s)
    (.ite ((EfsWork.setEfs _ s).trans (tripIdentified_work _ _)) (.setEfs _ s))

theorem observingCompletion_work (f : Slot) (s : State) : EfsWork s (observingCompletion f s) :=
  .ite
    ((EfsWork.ite (.refl s) ((addReason_work _ _ s).trans (demandLockout_work _ _)).efsWork).trans
      (endEpisode_work _ _ _))
    (.ite ((countDown_work s).trans (displacementPersists_work _ _)) (countDown_work s))

theorem identifiedCompletion_work (s : State) : EfsWork s (identifiedCompletion s) := by
  unfold identifiedCompletion
  split
  · exact delayCompletion_work _ s
  · exact observingCompletion_work _ s
  · exact .refl s

theorem huntFound_work (f : Slot) (s : State) : EfsWork s (huntFound f s) :=
  ((((addReason_work _ _ s).trans (demandLockout_work _ _)).trans (removeReason_work _ _ _)).efsWork.trans
    (clearStep_work _)).trans (endEpisode_work _ _ _)

theorem huntingCompletion_work (s : State) : EfsWork s (huntingCompletion s) := by
  unfold huntingCompletion
  split
  · exact .ite (huntFound_work _ s)
      (.ite ((stepCountDown_work s).trans (askRestore_work _ _)) (stepCountDown_work s))
  · exact .ite
      (((removeReason_work _ _ s).efsWork.trans (clearStep_work _)).trans (endEpisode_work _ _ _))
      (.ite ((stepCountDown_work s).trans (endStep_work _ _)) (stepCountDown_work s))
  · exact .refl s

theorem busTripCompletion_work (s : State) : EfsWork s (busTripCompletion s) :=
  .ite
    (.ite (endEpisode_work _ _ s) ((enterState_work _ s).trans (writeOutcome_work _ _ _)))
    (.refl s)

theorem efsBusCompletion_work (r : CycleResult) (s : State) : EfsWork s (efsBusCompletion r s) := by
  refine .ite ?_ (.refl s)
  refine EfsWork.trans ((EfsWork.setEfs _ s).trans (formBusPairs_work r (refreshVn r s))) ?_
  dsimp only
  split
  · exact quietCompletion_work r _
  · exact displacedCompletion_work r _
  · exact identifyingCompletion_work _
  · exact identifiedCompletion_work _
  · exact .ite (endEpisode_work _ _ _) (.refl _)
  · exact .ite (endEpisode_work _ _ _) (.refl _)
  · exact .ite (huntingCompletion_work _) (.refl _)
  · exact busTripCompletion_work _

theorem identifiedReport_work (p : OrderReport) (s : State) : EfsWork s (identifiedReport p s) := by
  unfold identifiedReport
  split
  · exact .setEfs _ s
  · exact displacementPersists_work _ s
  · exact .refl s

theorem stepOpenReport_work (p : OrderReport) (s : State) : EfsWork s (stepOpenReport p s) := by
  unfold stepOpenReport
  split
  · exact .ite (.setHunt _ s) (askRestore_work _ s)
  · exact .ite (endStep_work _ s) ((removeReason_work _ _ s).efsWork.trans (abortEnd_work _))
  · exact .refl s

theorem stepRestoreReport_work (p : OrderReport) (s : State) : EfsWork s (stepRestoreReport p s) := by
  unfold stepRestoreReport
  split
  · exact .ite (.setHunt _ s) ((removeReason_work _ _ s).efsWork.trans (abortEnd_work _))
  · exact restoreFailed_work _ s
  · exact restoreFailed_work _ s
  · exact restoreFailed_work _ s
  · exact .refl s

theorem busTripReport_work (p : OrderReport) (s : State) : EfsWork s (busTripReport p s) :=
  .ite (.setEfs _ s) (.refl s)

theorem efsReport_work (p : OrderReport) (s : State) : EfsWork s (efsReport p s) := by
  refine .ite ?_ (.refl s)
  split
  · exact .ite (identifiedReport_work p s) (.refl s)
  · refine .ite ?_ (.refl s)
    split
    · exact stepOpenReport_work p s
    · exact stepRestoreReport_work p s
    · exact .refl s
  · exact busTripReport_work p s
  · exact .refl s

theorem efsBecameBan_work (s : State) : EfsWork s (efsBecameBan s) := by
  refine .ite ?_ (.refl s)
  split
  · exact abortHunt_work _ s
  · exact busTrip_work s
  · exact busTrip_work s
  · exact .refl s

theorem endHuntUnrestored_work (s : State) : EfsWork s (endHuntUnrestored s) := by
  unfold endHuntUnrestored
  dsimp only
  refine EfsWork.trans ?_ (.setHunt _ _)
  split
  · refine (RcsWork.trans ?_ (removeReason_work _ _ _)).efsWork
    exact .ite ((addReason_work _ _ s).trans (demandLockout_work _ _)) (.refl s)
  · exact .refl s

theorem efsLeaveService_work (s : State) : EfsWork s (efsLeaveService s) := by
  have h : EfsWork s (if s.efs.record.state = .hunting then endHuntUnrestored s else s) :=
    .ite (endHuntUnrestored_work s) (.refl s)
  unfold efsLeaveService
  dsimp only
  refine EfsWork.trans ?_ (((clearStep_work _).trans (enterState_work .quiet _)).trans (.setEfs _ _))
  split
  · exact h
  · exact h.trans (writeOutcome_work _ _ _)

theorem efsRestart_work (s : State) : EfsWork s (efsRestart s) :=
  (EfsWork.setEfs _ s).trans (clearStep_work _)

/-! ## Reports -/

theorem deliver_work (p : OrderReport) (s : State) : EfsWork s (deliver p s) :=
  (rcsReport_work p s).efsWork.trans (efsReport_work p _)

theorem ask_work (k : OrderKind) (who : Origin) (f : Slot) (s : State) : EfsWork s (ask k who f s).2 :=
  (askOrder_work k who f s).trans (.foldl (fun t p => deliver_work p t) _ _)

theorem confirmExpired_work (f : Slot) (s : State) : OrderWork s (confirmExpired f s) :=
  ((orderFailed_work f s).trans (deliver_work _ _).order).trans (refreshPosition_work _ _).order

theorem takeState_work (r : StateReport) (f : Slot) (s : State) : OrderWork s (takeState r f s) := by
  have h := takeStateReport_work r f s
  have k : OrderWork s (match stateOrderReport r f s with
      | some p => deliver p (takeStateReport r f s)
      | none => takeStateReport r f s) := by
    split
    · exact h.trans (deliver_work _ _).order
    · exact h
  unfold takeState
  dsimp only
  split
  · exact k.trans (rcsPosition_work _ _ _).order
  · exact k

theorem addFire_work (f : Slot) (s : State) : EfsWork s (addFire f s) := by
  refine .ite (.refl s) ?_
  exact .ite
    (((addReason_work _ _ s).efsWork.trans (withdrawOrder_work _ _)).trans (deliver_work _ _))
    (addReason_work _ _ s).efsWork

theorem alignFire_work (f : Slot) (s : State) : EfsWork s (alignFire f s) :=
  .ite (addFire_work f s) (removeReason_work _ _ s).efsWork

theorem askReclose_work (f : Slot) (s : State) : EfsWork s (askReclose f s) := by
  have h := ask_work .close .reclose f s
  unfold askReclose
  dsimp only
  split
  · exact h.trans (RcsWork.setSeq _ _ _).efsWork
  · exact h.trans (RcsWork.setSeq _ _ _).efsWork
  · exact h.trans (enterLockout_work _ _ _).efsWork
  · exact h.trans (enterLockout_work _ _ _).efsWork

theorem deadExpired_work (f : Slot) (s : State) : EfsWork s (deadExpired f s) :=
  .ite ((RcsWork.setSeq _ _ s).trans (enterLockout_work _ _ _)).efsWork
    (.ite ((RcsWork.setSeq _ _ s).trans (enterLockout_work _ _ _)).efsWork
      ((RcsWork.setSeq _ _ s).efsWork.trans (askReclose_work _ _)))

end Sys2Proof.Machine
end

