-- ==== Sys2Proof/Laws/FeederFrames.lean ====
section
/-! SUPPORT. Which blocks the operations of ELU, GST, SIU, MDU and RPT can change: one lemma for each
operation. -/

namespace Sys2Proof.Machine

/-- Only ELU, the active and pending groups, ORU, RCS, EFS, the hunt limit's mark and the notices raised
have changed. -/
structure FeederWork (s t : State) : Prop where
  rpt : t.rpt = s.rpt
  siu : t.siu = s.siu
  phe : t.phe = s.phe
  curves : t.gst.curves = s.gst.curves
  groups : t.gst.groups = s.gst.groups
  feeders : t.gst.feeders = s.gst.feeders
  mdu : t.mdu = s.mdu
  mgr : t.mgr = s.mgr
  dueMinute : t.due.minute = s.due.minute
  dueDay : t.due.day = s.due.day
  pending : t.pending = s.pending
  raised : s.raised <+: t.raised

/-- As `FeederWork`, and the stream records and PHE may have changed. -/
structure SampleWork (s t : State) : Prop where
  rpt : t.rpt = s.rpt
  staged : t.siu.staged = s.siu.staged
  active : t.siu.active = s.siu.active
  activated : t.siu.activated = s.siu.activated
  foreign : t.siu.foreign = s.siu.foreign
  curves : t.gst.curves = s.gst.curves
  groups : t.gst.groups = s.gst.groups
  feeders : t.gst.feeders = s.gst.feeders
  mdu : t.mdu = s.mdu
  mgr : t.mgr = s.mgr
  dueMinute : t.due.minute = s.due.minute
  dueDay : t.due.day = s.due.day
  pending : t.pending = s.pending
  raised : s.raised <+: t.raised

/-- Only the district modes, deciding sources and bus mode, the active and pending groups, ORU, RCS, EFS,
the hunt limit's mark and the notices raised have changed. -/
structure ModeWork (s t : State) : Prop where
  rpt : t.rpt = s.rpt
  siu : t.siu = s.siu
  phe : t.phe = s.phe
  elu : t.elu = s.elu
  curves : t.gst.curves = s.gst.curves
  groups : t.gst.groups = s.gst.groups
  feeders : t.gst.feeders = s.gst.feeders
  running : t.mdu.running = s.mdu.running
  day : t.mdu.day = s.mdu.day
  ms : t.mdu.ms = s.mdu.ms
  windows : t.mdu.windows = s.mdu.windows
  declarations : t.mdu.declarations = s.mdu.declarations
  overrides : t.mdu.overrides = s.mdu.overrides
  invalidTime : t.mdu.invalidTime = s.mdu.invalidTime
  mgr : t.mgr = s.mgr
  dueMinute : t.due.minute = s.due.minute
  dueDay : t.due.day = s.due.day
  pending : t.pending = s.pending
  raised : s.raised <+: t.raised

namespace OrderWork

theorem feeder {s t : State} (a : OrderWork s t) : FeederWork s t :=
  ⟨a.rpt, a.siu, a.phe, by rw [a.gst], by rw [a.gst], by rw [a.gst], a.mdu, a.mgr, a.dueMinute, a.dueDay,
    a.pending, a.raised⟩

theorem mode {s t : State} (a : OrderWork s t) : ModeWork s t :=
  ⟨a.rpt, a.siu, a.phe, a.elu, by rw [a.gst], by rw [a.gst], by rw [a.gst], by rw [a.mdu], by rw [a.mdu],
    by rw [a.mdu], by rw [a.mdu], by rw [a.mdu], by rw [a.mdu], by rw [a.mdu], a.mgr, a.dueMinute,
    a.dueDay, a.pending, a.raised⟩

end OrderWork

namespace EfsWork

theorem feeder {s t : State} (a : EfsWork s t) : FeederWork s t := a.order.feeder

theorem mode {s t : State} (a : EfsWork s t) : ModeWork s t := a.order.mode

end EfsWork

namespace RcsWork

theorem feeder {s t : State} (a : RcsWork s t) : FeederWork s t := a.order.feeder

theorem mode {s t : State} (a : RcsWork s t) : ModeWork s t := a.order.mode

end RcsWork

namespace FeederWork

theorem refl (s : State) : FeederWork s s := (OrderWork.refl s).feeder

theorem trans {s t u : State} (a : FeederWork s t) (b : FeederWork t u) : FeederWork s u :=
  ⟨b.rpt.trans a.rpt, b.siu.trans a.siu, b.phe.trans a.phe, b.curves.trans a.curves,
    b.groups.trans a.groups, b.feeders.trans a.feeders, b.mdu.trans a.mdu, b.mgr.trans a.mgr,
    b.dueMinute.trans a.dueMinute, b.dueDay.trans a.dueDay, b.pending.trans a.pending,
    a.raised.trans b.raised⟩

theorem ite {c : Prop} [Decidable c] {s t u : State} (a : FeederWork s t) (b : FeederWork s u) :
    FeederWork s (if c then t else u) := by
  split <;> assumption

theorem setElement (f : Slot) (x : ElementState) (s : State) : FeederWork s (s.setElement f x) :=
  ⟨rfl, rfl, rfl, rfl, rfl, rfl, rfl, rfl, rfl, rfl, rfl, List.prefix_rfl⟩

theorem setTrip (f : Slot) (x : TripRecord) (s : State) : FeederWork s (s.setTrip f x) :=
  ⟨rfl, rfl, rfl, rfl, rfl, rfl, rfl, rfl, rfl, rfl, rfl, List.prefix_rfl⟩

theorem setGroups (f : Slot) (a p : Option GroupNo) (s : State) : FeederWork s (s.setGroups f a p) :=
  ⟨rfl, rfl, rfl, rfl, rfl, rfl, rfl, rfl, rfl, rfl, rfl, List.prefix_rfl⟩

theorem sample {s t : State} (a : FeederWork s t) : SampleWork s t :=
  ⟨a.rpt, by rw [a.siu], by rw [a.siu], by rw [a.siu], by rw [a.siu], a.curves, a.groups, a.feeders, a.mdu,
    a.mgr, a.dueMinute, a.dueDay, a.pending, a.raised⟩

end FeederWork

namespace SampleWork

theorem refl (s : State) : SampleWork s s := (FeederWork.refl s).sample

theorem trans {s t u : State} (a : SampleWork s t) (b : SampleWork t u) : SampleWork s u :=
  ⟨b.rpt.trans a.rpt, b.staged.trans a.staged, b.active.trans a.active, b.activated.trans a.activated,
    b.foreign.trans a.foreign, b.curves.trans a.curves, b.groups.trans a.groups,
    b.feeders.trans a.feeders, b.mdu.trans a.mdu, b.mgr.trans a.mgr, b.dueMinute.trans a.dueMinute,
    b.dueDay.trans a.dueDay, b.pending.trans a.pending,
    a.raised.trans b.raised⟩

theorem ite {c : Prop} [Decidable c] {s t u : State} (a : SampleWork s t) (b : SampleWork s u) :
    SampleWork s (if c then t else u) := by
  split <;> assumption

theorem setStream (r : Role) (x : StreamRecord) (s : State) : SampleWork s (s.setStream r x) :=
  ⟨rfl, rfl, rfl, rfl, rfl, rfl, rfl, rfl, rfl, rfl, rfl, rfl, rfl, List.prefix_rfl⟩

theorem setPheStream (r : Role) (x : PheStream) (s : State) : SampleWork s (s.setPheStream r x) :=
  ⟨rfl, rfl, rfl, rfl, rfl, rfl, rfl, rfl, rfl, rfl, rfl, rfl, rfl, List.prefix_rfl⟩

end SampleWork

namespace ModeWork

theorem refl (s : State) : ModeWork s s := (OrderWork.refl s).mode

theorem trans {s t u : State} (a : ModeWork s t) (b : ModeWork t u) : ModeWork s u :=
  ⟨b.rpt.trans a.rpt, b.siu.trans a.siu, b.phe.trans a.phe, b.elu.trans a.elu, b.curves.trans a.curves,
    b.groups.trans a.groups, b.feeders.trans a.feeders, b.running.trans a.running, b.day.trans a.day,
    b.ms.trans a.ms, b.windows.trans a.windows, b.declarations.trans a.declarations,
    b.overrides.trans a.overrides, b.invalidTime.trans a.invalidTime, b.mgr.trans a.mgr,
    b.dueMinute.trans a.dueMinute, b.dueDay.trans a.dueDay, b.pending.trans a.pending,
    a.raised.trans b.raised⟩

theorem ite {c : Prop} [Decidable c] {s t u : State} (a : ModeWork s t) (b : ModeWork s u) :
    ModeWork s (if c then t else u) := by
  split <;> assumption

theorem setGroups (f : Slot) (a p : Option GroupNo) (s : State) : ModeWork s (s.setGroups f a p) :=
  ⟨rfl, rfl, rfl, rfl, rfl, rfl, rfl, rfl, rfl, rfl, rfl, rfl, rfl, rfl, rfl, rfl, rfl, rfl, List.prefix_rfl⟩

theorem foldl {α : Type} {g : State → α → State} (h : ∀ s a, ModeWork s (g s a)) (l : List α)
    (s : State) : ModeWork s (l.foldl g s) := by
  induction l generalizing s with
  | nil => exact refl s
  | cons a l ih => exact (h s a).trans (ih _)

theorem forSlots {g : Slot → State → State} (h : ∀ f s, ModeWork s (g f s)) (s : State) :
    ModeWork s (Machine.forSlots g s) := foldl (fun s f => h f s) _ s

end ModeWork

/-! ## GST -/

theorem applyGroup_feederWork (w : GroupWay) (n : Option SampleNo) (g : GroupNo) (f : Slot) (s : State) :
    FeederWork s (applyGroup w n g f s) :=
  (FeederWork.setGroups _ _ _ s).trans ((RcsWork.raise _ _ _ _).trans (groupNotify_work _ _)).feeder

theorem applyGroup_modeWork (w : GroupWay) (n : Option SampleNo) (g : GroupNo) (f : Slot) (s : State) :
    ModeWork s (applyGroup w n g f s) :=
  (ModeWork.setGroups _ _ _ s).trans ((RcsWork.raise _ _ _ _).trans (groupNotify_work _ _)).mode

theorem requestGroup_work (g : GroupNo) (f : Slot) (s : State) : ModeWork s (requestGroup g f s) := by
  unfold requestGroup
  split
  · exact .refl s
  · split
    · split
      · exact .refl s
      · exact (ModeWork.setGroups _ _ _ s).trans (EfsWork.raise _ _ _ _).mode
    · exact .ite (.refl s) (.ite ((ModeWork.setGroups _ _ _ s).trans (EfsWork.raise _ _ _ _).mode)
        (applyGroup_modeWork _ _ _ _ s))

theorem applyPending_work (n : SampleNo) (f : Slot) (s : State) : FeederWork s (applyPending n f s) := by
  unfold applyPending
  split
  · exact applyGroup_feederWork _ _ _ _ s
  · exact .refl s

theorem applyPendingAtEntry_work (f : Slot) (s : State) : FeederWork s (applyPendingAtEntry f s) := by
  unfold applyPendingAtEntry
  split
  · exact applyGroup_feederWork _ _ _ _ s
  · exact .refl s

theorem setActiveAtEntry_work (f : Slot) (s : State) : FeederWork s (setActiveAtEntry f s) :=
  .ite (.setGroups _ _ _ s) (.refl s)

/-! ## ELU -/

theorem orderTrip_work (i : Bool) (f : Slot) (s : State) : EfsWork s (orderTrip i f s) :=
  ((ask_work .open .protection f s).trans (tripReport_work _ _ _).efsWork).trans (abortHunt_work _ _)

theorem tripFeeder_work (f : Slot) (g : GroupNo) (gr : GroupRecord) (t : ElementSet) (h : HandOver)
    (s : State) : FeederWork s (tripFeeder f g gr t h s) := by
  have k := ((FeederWork.setElement f ((s.element f).act t) s).trans
    (.setTrip f (tripRecordOf s f g gr t h) _)).trans (EfsWork.raise (some f) (some h.sampleNo)
      (.trip t g (s.seq f).state (s.seq f).shot (t.inter gr.initiate).nonempty
        ((s.switch f).position == .opened)) _).feeder
  exact .ite k (k.trans (orderTrip_work _ _ _).feeder)

theorem decideFeederTrip_work (f : Slot) (g : GroupNo) (gr : GroupRecord) (h : HandOver) (s : State) :
    FeederWork s (decideFeederTrip f g gr h s) :=
  .ite (tripFeeder_work _ _ _ _ _ s) (.refl s)

theorem clearTurnedOn_work (f : Slot) (left : Option GroupNo) (s : State) :
    FeederWork s (clearTurnedOn f left s) := by
  unfold clearTurnedOn
  split
  · exact .setElement _ _ s
  · exact .refl s

theorem applyAtCompletion_work (f : Slot) (h : HandOver) (s : State) :
    FeederWork s (applyAtCompletion f h s) := by
  unfold applyAtCompletion
  split
  · exact .refl s
  · exact (applyPending_work _ _ s).trans (clearTurnedOn_work _ _ _)

theorem evaluate_work (f : Slot) (h : HandOver) (s : State) : FeederWork s (evaluate f h s) := by
  refine .ite ?_ (.refl s)
  have k := applyAtCompletion_work f h s
  dsimp only
  split
  · exact k
  · exact (k.trans (.setElement _ _ _)).trans (decideFeederTrip_work _ _ _ _ _)

/-! ## SIU -/

theorem handFeeder_work (f : Slot) (x : Sample) (filled : Bool) (st : StreamState) (s : State) :
    SampleWork s (handFeeder f x filled st s) := by
  unfold handFeeder
  dsimp only
  refine .ite ?_ (.setPheStream _ _ s)
  have k (h : HandOver) := (SampleWork.setPheStream f.role
    ((s.pheStream f.role).updateFeeder x filled st) s).trans (evaluate_work f h _).sample
  split
  · exact (k _).trans (efsFeederResult_work _ _ _).feeder.sample
  · exact k _

theorem handBus_work (x : Sample) (filled : Bool) (st : StreamState) (s : State) :
    SampleWork s (handBus x filled st s) :=
  .ite ((SampleWork.setPheStream _ _ s).trans (efsBusCompletion_work _ _).feeder.sample)
    (.setPheStream _ _ s)

theorem hand_work (r : Role) (x : Sample) (filled : Bool) (st : StreamState) (s : State) :
    SampleWork s (hand r x filled st s) := by
  unfold hand
  split
  · exact handFeeder_work _ _ _ _ s
  · exact handBus_work _ _ _ s

theorem streamEntered_work (r : Role) (s : State) : FeederWork s (streamEntered r s) := by
  unfold streamEntered
  split
  · exact applyPendingAtEntry_work _ s
  · exact (abortHunt_work _ s).feeder

theorem addStreamReason_work (r : Role) (s : State) : FeederWork s (addStreamReason r s) := by
  unfold addStreamReason
  split
  · exact (addReason_work _ _ s).feeder
  · exact .refl s

theorem streamStopped_work (r : Role) (n : Option SampleNo) (left : StreamState) (s : State) :
    FeederWork s (streamStopped r n left s) :=
  ((addStreamReason_work r s).trans (EfsWork.raise _ _ _ _).feeder).trans (streamEntered_work r _)

theorem enterFilling_work (r : Role) (x : Sample) (s : State) : SampleWork s (enterFilling r x s) :=
  ((SampleWork.setPheStream _ _ s).trans (.setStream _ _ _)).trans (hand_work _ _ _ _ _)

theorem startFilling_work (r : Role) (x : Sample) (s : State) : SampleWork s (startFilling r x s) :=
  (enterFilling_work r x s).trans (streamEntered_work r _).sample

theorem breakStream_work (r : Role) (x : Sample) (s : State) : SampleWork s (breakStream r x s) :=
  ((SampleWork.setStream _ _ s).trans (enterFilling_work _ _ _)).trans (streamStopped_work _ _ _ _).sample

theorem acceptNext_work (r : Role) (x : Sample) (s : State) : SampleWork s (acceptNext r x s) :=
  (SampleWork.setStream _ _ s).trans (hand_work _ _ _ _ _)

theorem fillGap_work (r : Role) (x : Sample) (l : List Nat) (s : State) :
    SampleWork s (fillGap r x l s) := by
  unfold fillGap
  induction l generalizing s with
  | nil => exact .refl s
  | cons i l ih => exact (hand_work r _ true .patched s).trans (ih _)

theorem bridgeGap_work (r : Role) (x : Sample) (k : Nat) (s : State) : SampleWork s (bridgeGap r x k s) :=
  ((SampleWork.setStream _ _ s).trans (fillGap_work _ _ _ _)).trans (acceptNext_work _ _ _)

theorem enterLocked_work (r : Role) (n : SampleNo) (s : State) : SampleWork s (enterLocked r n s) := by
  unfold enterLocked raiseStream
  dsimp only
  refine SampleWork.trans ?_ (EfsWork.raise _ _ _ _).feeder.sample
  split
  · exact (SampleWork.setStream _ _ s).trans (removeReason_work _ _ _).feeder.sample
  · exact .setStream _ _ s

theorem fillNext_work (r : Role) (x : Sample) (s : State) : SampleWork s (fillNext r x s) :=
  .ite (((SampleWork.setStream _ _ s).trans (enterLocked_work _ _ _)).trans (hand_work _ _ _ _ _))
    ((SampleWork.setStream _ _ s).trans (hand_work _ _ _ _ _))

theorem takeSample_work (r : Role) (x : Sample) (s : State) : SampleWork s (takeSample r x s) := by
  unfold takeSample takeFilling takeDelivering
  have discard : SampleWork s (discardSample r s) := .setStream _ _ s
  have resync : SampleWork s (startFilling r x (countResync r s)) :=
    (SampleWork.setStream _ _ s).trans (startFilling_work _ _ _)
  split
  · exact startFilling_work _ _ s
  · exact startFilling_work _ _ s
  · split
    · exact fillNext_work _ _ s
    · exact resync
    · exact discard
    · exact discard
    · exact resync
  all_goals
    split
    · exact acceptNext_work _ _ s
    · exact bridgeGap_work _ _ _ s
    · exact discard
    · exact discard
    · exact breakStream_work _ _ s

theorem streamLost_work (r : Role) (s : State) : SampleWork s (streamLost r s) :=
  (SampleWork.setStream _ _ s).trans (streamStopped_work _ _ _ _).sample

theorem takeStateFrame_work (a : RingAddr) (p : List Byte) (s : State) :
    OrderWork s (takeStateFrame a p s) := by
  unfold takeStateFrame
  split
  · exact takeState_work _ _ s
  · exact .refl s

/-! ## MDU -/

theorem setMode_work (d : District) (m : Mode) (src : ModeSource) (s : State) :
    ModeWork s (setMode d m src s) :=
  ⟨rfl, rfl, rfl, rfl, rfl, rfl, rfl, rfl, rfl, rfl, rfl, rfl, rfl, rfl, rfl, rfl, rfl, rfl, List.prefix_rfl⟩

theorem fireFollows_work (d : District) (l m : Mode) (f : Slot) (s : State) :
    EfsWork s (fireFollows d l m f s) :=
  .ite (.ite (addFire_work _ s) (.ite (removeReason_work _ _ s).efsWork (.refl s))) (.refl s)

theorem askGroup_work (d : District) (m : Mode) (f : Slot) (s : State) : ModeWork s (askGroup d m f s) := by
  refine .ite ?_ (.refl s)
  dsimp only
  split
  · exact .refl s
  · exact .ite (requestGroup_work _ _ s) (.refl s)

theorem changeMode_work (d : District) (m : Mode) (src : ModeSource) (s : State) :
    ModeWork s (changeMode d m src s) :=
  ((setMode_work d m src s).trans (EfsWork.raise _ _ _ _).mode).trans
    ((ModeWork.forSlots (fun f t => (fireFollows_work _ _ _ f t).mode) _).trans
      (.forSlots (askGroup_work d m) _))

theorem evaluateDistrict_work (s : State) (d : District) : ModeWork s (evaluateDistrict s d) :=
  .ite (setMode_work _ _ _ s) (changeMode_work _ _ _ s)

theorem updateBusMode_work (s : State) : ModeWork s (updateBusMode s) := by
  refine .ite (.refl s) (.ite (ModeWork.trans (t := _) ?_ (efsBecameBan_work _).mode) ?_) <;>
  exact ⟨rfl, rfl, rfl, rfl, rfl, rfl, rfl, rfl, rfl, rfl, rfl, rfl, rfl, rfl, rfl, rfl, rfl, rfl, List.prefix_rfl⟩

theorem evaluateModes_work (s : State) : ModeWork s (evaluateModes s) :=
  (ModeWork.foldl evaluateDistrict_work _ s).trans (updateBusMode_work _)

/-! ## The end of an event -/

/-- What the end of an event leaves: everything but the notices raised, the notice queue with its
dropped count and sequence number, RPT's buffers and OUT port, and the order that may be started. -/
structure FinishWork (s t : State) : Prop where
  siu : t.siu = s.siu
  phe : t.phe = s.phe
  elu : t.elu = s.elu
  gst : t.gst = s.gst
  rcs : t.rcs = s.rcs
  efs : t.efs = s.efs
  mdu : t.mdu = s.mdu
  due : t.due = s.due
  pending : t.pending = s.pending
  raised : t.raised = []
  fifo : t.mgr.fifo = s.mgr.fifo
  overflow : t.mgr.overflow = s.mgr.overflow
  device : t.mgr.device = s.mgr.device
  destination : t.mgr.destination = s.mgr.destination
  ownAddress : t.rpt.ownAddress = s.rpt.ownAddress
  crcErrors : t.rpt.crcErrors = s.rpt.crcErrors
  formatErrors : t.rpt.formatErrors = s.rpt.formatErrors
  overflows : t.rpt.overflows = s.rpt.overflows
  overflowFlag : t.rpt.overflowFlag = s.rpt.overflowFlag
  echoMissing : t.oru.echoMissing = s.oru.echoMissing

theorem joinQueue_keeps (m : Mgr) (n : Notice) :
    (joinQueue m n).fifo = m.fifo ∧ (joinQueue m n).overflow = m.overflow ∧
      (joinQueue m n).device = m.device ∧ (joinQueue m n).destination = m.destination ∧
      (joinQueue m n).sequence = m.sequence := by
  unfold joinQueue
  split
  · exact ⟨rfl, rfl, rfl, rfl, rfl⟩
  · split <;> exact ⟨rfl, rfl, rfl, rfl, rfl⟩

theorem joinQueues_keep (ns : List Notice) (m : Mgr) :
    (ns.foldl joinQueue m).fifo = m.fifo ∧ (ns.foldl joinQueue m).overflow = m.overflow ∧
      (ns.foldl joinQueue m).device = m.device ∧ (ns.foldl joinQueue m).destination = m.destination ∧
      (ns.foldl joinQueue m).sequence = m.sequence := by
  induction ns generalizing m with
  | nil => exact ⟨rfl, rfl, rfl, rfl, rfl⟩
  | cons n ns ih =>
    obtain ⟨a, b, c, d, e⟩ := ih (joinQueue m n)
    obtain ⟨a', b', c', d', e'⟩ := joinQueue_keeps m n
    exact ⟨a.trans a', b.trans b', c.trans c', d.trans d', e.trans e'⟩

theorem flushNotices_work (s : State) : FinishWork s (flushNotices s) := by
  obtain ⟨a, b, c, d, _⟩ := joinQueues_keep (joinOrder s.raised) s.mgr
  exact ⟨rfl, rfl, rfl, rfl, rfl, rfl, rfl, rfl, rfl, rfl, a, b, c, d, rfl, rfl, rfl, rfl, rfl, rfl⟩

theorem flushNotices_rpt (s : State) : (flushNotices s).rpt = s.rpt := rfl

theorem flushNotices_oru (s : State) : (flushNotices s).oru = s.oru := rfl

theorem arbitrate_work {s t : State} (h : FinishWork s t) : FinishWork s (arbitrate t) := by
  obtain ⟨h1, h2, h3, h4, h5, h6, h7, h8, h9, h10, h11, h12, h13, h14, h15, h16, h17, h18, h19, h20⟩ := h
  have own : FinishWork s (chooseOwn t) := by
    unfold chooseOwn
    split
    · exact ⟨h1, h2, h3, h4, h5, h6, h7, h8, h9, h10, h11, h12, h13, h14, h15, h16, h17, h18, h19, h20⟩
    · split <;>
      exact ⟨h1, h2, h3, h4, h5, h6, h7, h8, h9, h10, h11, h12, h13, h14, h15, h16, h17, h18, h19, h20⟩
  have fwd : FinishWork s (chooseForward t) := by
    unfold chooseForward
    split
    · exact ⟨h1, h2, h3, h4, h5, h6, h7, h8, h9, h10, h11, h12, h13, h14, h15, h16, h17, h18, h19, h20⟩
    · split
      · exact own
      · exact ⟨h1, h2, h3, h4, h5, h6, h7, h8, h9, h10, h11, h12, h13, h14, h15, h16, h17, h18, h19, h20⟩
  unfold arbitrate
  split
  · unfold chooseFrame
    split
    · split
      · exact ⟨h1, h2, h3, h4, h5, h6, h7, h8, h9, h10, h11, h12, h13, h14, h15, h16, h17, h18, h19, h20⟩
      · exact fwd
    · exact fwd
  · exact ⟨h1, h2, h3, h4, h5, h6, h7, h8, h9, h10, h11, h12, h13, h14, h15, h16, h17, h18, h19, h20⟩

/-- What the end of an event can do. -/
theorem finish_work (s : State) : FinishWork s (finish s) := arbitrate_work (flushNotices_work s)

/-- While the OUT port is SENDING, the end of an event leaves RPT and ORU as they are. -/
theorem finish_sending {s : State} {bs : List Byte} (h : s.rpt.out = .sending bs) :
    finish s = flushNotices s := by
  unfold finish arbitrate
  rw [flushNotices_rpt, h]

end Sys2Proof.Machine
end

