-- ==== Sys2Proof/Laws/Records.lean ====
section
/-! SUPPORT. The readers of Machine/Ops.lean at a state written out block by block, as a record update
leaves it: a reader looks at its own block alone, and an entry of a block is its reader's value. -/

namespace Sys2Proof.Machine.State

section
variable (rpt : Rpt) (siu : Siu) (phe : Phe) (elu : Elu) (gst : Gst) (oru : Oru) (rcs : Rcs)
  (efs : Efs) (mdu : Mdu) (mgr : Mgr) (due : Due) (raised : List Notice) (pending : List Instr)
  (r : Role) (f : Slot) (g : GroupNo)
@[simp] theorem stream_mk :
    stream ⟨rpt, siu, phe, elu, gst, oru, rcs, efs, mdu, mgr, due, raised, pending⟩ r = siu.streams[r.val] := rfl
@[simp] theorem pheStream_mk :
    pheStream ⟨rpt, siu, phe, elu, gst, oru, rcs, efs, mdu, mgr, due, raised, pending⟩ r = phe.streams[r.val] := rfl
@[simp] theorem element_mk :
    element ⟨rpt, siu, phe, elu, gst, oru, rcs, efs, mdu, mgr, due, raised, pending⟩ f = elu.elements[f.val] := rfl
@[simp] theorem trip_mk :
    trip ⟨rpt, siu, phe, elu, gst, oru, rcs, efs, mdu, mgr, due, raised, pending⟩ f = elu.trips[f.val] := rfl
@[simp] theorem feeder_mk :
    feeder ⟨rpt, siu, phe, elu, gst, oru, rcs, efs, mdu, mgr, due, raised, pending⟩ f = gst.feeders[f.val] := rfl
@[simp] theorem activeGroup_mk :
    activeGroup ⟨rpt, siu, phe, elu, gst, oru, rcs, efs, mdu, mgr, due, raised, pending⟩ f = gst.activeGroup[f.val] := rfl
@[simp] theorem pendingGroup_mk :
    pendingGroup ⟨rpt, siu, phe, elu, gst, oru, rcs, efs, mdu, mgr, due, raised, pending⟩ f = gst.pendingGroup[f.val] := rfl
@[simp] theorem switch_mk :
    switch ⟨rpt, siu, phe, elu, gst, oru, rcs, efs, mdu, mgr, due, raised, pending⟩ f = oru.switches[f.val] := rfl
@[simp] theorem order_mk :
    order ⟨rpt, siu, phe, elu, gst, oru, rcs, efs, mdu, mgr, due, raised, pending⟩ f = oru.orders[f.val] := rfl
@[simp] theorem seq_mk :
    seq ⟨rpt, siu, phe, elu, gst, oru, rcs, efs, mdu, mgr, due, raised, pending⟩ f = rcs.seqs[f.val] := rfl
@[simp] theorem group_mk :
    group ⟨rpt, siu, phe, elu, gst, oru, rcs, efs, mdu, mgr, due, raised, pending⟩ f g =
      gst.groups[(groupIndex f g).val] := rfl
@[simp] theorem switchAddress_mk :
    switchAddress ⟨rpt, siu, phe, elu, gst, oru, rcs, efs, mdu, mgr, due, raised, pending⟩ f =
      siu.active[9 + f.val] := rfl
@[simp] theorem samplingAddress_mk :
    samplingAddress ⟨rpt, siu, phe, elu, gst, oru, rcs, efs, mdu, mgr, due, raised, pending⟩ r =
      siu.active[r.val] := rfl
end

section
variable (s : State) (r : Role) (f : Slot) (g : GroupNo)
@[simp] theorem stream_fold : s.siu.streams[r.val] = s.stream r := rfl
@[simp] theorem pheStream_fold : s.phe.streams[r.val] = s.pheStream r := rfl
@[simp] theorem element_fold : s.elu.elements[f.val] = s.element f := rfl
@[simp] theorem trip_fold : s.elu.trips[f.val] = s.trip f := rfl
@[simp] theorem feeder_fold : s.gst.feeders[f.val] = s.feeder f := rfl
@[simp] theorem activeGroup_fold : s.gst.activeGroup[f.val] = s.activeGroup f := rfl
@[simp] theorem pendingGroup_fold : s.gst.pendingGroup[f.val] = s.pendingGroup f := rfl
@[simp] theorem switch_fold : s.oru.switches[f.val] = s.switch f := rfl
@[simp] theorem order_fold : s.oru.orders[f.val] = s.order f := rfl
@[simp] theorem seq_fold : s.rcs.seqs[f.val] = s.seq f := rfl
@[simp] theorem group_fold : s.gst.groups[(groupIndex f g).val] = s.group f g := rfl
@[simp] theorem switchAddress_fold : s.siu.active[9 + f.val] = s.switchAddress f := rfl
@[simp] theorem samplingAddress_fold : s.siu.active[r.val] = s.samplingAddress r := rfl
end

end Sys2Proof.Machine.State
end

