-- ==== Sys2Proof/Laws/Specs.lean ====
section
/-! SUPPORT. What the shared operations do, said once in the words of Safety.lean: reception, the end of an
event, the insertion arbiter, the lockout, the request for an order, and who takes which report. -/

namespace Sys2Proof.Machine

/-! ## Counters, positions, block reasons -/

theorem countUp_eq_min (n : Nat) : countUp n = min 65535 (n + 1) := by
  unfold countUp; split <;> omega

theorem derivePosition_eq_positionOf (r : Option Reported) (o : OrderRecord) :
    derivePosition r o = positionOf r o := by
  rcases r with _ | ⟨_ | _ | _⟩ <;> rfl

theorem setSeq_setSeq (s : State) (f : Slot) (a b : SeqRecord) :
    (s.setSeq f a).setSeq f b = s.setSeq f b := by
  simp [State.setSeq, upd]

theorem noReason_iff (s : State) (f : Slot) : NoReason s f ↔ (s.seq f).reasons.isEmpty = true := by
  constructor
  · intro h
    have a := h .fire
    have b := h .tag
    have c := h .local
    have d := h .stream
    have e := h .switch
    have g := h .hunt
    have i := h .earth
    have j := h .operator
    simp [State.holds, ReasonSet.has] at a b c d e g i j
    simp [ReasonSet.isEmpty, *]
  · intro h r
    simp [ReasonSet.isEmpty] at h
    cases r <;> simp [State.holds, ReasonSet.has, h]

theorem not_noReason_iff (s : State) (f : Slot) :
    ¬ NoReason s f ↔ (s.seq f).reasons.isEmpty = false := by
  rw [noReason_iff]; simp

theorem inFlight_iff (o : OrderRecord) : o.inFlight = true ↔ o.state ≠ .idle := by
  simp [OrderRecord.inFlight]

/-! ## Lockout and the request for an order -/

theorem enterLockout_eq (c : LockoutCause) (f : Slot) (s : State) (h : (s.seq f).state ≠ .lockout) :
    enterLockout c f s = withLockout c f s := by
  simp [enterLockout, h, raise]

theorem withLockout_setDead (c : LockoutCause) (f : Slot) (s : State) (d : Option Nat) :
    withLockout c f (s.setSeq f { s.seq f with dead := d }) = withLockout c f s := by
  simp [withLockout, setSeq_setSeq]

theorem freshNumber_eq (s : State) (f : Slot) :
    freshNumber (s.order f).lastIssued (s.switch f).lastExecuted = fresh s f := by
  unfold freshNumber fresh numberAfter; split
  · rw [BitVec.add_assoc]; rfl
  · rfl

theorem enterRequested_eq (k : OrderKind) (who : Origin) (f : Slot) (s : State) :
    enterRequested k who f s = withRequest k who f s := by
  unfold enterRequested; simp only [freshNumber_eq]
  unfold withRequest putOrder refreshPosition
  simp [derivePosition_eq_positionOf, OriginSet.empty]

/-! ## Who takes which report -/

theorem awaits_of_eq (q : SeqRecord) (p : OrderReport)
    (h : p.number.isSome = true ∧ p.number = q.awaited) : q.awaits p = true := by
  obtain ⟨h, e⟩ := h
  unfold SeqRecord.awaits; rw [← e]
  cases hn : p.number with
  | none => rw [hn] at h; cases h
  | some n => simp

/-- EFS takes an answer for its own asks alone: TAKEN, MERGED and REFUSED reports change nothing in it. -/
theorem efsReport_answer (p : OrderReport) (s : State)
    (h : p.happened = .taken ∨ p.happened = .merged ∨ p.happened = .refused) : efsReport p s = s := by
  unfold efsReport; split
  · split <;> try rfl
    · split <;> try rfl
      unfold identifiedReport; rcases h with h | h | h <;> simp [h]
    · split <;> try rfl
      split <;> try rfl
      · unfold stepOpenReport; rcases h with h | h | h <;> simp [h]
      · unfold stepRestoreReport; rcases h with h | h | h <;> simp [h]
    · unfold busTripReport; rcases h with h | h | h <;> simp [h]
  · rfl

/-- RCS takes an answer only where the origin is OPERATOR (R116). -/
theorem rcsReport_answer (p : OrderReport) (s : State)
    (h : p.happened = .taken ∨ p.happened = .merged ∨ p.happened = .refused) (ho : p.origin ≠ .operator) :
    rcsReport p s = s := by
  unfold rcsReport; rcases h with h | h | h <;> simp [h, ho]

theorem deliver_answer (p : OrderReport) (s : State)
    (h : p.happened = .taken ∨ p.happened = .merged ∨ p.happened = .refused) (ho : p.origin ≠ .operator) :
    deliver p s = s := by
  rw [deliver, rcsReport_answer p s h ho, efsReport_answer p s h]

/-! ## Elements, service, FIRE -/

theorem begunCleared_iff (old new : GroupRecord) (e x : ElementState) :
    BegunCleared old new e x ↔ x = e.turnedOn old new := by
  cases x
  simp [BegunCleared, ElementState.turnedOn, DefiniteState.turnedOn, InverseState.turnedOn,
    DefiniteState.cleared, InverseState.cleared]

theorem clearTurnedOn_activeGroup (f : Slot) (left : Option GroupNo) (s : State) :
    (clearTurnedOn f left s).activeGroup f = s.activeGroup f := by
  unfold clearTurnedOn; split <;> rfl

theorem leaveSequencer_mid (f : Slot) (s : State) (h : MidSequence (s.seq f)) :
    leaveSequencer f s = withLockout .service f s := by
  rcases h with h | h | h <;> simp [leaveSequencer, h, enterLockout_eq]

theorem leaveSequencer_seq (f : Slot) (s : State) : (leaveSequencer f s).seq f = seqLeft (s.seq f) := by
  by_cases h : MidSequence (s.seq f)
  · rw [leaveSequencer_mid f s h]; rcases h with h | h | h <;> simp [seqLeft, h]
  · cases q : (s.seq f).state <;> simp_all [leaveSequencer, seqLeft, MidSequence]

/-! ## Streams and earth faults -/

/-- While the bus stream does not deliver, a feeder's result forms no pair (R148). -/
theorem efsFeederResult_busSilent (f : Slot) (r : CycleResult) (s : State)
    (h : ¬ Delivering busRole s) : efsFeederResult f r s = s := by
  refine if_neg fun ⟨_, _, d⟩ => h ?_
  unfold Delivering
  revert d; cases (s.stream busRole).state <;> simp [StreamState.delivers]

theorem slotOf_role (k : Slot) : slotOf k.role = some k := by
  revert k; decide

theorem slotOf_bus : slotOf busRole = none := rfl

theorem hand_feeder (k : Slot) (x : Sample) (filled : Bool) (st : StreamState) (s : State) :
    hand k.role x filled st s = handFeeder k x filled st s := by rw [hand, slotOf_role]

theorem hand_bus (x : Sample) (filled : Bool) (st : StreamState) (s : State) :
    hand busRole x filled st s = handBus x filled st s := rfl

/-- A feeder stream's entry into FILLING or LOST applies a pending group (R75); the bus stream's is told to
EFS (R142, R148). -/
theorem streamEntered_feeder (k : Slot) (s : State) :
    streamEntered k.role s = applyPendingAtEntry k s := by rw [streamEntered, slotOf_role]

theorem streamEntered_bus (s : State) : streamEntered busRole s = abortHunt .busStream s := rfl

theorem abortHunt_not_underWay (c : AbortCause) (s : State) (h : ¬ HuntUnderWay s) :
    abortHunt c s = s := if_neg h

theorem endEpisode_eq (o : EarthOutcome) (k : Option Slot) (s : State) :
    endEpisode o k s = episodeEnded o k s := rfl

theorem writePersistent_eq (s : State) :
    writeOutcome .persistent none (enterState .persistent s) = persisting s := rfl

theorem clearStep_eq (s : State) : clearStep s = stepCleared s := rfl

theorem removeHunt_eq (f : Slot) (s : State) : removeReason .hunt f s = withoutHunt f s := rfl

theorem setSeq_self (s : State) (f : Slot) : s.setSeq f (s.seq f) = s := by
  have h : upd s.rcs.seqs f s.rcs.seqs[f] = s.rcs.seqs := Vector.set_getElem_self ..
  show { s with rcs := { s.rcs with seqs := upd s.rcs.seqs f s.rcs.seqs[f] } } = s
  rw [h]

/-- What EARTH and the lockout's demand leave of a feeder that EFS leaves open (R117, R147). -/
theorem leftOpen_demandLockout (f : Slot) (s : State) :
    LeftOpen f s (demandLockout f (addReason .earth f s)) := by
  rcases e : (s.seq f).reasons.earth
  · unfold LeftOpen earthLocked demandLockout addReason enterLockout raise
    rcases h : s.acting f <;> rcases q : (s.seq f).state <;>
      simp [h, e, q, ReasonSet.has, ReasonSet.put, setSeq_setSeq] <;> simp [State.setSeq]
  · have held : addReason .earth f s = s := by simp [addReason, ReasonSet.has, e]
    have same : { s.seq f with reasons := { (s.seq f).reasons with earth := true } } = s.seq f := by
      rw [← e]
    unfold LeftOpen earthLocked demandLockout
    rw [held, same]
    by_cases h : s.acting f = false ∨ (s.seq f).state = .lockout
    · have stays : (if s.acting f = true then enterLockout .earth f s else s) = s := by
        rcases h with h | h <;> simp [h, enterLockout]
      simp [stays, if_pos h, setSeq_self]
    · have a : s.acting f = true := by simpa using fun x => h (.inl x)
      have b : (s.seq f).state ≠ .lockout := fun x => h (.inr x)
      simp [a, b, e, enterLockout_eq _ _ _ b]

/-! ## Reception -/

theorem frameKind_ofByte (b : Byte) : FrameKind.ofByte b =
    (if b.toNat = 1 then some .sample else if b.toNat = 2 then some .state
      else if b.toNat = 3 then some .time else if b.toNat = 4 then some .order
      else if b.toNat = 5 then some .request else if b.toNat = 6 then some .reply
      else if b.toNat = 7 then some .notice else none) := by
  revert b; decide

theorem goodLength_eq_false (f : RxFrame) : goodLength f = false ↔ BadLength f := by
  unfold goodLength BadLength lengthOf kindOf payloadLength
  rw [frameKind_ofByte]
  simp only [nat8At]
  have key : ∀ (c : Bool) (k n l : Nat),
      ((!c && decide (l = 4 + n + 2) && decide (n ≤ 240) &&
        (match (if k = 1 then some FrameKind.sample else if k = 2 then some .state
            else if k = 3 then some .time else if k = 4 then some .order
            else if k = 5 then some .request else if k = 6 then some .reply
            else if k = 7 then some .notice else none) with
          | some k => k.lengthAllowed n
          | none => true)) = false ↔
        (l ≠ 4 + n + 2 ∨ 240 < n ∨ k = 1 ∧ n ≠ 12 ∨ k = 2 ∧ n ≠ 4 ∨ k = 3 ∧ n ≠ 6 ∨ k = 4 ∧ n ≠ 4 ∨
          k = 5 ∧ n < 2 ∨ k = 6 ∧ n < 4 ∨ k = 7 ∧ n < 16 ∨ c = true)) := by
    intro c k n l
    cases c <;> simp
    by_cases h1 : k = 1
    · subst h1; simp [FrameKind.lengthAllowed]; omega
    by_cases h2 : k = 2
    · subst h2; simp [FrameKind.lengthAllowed]; omega
    by_cases h3 : k = 3
    · subst h3; simp [FrameKind.lengthAllowed]; omega
    by_cases h4 : k = 4
    · subst h4; simp [FrameKind.lengthAllowed]; omega
    by_cases h5 : k = 5
    · subst h5; simp [FrameKind.lengthAllowed]; omega
    by_cases h6 : k = 6
    · subst h6; simp [FrameKind.lengthAllowed]; omega
    by_cases h7 : k = 7
    · subst h7; simp [FrameKind.lengthAllowed]; omega
    simp [h1, h2, h3, h4, h5, h6, h7]; omega
  exact key f.cutShort _ _ _

theorem goodCrc_eq_false (f : RxFrame) : goodCrc f.bytes = false ↔ ¬ CrcMatches f := by
  unfold goodCrc CrcMatches framedBytes payloadLength lengthOf; simp

theorem goodSource_eq_false (f : RxFrame) : goodSource f.bytes = false ↔ BadSource f := by
  unfold goodSource BadSource sourceOf
  simp [bne]; tauto

/-- The five commands in which a frame is received have one meaning. -/
theorem exec_received (i : Instr) (f : RxFrame) (s : State)
    (h : i = .sample f ∨ i = .state f ∨ i = .time f ∨ i = .request f ∨ i = .frameReceived f) :
    exec i s = .next (finish (receiveFrame f s)) := by
  rcases h with h | h | h | h | h <;> subst h <;> rfl

theorem receiveFrame_wellFormed (f : RxFrame) (s : State) (h : WellFormedFrame f) :
    receiveFrame f s = handleFrame f.bytes s := by
  obtain ⟨a, b, c⟩ := h
  rw [receiveFrame, if_neg (mt (goodLength_eq_false f).1 a), if_neg,
    if_neg (mt (goodSource_eq_false f).1 c)]
  rw [goodCrc_eq_false]; simpa using b

theorem forwardFrame_eq (f : RxFrame) (s : State) : forwardFrame f.bytes s = forwarded f s := by
  unfold forwardFrame forwarded; simp [countUp_eq_min]

theorem hasAddress_iff (s : State) : hasAddress s = true ↔ OnTheRing s := by
  simp [hasAddress, OnTheRing]

/-! ## The end of an event -/

theorem flushNotices_none (s : State) (h : s.raised = []) : flushNotices s = s := by
  cases s; simp_all [flushNotices, joinOrder, allSlots]

theorem finish_none (s : State) (h : s.raised = []) : finish s = arbitrate s := by
  rw [finish, flushNotices_none s h]

theorem joinQueue_foldl (ns : List Notice) (m : Mgr) (h : m.notices.length + ns.length ≤ 32) :
    ns.foldl joinQueue m = { m with notices := m.notices ++ ns } := by
  induction ns generalizing m with
  | nil => simp
  | cons n ns ih =>
    simp at h
    rw [List.foldl_cons, ih] <;> rw [joinQueue, if_pos (by omega)]
    · simp
    · simp; omega

theorem priority_le (n : Notice) : n.body.priority ≤ 8 := by
  cases n.body <;> simp [NoticeBody.priority]

theorem le_lowestPriority (k : Nat) (l : List Notice) (h8 : k ≤ 8)
    (h : ∀ x ∈ l, k ≤ x.body.priority) : k ≤ lowestPriority l := by
  induction l with
  | nil => simpa [lowestPriority] using h8
  | cons a l ih =>
    rw [lowestPriority]
    have := ih fun x hx => h x (by simp [hx])
    have := h a (by simp)
    omega

theorem requestedSlot_lowest (s : State) (f : Slot) (h : (s.order f).state = .requested)
    (hl : ∀ g : Slot, g < f → (s.order g).state ≠ .requested) : requestedSlot s = some f := by
  have e : ∀ g : Slot, g < f → ((s.order g).state == .requested) = false :=
    fun g hg => by simpa using hl g hg
  unfold requestedSlot allSlots
  fin_cases f
  all_goals simp only [List.find?]
  all_goals repeat (rw [e _ (by decide)])
  all_goals simp_all

theorem requestedSlot_none (s : State) (h : ∀ g : Slot, (s.order g).state ≠ .requested) :
    requestedSlot s = none := by
  simp [requestedSlot, h]

theorem noticeHead_mem (l : List Notice) : ∀ m, noticeHead l = some m → m ∈ l := by
  induction l with
  | nil => simp [noticeHead]
  | cons x b ih =>
    intro m; unfold noticeHead
    split
    · simp; rintro rfl; simp
    · rename_i y hy; split <;> simp <;> rintro rfl <;> simp_all

/-- The notice the arbiter takes: the oldest of the highest priority (R188). -/
theorem noticeHead_highest (a b : List Notice) (n : Notice)
    (ha : ∀ m ∈ a, m.body.priority < n.body.priority)
    (hb : ∀ m ∈ b, m.body.priority ≤ n.body.priority) : noticeHead (a ++ n :: b) = some n := by
  have hn : noticeHead (n :: b) = some n := by
    unfold noticeHead; split
    · rfl
    · rename_i m hm; rw [if_neg (by have := hb m (noticeHead_mem b m hm); omega)]
  induction a with
  | nil => exact hn
  | cons x a ih =>
    rw [List.cons_append, noticeHead, ih fun m hm => ha m (by simp [hm])]
    simp [ha x (by simp)]

end Sys2Proof.Machine
end

