-- ==== Sys2Proof/WellFormed.lean ====
section
/-! DEFINITION. Which commands are well formed: a row that names a frame kind carries a frame of that
kind. The meaning of a received frame depends on its bytes alone (log entry 6), so this check bounds
what a sender means by a row; `exec` is total. -/

namespace Sys2Proof

/-- The kind byte of a received frame (R196), if it got that far. -/
def RxFrame.kindByte? (f : RxFrame) : Option Byte := f.bytes[2]?

/-- The destination address of a received frame (R196, R198: the low six bits). -/
def RxFrame.destination? (f : RxFrame) : Option RingAddr :=
  f.bytes[0]?.map (fun b => b.extractLsb' 0 6)

/-- The row's frame is of the row's kind; TIME is addressed to 63 (R172). -/
def Instr.wellFormed : Instr → Bool
  | .sample f        => f.kindByte? == some 1
  | .state f         => f.kindByte? == some 2
  | .time f          => f.kindByte? == some 3 && f.destination? == some 63
  | .request f       => f.kindByte? == some 5
  | .frameReceived f => f.kindByte? != some 1 && f.kindByte? != some 2
  | .powerOn _       => true
  | .localTick       => true
  | .minuteBoundary  => true
  | .dayChange       => true
  | .frameEnd        => true
  | .supervisionTimerExpiry _ => true
  | .stateSupervisionExpiry _ => true
  | .echoWatchExpiry _    => true
  | .confirmTimerExpiry _ => true
  | .deadTimerExpiry _    => true
  | .reclaimTimerExpiry _ => true
  | .huntLimitExpiry => true
  | .read            => true
  | .write           => true
  | .status          => true
  | .snapshot        => true
  | .operate         => true
  | .block           => true
  | .unblock         => true
  | .resetLockout    => true
  | .resetSwitch     => true
  | .override        => true
  | .startHunt       => true
  | .abortHunt       => true
  | .enterService    => true
  | .leaveService    => true
  | .restart         => true
  | .unknownRequestKind => true

end Sys2Proof
end

