-- ==== Sys2Proof/Tests/Slice0.lean ====
section
/-! SUPPORT. The model's own tests: the well-formedness smoke, the manual's worked examples, one or two
small tests of a command, and for every obligation with hypotheses a state and operands that meet them,
clause by clause. -/

set_option Elab.async false

namespace Sys2Proof.Tests

open Sys2Proof Sys2Proof.Machine

/-! ## States and frames -/

/-- The state after a command that completes. -/
def after (i : Instr) (s : State) : State :=
  match exec i s with
  | .next t => t
  | .fault _ => s
  | .refused _ => s

def frame (dst src : RingAddr) (k : FrameKind) (p : List Byte) : RxFrame := ⟨buildFrame dst src k p, false⟩

def units : Vector RingAddr 17 := #v[10, 11, 12, 13, 14, 15, 16, 17, 18, 20, 21, 22, 23, 24, 25, 26, 27]

/-- The map activated, every other field as after power-on. -/
def mapped : State :=
  { State.reset with siu := { Siu.powerOn with staged := units, active := units, activated := true } }

def plainGroup : GroupRecord :=
  { GroupRecord.powerOn with
    phHs := ⟨800, 4⟩, phIt := ⟨0, 0, 1, 0, 1⟩, efIt := ⟨0, 0, 1, 0, 1⟩, initiate := .full, maxShots := 2, shot0Live := .full
    shots := .replicate 4 ⟨50, .full⟩, reclaimTime := 2000 }

/-- In service, the eight feeders with it, every group valid, no stream delivering. -/
def serving : State :=
  { mapped with
    gst := { Gst.powerOn with
      groups := .replicate 32 plainGroup
      feeders := .replicate 8 { FeederRecord.powerOn with inService := true }
      activeGroup := .replicate 8 (some 0) }
    mdu := { Mdu.powerOn with busMode := .season }
    mgr := { Mgr.powerOn with device := .inService } }

/-- `s` with no block reason at all for feeder `f`. -/
def freed (f : Slot) (s : State) : State :=
  s.setSeq f { s.seq f with reasons := ⟨false, false, false, false, false, false, false, false⟩ }

def inState (q : SeqState) (k : Nat) (f : Slot) (s : State) : State :=
  s.setSeq f { s.seq f with state := q, shot := k }

def orderIn (st : OrderState) (k : OrderKind) (o : Origin) (n : OrderNo) (f : Slot) (s : State) : State :=
  s.setOrder f ⟨st, k, o, .empty, n, n, some 0, some 0⟩

def streamIn (st : StreamState) (n : SampleNo) (c p : Nat) (r : Role) (s : State) : State :=
  s.setStream r { s.stream r with state := st, lastSample := n, consecutive := c, patch := p }

/-- `s` with a request of kind `k` and parameters `ps` alone in the FIFO. -/
def asking (k : Byte) (ps : List Byte) (s : State) : State :=
  { s with mgr := { s.mgr with fifo := [⟨5, k :: 9 :: ps⟩] } }

def req (k : Byte) (ps : List Byte) : Request := ⟨5, k :: 9 :: ps⟩

def sampleFrame (n : Nat) : RxFrame := frame 63 10 .sample (u16 n ++ [0, 0, 0, 1, 0, 2, 0, 3, 0, 4])

/-- The same of the bus. -/
def busFrame (n : Nat) : RxFrame := frame 63 18 .sample (u16 n ++ [0, 0, 0, 1, 0, 2, 0, 3, 0, 4])

def stateFrame (pos flags num : Byte) : RxFrame := frame 63 20 .state [pos, flags, num, 0]

def sampleOf (n : Nat) : Sample := Sample.ofPayload (u16 n ++ [0, 0, 0, 1, 0, 2, 0, 3, 0, 4])

/-! ## Well-formedness -/

theorem test_wellFormed_accepts :
    Instr.wellFormed (.sample (sampleFrame 0)) = true ∧
      Instr.wellFormed (.state (stateFrame 0 0 0)) = true ∧
      Instr.wellFormed (.time (frame 63 5 .time [0, 1, 0, 0, 0, 0])) = true ∧
      Instr.wellFormed (.request (frame 1 5 .request [3, 0])) = true ∧
      Instr.wellFormed (.frameReceived (frame 2 5 .reply [0, 0, 0, 0])) = true := by decide +kernel

theorem test_wellFormed_refuses_other_kind_as_sample :
    Instr.wellFormed (.sample (stateFrame 0 0 0)) = false := by decide +kernel

theorem test_wellFormed_refuses_other_kind_as_state :
    Instr.wellFormed (.state (sampleFrame 0)) = false := by decide +kernel

theorem test_wellFormed_refuses_other_kind_as_time :
    Instr.wellFormed (.time (frame 63 5 .request [3, 0])) = false := by decide +kernel

theorem test_wellFormed_refuses_time_not_broadcast :
    Instr.wellFormed (.time (frame 62 5 .time [0, 1, 0, 0, 0, 0])) = false := by decide +kernel

theorem test_wellFormed_refuses_other_kind_as_request :
    Instr.wellFormed (.request (frame 1 5 .reply [0, 0, 0, 0])) = false := by decide +kernel

theorem test_wellFormed_refuses_sample_as_other_frame :
    Instr.wellFormed (.frameReceived (sampleFrame 0)) = false := by decide +kernel

/-! ## Words of the manual -/

/-- The check value of the CRC that R171 describes: 29B1 for the nine digits. -/
theorem test_crc_check_value :
    crc16 [0x31, 0x32, 0x33, 0x34, 0x35, 0x36, 0x37, 0x38, 0x39] = 0x29B1#16 := by decide +kernel

def waveWindow (v : Nat → Int) : Vector WindowSlot 32 :=
  readMany 32 fun k => ⟨BitVec.ofInt 16 (v k), false, false, true⟩

/-- 2.9: a cosine and a sine of peak 16384, a constant, and the clipped wave. -/
theorem test_worked_phasors :
    coeffSum cosAt (waveWindow cosAt) = 4294925328 ∧
      channelResult (waveWindow cosAt) = ⟨⟨16384, 0⟩, 16384, false⟩ ∧
      channelResult (waveWindow fun k => -sinAt k) = ⟨⟨0, -16384⟩, 16384, false⟩ ∧
      channelResult (waveWindow fun _ => -32768) = ⟨⟨0, 0⟩, 0, false⟩ ∧
      channelResult (waveWindow fun k =>
        if 0 < cosAt k then 32767 else if cosAt k < 0 then -32767 else 0) =
          ⟨⟨32767, 0⟩, 32767, false⟩ := by decide +kernel

/-- 3.9.1: EF-HS of threshold 800 and delay 4. -/
theorem test_worked_high_set :
    let c : DefiniteSetting := ⟨800, 4⟩
    evalDefinite c 760 .cleared = .cleared ∧
      evalDefinite c 805 .cleared = ⟨true, false, false, 0⟩ ∧
      evalDefinite c 770 ⟨true, false, false, 1⟩ = ⟨true, false, false, 2⟩ ∧
      evalDefinite c 755 ⟨true, false, false, 2⟩ = .cleared ∧
      evalDefinite c 1000 ⟨true, false, false, 3⟩ = ⟨true, true, false, 4⟩ := by decide +kernel

def workedCurve : Curve :=
  ⟨4, #v[⟨16, 1000⟩, ⟨32, 4000⟩, ⟨64, 12000⟩, ⟨160, 40000⟩, ⟨0, 0⟩, ⟨0, 0⟩, ⟨0, 0⟩, ⟨0, 0⟩, ⟨0, 0⟩,
    ⟨0, 0⟩, ⟨0, 0⟩, ⟨0, 0⟩, ⟨0, 0⟩, ⟨0, 0⟩, ⟨0, 0⟩, ⟨0, 0⟩]⟩

/-- 3.9.2 and 3.9.3: the rates and the accumulator of PH-IT. -/
theorem test_worked_inverse_time :
    let cs : Vector Curve 8 := .replicate 8 workedCurve
    let it : InverseSetting := ⟨400, 2, 32, 0, 0⟩
    rateAt (multiple 1000 400) workedCurve.used = 6000 ∧
      effectiveRate 6000 255 = 752 ∧ rateAt (multiple 20000 400) workedCurve.used = 40000 ∧
      evalInverse cs it false 1000 ⟨true, false, false, 1044000⟩ = ⟨true, true, false, 1048576⟩ ∧
      evalInverse cs { it with dial := 16 } false 390 ⟨true, false, false, 480000⟩ =
        ⟨true, false, false, 480000⟩ ∧
      evalInverse cs { it with dial := 16, resetMode := 1, resetRate := 65536 } false 0
        ⟨true, false, false, 480000⟩ = ⟨false, false, false, 414464⟩ := by decide +kernel

/-- 1.9: the gap of two samples, then the late arrival. -/
theorem test_worked_gap :
    let s := after (.sample (sampleFrame 1025)) (streamIn .locked 1022 0 0 0 mapped)
    let t := after (.sample (sampleFrame 1024)) s
    (s.stream 0).state = .patched ∧ (s.stream 0).lastSample = 1025 ∧ (s.stream 0).patch = 31 ∧
      (s.stream 0).gaps = 1 ∧ (t.stream 0).lastSample = 1025 ∧ (t.stream 0).duplicates = 1 := by
  decide +kernel

/-- 5.10: the order numbers of a reclose onto a fault, and the number skipped. -/
theorem test_worked_order_numbers :
    numberAfter 41 41 = 42 ∧ numberAfter 42 41 = 43 ∧ numberAfter 41 42 = 43 ∧
      numberAfter 255 0 = 1 := by decide +kernel

/-- 8.10: a TIME frame that sets the clock back by 700 ms raises no CLOCK_SET. -/
theorem test_worked_time_correction :
    let s := { mapped with mdu := { Mdu.powerOn with running := true, day := 8400, ms := 400 } }
    let t := after (.time (frame 63 5 .time (u16 8399 ++ u32 86399700))) s
    t.mdu.day = 8399 ∧ t.mdu.ms = 86399700 ∧
      t.mgr.notices.all (fun n => n.body.kindCode != 12) = true := by decide +kernel

/-- 6.13: the first trip, and the OPEN confirmed with an empty set. -/
theorem test_worked_sequence :
    let s := orderIn .requested .open .protection 17 1 (freed 1 serving)
    let t := tripReport true 1 s
    let u := rcsReport ⟨1, .open, .protection, some 17, .empty, .confirmed⟩ t
    (t.seq 1).state = .opening ∧ (t.seq 1).shot = 1 ∧ (t.seq 1).awaited = some 17 ∧
      (u.seq 1).state = .dead ∧ (u.seq 1).dead = some 500 := by decide +kernel

/-! ## Commands -/

theorem test_tick_moves_the_clock :
    let s := { mapped with mdu := { Mdu.powerOn with running := true, day := 7, ms := 86399999 } }
    (after .localTick s).mdu.ms = 0 ∧ (after .localTick s).mdu.day = 8 ∧
      (after .localTick s).due = ⟨true, true, false⟩ := by decide +kernel

theorem test_status_reply :
    (statusBytes mapped).length = 93 ∧ (after .status (asking 3 [] mapped)).mgr.fifo = [] ∧
      (match (after .status (asking 3 [] mapped)).rpt.out with
        | .idle => false
        | .sending bs => bs.take 8 == [5, 1, 6, 97, 3, 9, 0, 0]) = true := by decide +kernel

theorem test_enter_service_of_an_empty_part :
    (after .enterService (asking 13 [] State.reset)).mgr.device = .inService := by decide +kernel

theorem test_write_then_read_feeder :
    let e : List Byte := [1, 2, 0, 1, 1, 0, 60, 3]
    let s := { mapped with gst := { mapped.gst with groups := .replicate 32 plainGroup } }
    let t := after .write (asking 2 ([8, 3, 1] ++ e) s)
    (t.feeder 3) = ⟨true, 2, #v[0, 1, 1], 60, 3⟩ ∧ Table.read t 3 .feeders = e := by decide +kernel

theorem test_restart_keeps_the_staged_map :
    let t := after .restart (asking 15 [] serving)
    t.siu.active = units ∧ t.mgr.device = .configuring ∧ t.mgr.fifo = [] := by decide +kernel

/-- R142, R148: the bus stream's entry into FILLING from LOST aborts a hunt. -/
theorem test_bus_filling_aborts_hunt :
    let s := streamIn .lost 0 0 0 8 (serving.setEfs { serving.efs.record with state := .hunting })
    let t := s.setHunt { HuntRecord.powerOn with list := [3], underTest := some 3, step := some .opening }
    (after (.sample (frame 63 18 .sample (List.replicate 12 0))) t).efs.hunt.abortCause = .busStream := by
  decide +kernel

/-- R76: the detail of GROUP_CHANGE ends with the sample number of the hand-over. -/
theorem test_group_change_names_its_sample :
    (NoticeBody.groupChange (some 0) 1 .atCompletion (some 0x1234)).detail =
      [1, 0, 1, 0, 1, 0x12, 0x34] ∧
    ((applyPending 31 0 (serving.setGroups 0 (some 0) (some 2))).raised.map fun n => n.body) =
      [.groupChange (some 0) 2 .atCompletion (some 31)] := by decide +kernel

/-- R39, R75, R74: SEF, turned off at once with its count at 7, begins cleared when a pending group turns it on
at the first cycle completion. The high-set, on in both groups, keeps its state up to the evaluation. -/
theorem test_turned_on_element_begins_cleared :
    let on := { plainGroup with sef := ⟨400, 60⟩ }
    let s := serving.setGroups 0 (some 0) (some 1)
    let t := { s with gst := { s.gst with groups := upd s.gst.groups (State.groupIndex 0 1) on } }
    let u := t.setElement 0 { ElementState.cleared with sef := ⟨true, true, true, 7⟩, phHs := ⟨true, false, false, 2⟩ }
    let r : Vector ChannelResult 4 := .replicate 4 ⟨⟨0, 0⟩, 799, false⟩
    let v := evaluate 0 ⟨31, 31, .locked, false, r, some ⟨0, r, none, false⟩⟩ u
    (v.element 0).sef = ⟨true, false, false, 0⟩ ∧ (v.element 0).phHs = ⟨true, false, false, 3⟩ := by
  decide +kernel

/-- R148: with the bus stream LOST, its list kept, a late feeder result forms no pair; LOCKED, it does. -/
theorem test_no_pair_while_the_bus_is_lost :
    let s := (serving.setEfs { serving.efs.record with state := .identifying, windowFirst := some 7 })
    let t (st : StreamState) := streamIn st 0 0 0 8
      (s.setPheStream busRole { PheStream.empty with results := [⟨7, .replicate 4 ⟨⟨0, 0⟩, 0, false⟩, none, false⟩] })
    let r : CycleResult := ⟨7, .replicate 4 ⟨⟨0, 0⟩, 0, false⟩, none, false⟩
    efsFeederResult 0 r (t .lost) = t .lost ∧
      (efsFeederResult 0 r (t .locked)).efs.record.lastPaired[(0 : Slot)] = some 7 := by decide +kernel

/-! ## Hypotheses of the obligations: a case for every clause -/

/-- A state with work in every block that keeps every law: feeder 0's stream is LOCKED and its sequencer in
DEAD; feeder 1 has an order SENT; feeder 2 is under test in a hunt; one notice waits. -/
def busy : State :=
  let a := streamIn .locked 31 0 0 0 (freed 0 serving)
  let b := inState .dead 1 0 a
  let c := b.setSeq 0 { b.seq 0 with dead := some 0 }
  let d := orderIn .sent .open .protection 3 1 c
  let e := d.setHunt { HuntRecord.powerOn with list := [2], underTest := some 2, step := some .observing
                                               countdown := some 5 }
  let h := e.setEfs { e.efs.record with state := .hunting }
  { h.setSeq 2 { h.seq 2 with reasons := { (h.seq 2).reasons with hunt := true } } with
    mgr := { h.mgr with notices := [⟨none, none, none, .modeChange 0 .normal .season .override⟩] }
    pending := [.localTick, .deadTimerExpiry 0] }

theorem witness_StepRunsFrontCommand :
    busy.pending = .localTick :: [.deadTimerExpiry 0] := by decide +kernel

theorem witness_StepsAlwaysComplete : mapped.pending = [] := by decide +kernel

theorem witness_BoundsAreKept : BoundsKept busy ∧ ∃ t, step busy = .next t :=
  ⟨by decide +kernel, _, rfl⟩

theorem witness_RecordsStayCoherent : RecordsCoherent busy ∧ ∃ t, step busy = .next t :=
  ⟨by decide +kernel, _, rfl⟩

theorem witness_ReasonsKeepFollowing : ReasonsFollow busy ∧ ∃ t, step busy = .next t :=
  ⟨by decide +kernel, _, rfl⟩

theorem witness_HuntStaysCoherent : HuntCoherent busy ∧ ∃ t, step busy = .next t :=
  ⟨by decide +kernel, _, rfl⟩

theorem witness_ServiceStaysCoherent : ServiceCoherent busy ∧ ∃ t, step busy = .next t :=
  ⟨by decide +kernel, _, rfl⟩

theorem witness_MappedGroupsStayValid :
    MappedGroupsValid busy ∧ (∃ t, step busy = .next t) ∧ busy.mgr.device = .inService ∧
      (busy.feeder 0).inService = true := ⟨by decide +kernel, ⟨_, rfl⟩, by decide +kernel⟩

/-! ### The ring port -/

def badCrc : RxFrame := ⟨[63, 10, 9, 1, 7, 0, 0], false⟩

theorem witness_BadFramesAreDiscarded :
    BadLength ⟨[], false⟩ ∧ BadLength ⟨(sampleFrame 1).bytes, true⟩ ∧
      BadLength ⟨buildFrame 63 10 .sample (u16 1), false⟩ ∧
      BadLength (frame 1 5 .notice (List.replicate 241 0)) ∧
      ¬ BadLength badCrc ∧ ¬ CrcMatches badCrc ∧
      (∀ a ∈ [(0 : RingAddr), 63], let f := frame 1 a .state [0, 0, 0, 0];
        ¬ BadLength f ∧ CrcMatches f ∧ BadSource f) := by
  repeat' first
    | decide +kernel
    | exact (noReason_iff _ _).2 (by decide +kernel)
    | exact (not_noReason_iff _ _).2 (by decide +kernel)
    | refine And.intro ?_ ?_

/-- A frame of a kind outside the seven. -/
def unknownFrame : RxFrame := ⟨withCrc [63, 10, 8, 1, 7], false⟩

theorem witness_FramesAreForwardedConsumedOrStripped_others :
    Arrives 8 unknownFrame mapped ∧ Arrives 4 (frame 20 5 .order [0, 0, 0, 0]) mapped ∧
      (let f := frame 62 5 .time [0, 0, 0, 0, 0, 0]; Arrives 3 f mapped ∧ destinationOf f ≠ 63) ∧
      (let f := frame 2 5 .request [3, 0];
        Arrives 5 f mapped ∧ ¬ (OnTheRing mapped ∧ destinationOf f = mapped.rpt.ownAddress)) := by
  repeat' first
    | decide +kernel
    | exact (noReason_iff _ _).2 (by decide +kernel)
    | exact (not_noReason_iff _ _).2 (by decide +kernel)
    | refine And.intro ?_ ?_

theorem witness_FramesAreForwardedConsumedOrStripped_requests :
    let f := frame 1 5 .request [3, 0]
    let s (n : Nat) := { mapped with mgr := { Mgr.powerOn with fifo := .replicate n ⟨5, [3, 0]⟩ } }
    ∀ n, n = 3 ∨ n = 4 → Arrives 5 f (s n) ∧ OnTheRing (s n) ∧
      destinationOf f = (s n).rpt.ownAddress ∧ (s n).mgr.fifo.length = n := by
  intro f s n h; rcases h with rfl | rfl <;> decide +kernel

theorem witness_FramesAreForwardedConsumedOrStripped_echoes :
    let f := frame 20 1 .order [0, 0, 3, 0]
    let s := orderIn .sent .open .protection 3 0 mapped
    let g := frame 5 1 .reply [0, 0, 0, 0]
    WellFormedFrame f ∧ sourceOf f = s.rpt.ownAddress ∧ kindOf f = 4 ∧ nat8At (payloadOf f) 0 = 0 ∧
      (s.order 0).state = .sent ∧ (s.order 0).echoWatch ≠ none ∧
      (s.order 0).number = byteAt (payloadOf f) 2 ∧
      WellFormedFrame g ∧ sourceOf g = s.rpt.ownAddress ∧ kindOf g ≠ 4 := by decide +kernel

theorem witness_OrdersStartFirst :
    ∀ f : Slot, let s := orderIn .requested .close .reclose 3 f mapped
      s.raised = [] ∧ OnTheRing s ∧ (s.order f).state = .requested ∧
        ∀ g : Slot, g < f → (s.order g).state ≠ .requested := by decide +kernel

def lowNotice : Notice := ⟨none, none, none, .modeChange 0 .normal .season .override⟩

def highNotice : Notice := ⟨some 1, none, none, .lockout .dead 1 .order .powerOn⟩

theorem witness_OutPortServesInTurn :
    let n := { mapped with mgr := { Mgr.powerOn with notices := [lowNotice, highNotice, lowNotice] } }
    let r := { n with rpt := { Rpt.powerOn 1 with replies := [⟨5, 3, 9, .ok, []⟩] } }
    let f := { r with rpt := { r.rpt with forward := [(sampleFrame 1).bytes] } }
    let x := { mapped with rpt := Rpt.powerOn 63 }
    (∀ s ∈ [n, r, f, mapped, x], s.raised = [] ∧
      (OnTheRing s → ∀ f : Slot, (s.order f).state ≠ .requested)) ∧
      f.rpt.forward ≠ [] ∧ (x.rpt.forward = [] ∧ ¬ OnTheRing x) ∧
      (r.rpt.forward = [] ∧ OnTheRing r ∧ r.rpt.replies ≠ []) ∧
      (n.rpt.forward = [] ∧ OnTheRing n ∧ n.rpt.replies = [] ∧
        n.mgr.notices = [lowNotice] ++ highNotice :: [lowNotice] ∧
        (∀ m ∈ [lowNotice], m.body.priority < highNotice.body.priority) ∧
        ∀ m ∈ [lowNotice], m.body.priority ≤ highNotice.body.priority) ∧
      (mapped.rpt.forward = [] ∧ OnTheRing mapped ∧ mapped.rpt.replies = [] ∧
        mapped.mgr.notices = []) := by decide +kernel

theorem witness_EventsEndWithNotices :
    let s := { mapped with
      rpt := { Rpt.powerOn 1 with out := .sending [1] }
      mgr := { Mgr.powerOn with notices := .replicate 31 lowNotice }
      raised := [highNotice] }
    s.rpt.out = .sending [1] ∧ s.mgr.notices.length + s.raised.length = 32 := by decide +kernel

theorem witness_EventsEndWithNotices_full :
    let m := { Mgr.powerOn with notices := List.replicate 31 highNotice ++ lowNotice :: [] }
    m.notices.length = 32 ∧ lowNotice.body.priority < highNotice.body.priority ∧
      (∀ x ∈ m.notices, lowNotice.body.priority ≤ x.body.priority) := by decide +kernel

/-! ### Streams -/

theorem witness_RepeatedSamplesAreDiscarded :
    ∀ st : StreamState, st = .locked ∨ st = .patched ∨ st = .filling → ∀ n, n = 100 ∨ n = 104 →
      let s := streamIn st (BitVec.ofNat 16 n) 0 0 0 mapped
      SampleArrives (sampleFrame 100) 0 (sampleOf 100) s ∧
        (Delivering 0 s ∨ (s.stream 0).state = .filling) ∧
        (distanceOf 0 (sampleOf 100) s = 0 ∨ 65532 = distanceOf 0 (sampleOf 100) s) := by
  intro st h n k; rcases h with rfl | rfl | rfl <;> rcases k with rfl | rfl <;> decide +kernel

theorem witness_NextSamplesAreAccepted :
    ∀ p, p = 1 ∨ p = 2 → let s := streamIn .patched 65535 0 p 0 mapped
      SampleArrives (sampleFrame 0) 0 (sampleOf 0) s ∧ Delivering 0 s ∧
        distanceOf 0 (sampleOf 0) s = 1 ∧ s.mgr.device = .configuring := by
  intro p h; rcases h with rfl | rfl <;> decide +kernel

theorem witness_NextSamplesAreAccepted_cycle :
    (let s := streamIn .locked 30 0 0 0 serving;
      SampleArrives (sampleFrame 31) 0 (sampleOf 31) s ∧ Delivering 0 s ∧
        distanceOf 0 (sampleOf 31) s = 1 ∧ (sampleOf 31).number.toNat % 32 = 31) ∧
    (let s := streamIn .locked 30 0 0 8 serving;
      SampleArrives (busFrame 31) 8 (sampleOf 31) s ∧ Delivering 8 s ∧
        distanceOf 8 (sampleOf 31) s = 1) := by decide +kernel

theorem witness_GapsAreBridged :
    ∀ d, d = 2 ∨ d = 4 → let s := streamIn .locked 100 0 0 0 mapped
      SampleArrives (sampleFrame (100 + d)) 0 (sampleOf (100 + d)) s ∧ Delivering 0 s ∧
        distanceOf 0 (sampleOf (100 + d)) s = d := by
  intro p h; rcases h with rfl | rfl <;> decide +kernel

theorem witness_BreaksRestartStreams :
    ∀ d, d = 5 ∨ d = 65531 → let s := streamIn .locked 0 0 0 0 mapped
      SampleArrives (sampleFrame d) 0 (sampleOf d) s ∧ Delivering 0 s ∧
        distanceOf 0 (sampleOf d) s = d := by
  intro p h; rcases h with rfl | rfl <;> decide +kernel

theorem witness_FillingLeadsToLocked :
    ∀ c, c = 30 ∨ c = 31 → let s := streamIn .filling 0 c 0 0 mapped
      SampleArrives (sampleFrame 1) 0 (sampleOf 1) s ∧ (s.stream 0).state = .filling ∧
        distanceOf 0 (sampleOf 1) s = 1 ∧ (s.stream 0).consecutive = c := by
  intro p h; rcases h with rfl | rfl <;> decide +kernel

theorem witness_FillingLeadsToLocked_bus :
    let s := streamIn .filling 0 31 0 8 mapped
    SampleArrives (busFrame 1) 8 (sampleOf 1) s ∧ (s.stream 8).state = .filling ∧
      distanceOf 8 (sampleOf 1) s = 1 ∧ (s.stream 8).consecutive = 31 := by decide +kernel

theorem witness_StreamsStartAfresh :
    (∀ st : StreamState, st = .absent ∨ st = .lost →
      SampleArrives (sampleFrame 1) 0 (sampleOf 1) (streamIn st 0 0 0 0 mapped) ∧
        ((streamIn st 0 0 0 0 mapped).stream 0).state = st) ∧
    (∀ d, d = 2 ∨ d = 65531 → let s := streamIn .filling 0 1 0 0 mapped
      SampleArrives (sampleFrame d) 0 (sampleOf d) s ∧ (s.stream 0).state = .filling ∧
        distanceOf 0 (sampleOf d) s = d) ∧
    Arrives 1 (frame 63 40 .sample (List.replicate 12 0)) mapped ∧
      ∀ r : Role, mapped.samplingAddress r ≠ 40 := by
  refine ⟨?_, ?_, by decide +kernel⟩ <;> intro p h <;> rcases h with rfl | rfl <;> decide +kernel

theorem witness_StreamsStartAfresh_entered :
    let s := streamIn .lost 0 0 0 0 (serving.setGroups 0 (some 0) (some 1))
    let b := streamIn .lost 0 0 0 8 serving
    let h := b.setEfs { b.efs.record with state := .hunting }
    (SampleArrives (sampleFrame 1) 0 (sampleOf 1) s ∧ (s.stream 0).state = .lost ∧
      s.pendingGroup 0 = some 1 ∧ serving.pendingGroup 0 = none) ∧
    (∀ x ∈ [b, h], SampleArrives (busFrame 1) 8 (sampleOf 1) x ∧ (x.stream 8).state = .lost) ∧
      ¬ HuntUnderWay b ∧ HuntUnderWay h :=
  ⟨by decide +kernel, by decide +kernel, by decide +kernel, by decide +kernel⟩

theorem witness_SilenceLosesStreams :
    let s := mapped.setStream 8 { mapped.stream 8 with supervision := some 0 }
    (s.stream 8).supervision = some 0 ∧ (mapped.stream 8).supervision ≠ some 0 := by decide +kernel

/-! ### Phasors, elements, groups -/

theorem witness_PhasorsAreRoundedSums_magnitude :
    ∀ p ∈ [(⟨32767, -32767⟩ : Phasor), ⟨-32767, 32767⟩],
      -32767 ≤ p.re ∧ p.re ≤ 32767 ∧ -32767 ≤ p.im ∧ p.im ≤ 32767 := by decide +kernel

theorem witness_PhasorsAreRoundedSums :
    let a : CycleResult := ⟨0, .replicate 4 ⟨⟨32767, -32767⟩, 0, false⟩, none, false⟩
    (-32767 ≤ a.channels[3].phasor.re ∧ a.channels[3].phasor.re ≤ 32767 ∧
      -32767 ≤ a.channels[3].phasor.im ∧ a.channels[3].phasor.im ≤ 32767) ∧
    (∀ k : Fin 32, (waveWindow fun _ => -32768)[k].value = -32768) ∧
    (∃ k : Fin 32, (Vector.replicate 32 (⟨0, true, false, true⟩ : WindowSlot))[k].overrange = true) ∧
    ∀ k : Fin 32, (waveWindow cosAt)[k].overrange = false := by decide +kernel

theorem witness_DefiniteTimeElementsCount :
    let c : DefiniteSetting := ⟨800, 4⟩
    (⟨0, 4⟩ : DefiniteSetting).threshold = 0 ∧ c.threshold ≠ 0 ∧ 20 * 759 < 19 * c.threshold ∧
      (799 < c.threshold ∧ 19 * c.threshold ≤ 20 * 760) ∧ c.threshold ≤ 800 ∧
      (∀ o : Bool, (⟨true, o, false, 2⟩ : DefiniteState).pickup = true) := by decide +kernel

theorem witness_InverseTimeElementsIntegrate :
    let c : InverseSetting := ⟨400, 7, 32, 1, 65536⟩
    (⟨0, 0, 1, 0, 1⟩ : InverseSetting).pickup = 0 ∧ c.pickup ≠ 0 ∧ 20 * 379 < 19 * c.pickup ∧
      (19 * c.pickup ≤ 20 * 380 ∧ 399 < c.pickup) ∧ (c.pickup ≤ 400 ∧ c.curve = (7 : Fin 8).val) ∧
      workedCurve.valid = true ∧
      workedCurve.used = [] ++ ⟨16, 1000⟩ :: ⟨32, 4000⟩ :: [⟨64, 12000⟩, ⟨160, 40000⟩] ∧
      workedCurve.used = [⟨16, 1000⟩, ⟨32, 4000⟩] ++ ⟨64, 12000⟩ :: ⟨160, 40000⟩ :: [] := by
  decide +kernel

theorem witness_EvaluationsRunTheElements :
    let plain : HandOver := ⟨5, 5, .locked, false, .replicate 4 ⟨⟨0, 0⟩, 0, false⟩, none⟩
    let full : HandOver := { plain with
      sampleNo := 31, index := 31, result := some ⟨0, plain.present, none, false⟩ }
    let s := serving.setGroups 0 none none
    let p := serving.setGroups 0 (some 0) (some 1)
    mapped.acting 0 = false ∧ (s.acting 0 = true ∧ s.activeGroup 0 = none) ∧
      (serving.acting 0 = true ∧ serving.activeGroup 0 = some 0 ∧ plain.result = none) ∧
      (p.acting 0 = true ∧ (applyPending full.sampleNo 0 p).activeGroup 0 = some 1 ∧
        full.result ≠ none ∧ p.activeGroup 0 = some 0) ∧
      (let on := { plainGroup with phHs := ⟨16, 0⟩ }; let off := { plainGroup with phHs := ⟨0, 0⟩ };
        off.phHs.threshold = 0 ∧ on.phHs.threshold ≠ 0) := by decide +kernel

theorem witness_OperatedLiveElementsTrip :
    let op (s : State) := s.setElement 0 { ElementState.cleared with phHs := ⟨true, true, false, 4⟩ }
    let tripping (s : State) := ((s.element 0).operatedSet.inter
      (liveSet plainGroup (s.seq 0).state (s.seq 0).shot)).diff (s.element 0).actedSet
    let closed (s : State) := s.setSwitch 0 { s.switch 0 with reported := some .closed
                                                              position := .closed }
    let a := op serving
    let b := op (serving.setSwitch 0 { serving.switch 0 with position := .opened })
    let c := op (closed serving)
    let d := op (closed (orderIn .sent .close .reclose 3 0 serving))
    let e := op (closed (orderIn .sent .open .operator 3 0 serving))
    tripping serving = .empty ∧ tripping a ≠ .empty ∧ (b.switch 0).position = .opened ∧
      tripping b ≠ .empty ∧
      (∀ s ∈ [c, d, e], tripping s ≠ .empty ∧ (s.switch 0).position ≠ .opened ∧
        s.switchAddress 0 ≠ 0 ∧ s.efs.record.state ≠ .hunting) ∧
      (c.order 0).state = .idle ∧ (d.order 0).kind = .close ∧
      ((e.order 0).state ≠ .idle ∧ (e.order 0).kind = .open ∧ (e.order 0).origin ≠ .protection) := by
  decide +kernel

theorem witness_OperatedLiveElementsTrip_others :
    let op (s : State) := s.setElement 0 { ElementState.cleared with phHs := ⟨true, true, false, 4⟩ }
    let tripping (s : State) := ((s.element 0).operatedSet.inter
      (liveSet plainGroup (s.seq 0).state (s.seq 0).shot)).diff (s.element 0).actedSet
    let a := op serving
    let b := op (serving.setEfs { serving.efs.record with state := .hunting })
    let c := op { serving with siu := Siu.powerOn }
    (∀ s ∈ [a, b, c], tripping s ≠ .empty ∧ (s.switch 0).position ≠ .opened) ∧
      (¬ HuntUnderWay a ∧ HuntUnderWay b) ∧
      (c.switchAddress 0 = 0 ∧ c.efs.record.state ≠ .hunting ∧ c.acting 0 = true ∧
        (c.seq 0).state = .ready ∧ (c.order 0).state = .idle) := by decide +kernel

theorem witness_GroupRequestsActivateOrPend :
    let pend (p : Option GroupNo) := serving.setGroups 0 (some 0) p
    let live := streamIn .locked 0 0 0 0 (pend none)
    let dead := inState .dead 1 0 (pend none)
    let deep := inState .dead 3 0 (pend none)
    mapped.activeGroup 0 = none ∧
      ((pend none).activeGroup 0 = some 0 ∧ (pend none).pendingGroup 0 = none) ∧
      ((pend (some 1)).activeGroup 0 = some 0 ∧ (pend (some 1)).pendingGroup 0 = some 1) ∧
      (live.activeGroup 0 = some 0 ∧ live.pendingGroup 0 ≠ some 1 ∧ Delivering (0 : Slot).role live) ∧
      (¬ Delivering (0 : Slot).role (pend none) ∧ ((pend none).seq 0).state ≠ .dead) ∧
      (∀ s ∈ [dead, deep], s.activeGroup 0 = some 0 ∧ s.pendingGroup 0 = none ∧
        ¬ Delivering (0 : Slot).role s ∧ s.acting 0 = true ∧ (s.seq 0).state = .dead) ∧
      (dead.seq 0).shot ≤ (dead.group 0 1).maxShots ∧ (deep.group 0 1).maxShots < (deep.seq 0).shot := by
  decide +kernel

/-! ### Orders and switches -/

/-- `serving` with one block reason held by feeder 0. -/
def holding (r : Reason) : State := addReason r 0 (freed 0 serving)

theorem witness_OrderRequestsAreJudged :
    let passes (who : Origin) (s : State) := ¬ (who = .operator ∧ s.mgr.device = .configuring) ∧
      s.switchAddress 0 ≠ 0 ∧ (who = .operator → s.holds 0 .tag = false ∧ s.holds 0 .local = false)
    mapped.mgr.device = .configuring ∧ State.reset.switchAddress 0 = 0 ∧
      (serving.mgr.device = .inService ∧ serving.switchAddress 0 ≠ 0) ∧
      (holding .tag).holds 0 .tag = true ∧
      ((holding .local).holds 0 .tag = false ∧ (holding .local).holds 0 .local = true) ∧
      (∀ who : Origin, who = .protection ∨ who = .reclose ∨ who = .earth ∨ who = .operator →
        passes who serving) ∧
      (serving.order 0).state = .idle ∧
      (∀ k : OrderKind, k = .open ∨ k = .close →
        let s := orderIn .sent k .reclose 3 0 serving
        passes .operator s ∧ (s.order 0).state ≠ .idle ∧ (s.order 0).kind = k) ∧
      (passes .earth (holding .fire) ∧ ((holding .fire).order 0).state = .idle ∧
        (holding .fire).holds 0 .fire = true ∧ serving.holds 0 .fire = false) := by
  refine ⟨by decide +kernel, by decide +kernel, by decide +kernel, by decide +kernel, by decide +kernel,
    ?_, by decide +kernel, ?_, by decide +kernel⟩
  · intro who h; rcases h with rfl | rfl | rfl | rfl <;> decide +kernel
  · intro k h; rcases h with rfl | rfl <;> decide +kernel

theorem witness_StateFramesUpdateSwitches :
    let s := orderIn .sent .open .protection 3 0 mapped
    let t := orderIn .sent .close .operator 3 0 mapped
    let u := mapped.setSwitch 0 { mapped.switch 0 with health := .unreachable }
    let g := frame 63 40 .state [0, 0, 0, 0]
    StateArrives (stateFrame 0 3 3) 0 ⟨.opened, true, true, 3⟩ s ∧ (s.order 0).state = .sent ∧
      (s.order 0).number = 3 ∧ (s.order 0).kind = .open ∧ EfsAwaitsNot 0 s ∧
      StateArrives (stateFrame 1 0 3) 0 ⟨.closed, false, false, 3⟩ t ∧ (t.order 0).kind = .close ∧
      EfsAwaitsNot 0 t ∧
      StateArrives (stateFrame 2 0 0) 0 ⟨.between, false, false, 0⟩ u ∧ (u.order 0).state ≠ .sent ∧
      (u.switch 0).health = .unreachable ∧ (s.switch 0).health ≠ .unreachable ∧
      (Arrives 2 g mapped ∧ ∀ k : Slot, mapped.switchAddress k ≠ sourceOf g) ∧
      (Arrives 2 (stateFrame 3 0 0) mapped ∧ 2 < nat8At (payloadOf (stateFrame 3 0 0)) 0) := by
  repeat' first
    | decide +kernel
    | exact (noReason_iff _ _).2 (by decide +kernel)
    | exact (not_noReason_iff _ _).2 (by decide +kernel)
    | refine And.intro ?_ ?_

theorem witness_SentOrdersExpire :
    let a := orderIn .sent .open .protection 3 0 serving
    let b := a.setSwitch 0 { a.switch 0 with failCount := 8 }
    let c := (inState .opening 1 0 a).setSeq 0 { (inState .opening 1 0 a).seq 0 with awaited := some 3 }
    let d := inState .closing 1 0 (orderIn .sent .close .reclose 3 0 serving)
    let e := d.setSeq 0 { d.seq 0 with awaited := some 3 }
    (∀ s ∈ [a, b, c, e], (s.order 0).state = .sent ∧ (s.order 0).confirm = some 0 ∧ EfsAwaitsNot 0 s) ∧
      ¬ (a.feeder 0).failLimit ≤ min 8 ((a.switch 0).failCount + 1) ∧
      (b.feeder 0).failLimit ≤ min 8 ((b.switch 0).failCount + 1) ∧
      (∀ s ∈ [c, e], s.acting 0 = true ∧ (s.seq 0).awaited = some (s.order 0).number) ∧
      ((c.seq 0).state = .opening ∧ (c.order 0).kind = .open) ∧
      ((e.seq 0).state = .closing ∧ (e.order 0).kind = .close) ∧
      ¬ ((serving.order 0).state = .sent ∧ (serving.order 0).confirm = some 0) := by decide +kernel

theorem witness_SentOrdersExpire_echo :
    let s := orderIn .sent .open .protection 3 7 mapped
    ((s.order 7).state = .sent ∧ (s.order 7).echoWatch = some 0) ∧
      ¬ ((mapped.order 7).state = .sent ∧ (mapped.order 7).echoWatch = some 0) := by decide +kernel

theorem witness_SwitchHealthIsWatched :
    let at0 (h : Health) := mapped.setSwitch 0 { mapped.switch 0 with health := h, supervision := some 0 }
    (∀ h : Health, h = .reachable ∨ h = .unreachable ∨ h = .failed →
      ((at0 h).switch 0).supervision = some 0 ∧ ((at0 h).switch 0).health = h ∧
      AtHead 9 1 (req 9 [0]) [] (asking 9 [0] (at0 h))) ∧
    (mapped.switch 0).supervision ≠ some 0 ∧ nat8At (req 9 [0]).payload 2 = 0 := by
  refine ⟨?_, by decide +kernel⟩
  intro h k; rcases k with rfl | rfl | rfl <;> decide +kernel

/-! ### Sequencers -/

theorem witness_TripReportsAreJudged :
    let inFlight (s : State) := (s.order 0).state ≠ .idle ∧ (s.order 0).kind = .open
    let o := orderIn .sent .open .protection 3 0 serving
    mapped.acting 0 = false ∧
      (∀ q : SeqState, q = .ready ∨ q = .opening ∨ q = .dead ∨ q = .closing ∨ q = .reclaim ∨
        q = .lockout → (inState q 1 0 serving).acting 0 = true ∧ ((inState q 1 0 serving).seq 0).state = q) ∧
      (¬ inFlight serving ∧ (serving.seq 0).state = .ready) ∧
      (inFlight o ∧ o.acting 0 = true ∧ (o.seq 0).state = .ready ∧ ¬ NoReason o 0 ∧
        (o.seq 0).shot + 1 ≤ maxShots o 0) ∧
      (NoReason (freed 0 o) 0 ∧ (o.seq 0).shot + 1 ≤ maxShots (freed 0 o) 0) ∧
      (let p := inState .reclaim 2 0 o;
        inFlight p ∧ p.acting 0 = true ∧ maxShots p 0 < (p.seq 0).shot + 1) := by
  refine And.intro (by decide +kernel) (And.intro ?_ ?_)
  · intro q h; rcases h with rfl | rfl | rfl | rfl | rfl | rfl <;> decide +kernel
  repeat' first
    | decide +kernel
    | exact (noReason_iff _ _).2 (by decide +kernel)
    | exact (not_noReason_iff _ _).2 (by decide +kernel)
    | refine And.intro ?_ ?_

def awaiting (q : SeqState) (e : EndCause) (k : Nat) (s : State) : State :=
  s.setSeq 0 { s.seq 0 with state := q, endCause := e, shot := k, awaited := some 3 }

def outcomeOf (h : Happened) (k : OrderKind) (o : Origin) : OrderReport := ⟨0, k, o, some 3, .empty, h⟩

theorem witness_OutcomesMoveSequencers :
    let f := freed 0 serving
    (∀ s ∈ [awaiting .opening .blocked 1 f, awaiting .opening .none 2 serving,
        awaiting .opening .none 3 f, awaiting .opening .none 2 f, awaiting .closing .none 1 f,
        inState .lockout 1 0 f, inState .dead 1 0 f, inState .ready 0 0 f], s.acting 0 = true) ∧
      ((outcomeOf .confirmed .open .protection).number = (awaiting .opening .blocked 1 f |>.seq 0).awaited) ∧
      ¬ NoReason (awaiting .opening .none 2 serving) 0 ∧
      (NoReason (awaiting .opening .none 3 f) 0 ∧ maxShots (awaiting .opening .none 3 f) 0 < 3) ∧
      (NoReason (awaiting .opening .none 2 f) 0 ∧
        (awaiting .opening .none 2 f).settings 0 = some plainGroup ∧ 2 = (1 : Fin 4).val + 1 ∧
        2 ≤ plainGroup.maxShots) ∧
      ((awaiting .closing .none 1 f).activeGroup 0 = some 0 ∧
        plainGroup = (awaiting .closing .none 1 f).group 0 0) ∧
      (f.holds 0 .hunt = false ∧ f.holds 0 .earth = false ∧ f.holds 0 .switch = false) ∧
      ((inState .lockout 1 0 (holding .hunt)).holds 0 .hunt = true ∧
        (holding .hunt).acting 0 = true) := by
  repeat' first
    | decide +kernel
    | exact (noReason_iff _ _).2 (by decide +kernel)
    | exact (not_noReason_iff _ _).2 (by decide +kernel)
    | refine And.intro ?_ ?_

/-- The states of R115's table, by sequencer state, without and with HUNT held. -/
theorem witness_OutcomesMoveSequencers_table :
    let f := freed 0 serving
    let h := holding .hunt
    mapped.acting 0 = false ∧
      (∀ q : SeqState, q = .ready ∨ q = .opening ∨ q = .dead ∨ q = .closing ∨ q = .reclaim ∨ q = .lockout →
        ((inState q 1 0 f).acting 0 = true ∧ ((inState q 1 0 f).seq 0).state = q ∧
          (inState q 1 0 f).holds 0 .hunt = false) ∧
        ((inState q 1 0 h).acting 0 = true ∧ ((inState q 1 0 h).seq 0).state = q ∧
          (inState q 1 0 h).holds 0 .hunt = true ∧ ((inState q 1 0 h).seq 0).awaited = none)) ∧
      (∀ r : Reason, r = .earth ∨ r = .switch →
        (inState .lockout 1 0 (holding r)).holds 0 r = true ∧
          (inState .lockout 1 0 (holding r)).holds 0 .hunt = false) := by
  refine ⟨by decide +kernel, ?_, ?_⟩
  · intro q h; rcases h with rfl | rfl | rfl | rfl | rfl | rfl <;> decide +kernel
  · intro r h; rcases h with rfl | rfl <;> decide +kernel

/-- Reports that end a sequence and those that do not: the FAILED of the OPEN that superseded the awaited CLOSE
(R112), outcomes awaited and not. -/
theorem witness_OutcomesMoveSequencers_reports :
    let c := awaiting .closing .none 1 (freed 0 serving)
    let p := outcomeOf .failed .open .protection
    let other : OrderReport := { p with number := some 4, kind := .close }
    c.acting 0 = true ∧ (c.seq 0).state = .closing ∧ (p.number.isSome = true ∧ p.kind = .open) ∧
      (other.number ≠ (c.seq 0).awaited ∧ other.kind = .close) ∧
      ({ p with number := none } : OrderReport).number.isSome = false ∧
      (outcomeOf .withdrawn .close .reclose).number = (c.seq 0).awaited ∧
      ({ outcomeOf .withdrawn .close .reclose with number := some 4 } : OrderReport).number ≠
        (c.seq 0).awaited ∧
      (outcomeOf .superseded .close .reclose).happened = .superseded ∧
      ((outcomeOf .taken .close .operator).origin = .operator ∧
        (outcomeOf .merged .open .earth).origin ≠ .operator) := by decide +kernel

theorem witness_DeadTimerAsksClose :
    let dead (s : State) := (inState .dead 1 0 s).setSeq 0
      { (inState .dead 1 0 s).seq 0 with dead := some 0 }
    let expired (s : State) := s.acting 0 = true ∧ (s.seq 0).state = .dead ∧ (s.seq 0).dead = some 0
    let a := dead serving
    let b := dead (freed 0 serving)
    let c := b.setSeq 0 { b.seq 0 with shot := 3 }
    let d := orderIn .sent .close .operator 3 0 b
    let e := { b with siu := Siu.powerOn }
    (∀ s ∈ [a, b, c, d, e], expired s) ∧ ¬ NoReason a 0 ∧
      (NoReason b 0 ∧ (b.seq 0).shot ≤ maxShots b 0 ∧ b.switchAddress 0 ≠ 0 ∧
        (b.order 0).state = .idle) ∧
      (NoReason c 0 ∧ maxShots c 0 < (c.seq 0).shot) ∧
      (NoReason d 0 ∧ (d.seq 0).shot ≤ maxShots d 0 ∧ (d.order 0).state ≠ .idle) ∧
      (NoReason e 0 ∧ e.switchAddress 0 = 0) ∧ ¬ expired serving := by
  repeat' first
    | decide +kernel
    | exact (noReason_iff _ _).2 (by decide +kernel)
    | exact (not_noReason_iff _ _).2 (by decide +kernel)
    | refine And.intro ?_ ?_

theorem witness_ReclaimTimerReturnsToReady :
    let s := serving.setSeq 0 { serving.seq 0 with state := .reclaim, shot := 1, reclaim := some 0 }
    (s.acting 0 = true ∧ (s.seq 0).state = .reclaim ∧ (s.seq 0).reclaim = some 0) ∧
      (serving.seq 0).state ≠ .reclaim := by decide +kernel

theorem witness_ReasonRequestsActOnSequencers :
    let free := (freed 0 (inState .lockout 1 0 serving)).setSwitch 0
      { serving.switch 0 with position := .closed }
    (∀ s ∈ [serving, holding .operator, inState .dead 1 0 serving], AtHead 6 1 (req 6 [0]) [] (asking 6 [0] s) ∧
        AtHead 7 1 (req 7 [0]) [] (asking 7 [0] s) ∧ AtHead 8 1 (req 8 [0]) [] (asking 8 [0] s)) ∧
      nat8At (req 6 [0]).payload 2 = 0 ∧ nat8At (req 7 [7]).payload 2 = 7 ∧
      nat8At (req 8 [0]).payload 2 = 0 ∧
      (holding .operator).holds 0 .operator = true ∧ serving.holds 0 .operator = false ∧
      ((inState .dead 1 0 serving).acting 0 = true ∧ ((inState .dead 1 0 serving).seq 0).state = .dead) ∧
      ¬ (serving.seq 0).state = .dead ∧
      ((free.seq 0).state = .lockout ∧ (free.switch 0).position = .closed ∧ NoReason free 0) ∧
      AtHead 8 1 (req 8 [0]) [] (asking 8 [0] free) := by
  repeat' first
    | decide +kernel
    | exact (noReason_iff _ _).2 (by decide +kernel)
    | exact (not_noReason_iff _ _).2 (by decide +kernel)
    | refine And.intro ?_ ?_

/-! ### Earth faults -/

def vnResult (n : Nat) : CycleResult := ⟨7, .replicate 4 ⟨⟨0, 0⟩, n, false⟩, none, false⟩

def earthed (s : State) : State :=
  { s with efs := { s.efs with settings := { s.efs.settings with vNvd := 2000 } } }

def displaced (n : Nat) : State :=
  (earthed serving).setEfs { serving.efs.record with state := .displaced, countdown := some n }

theorem witness_DisplacementIsConfirmed :
    mapped.mgr.device = .configuring ∧ (earthed serving).mgr.device = .inService ∧
      (earthed serving).efs.record.state = .quiet ∧
      (vnResult 1999).channels[3].magnitude < (earthed serving).efs.settings.vNvd ∧
      (earthed serving).efs.settings.vNvd ≤ (vnResult 2000).channels[3].magnitude ∧
      (∀ n : Fin 3, (displaced n).efs.record.state = .displaced ∧
        (displaced n).efs.record.countdown = some n.val) ∧
      20 * (vnResult 1899).channels[3].magnitude < 19 * (displaced 1).efs.settings.vNvd ∧
      ¬ 20 * (vnResult 1900).channels[3].magnitude < 19 * (displaced 1).efs.settings.vNvd := by
  decide +kernel

theorem witness_DisplacementIsConfirmed_identifying :
    let window (k : Nat) := (earthed serving).setEfs
      { serving.efs.record with state := .identifying, windowFirst := some 0, countdown := some k }
    let mode (b : Mode) (hunt : Bool) : State := { serving with
      mdu := { serving.mdu with busMode := b }
      efs := { serving.efs with settings := { serving.efs.settings with
        perMode := .replicate 3 ⟨hunt, .alarm, 600, 65535⟩ } } }
    (∀ k : Fin 3, (window k).mgr.device = .inService ∧ (window k).efs.record.state = .identifying ∧
      (window k).efs.record.countdown = some k.val) ∧
    20 * (vnResult 1899).channels[3].magnitude < 19 * (window 1).efs.settings.vNvd ∧
    ¬ 20 * (vnResult 1900).channels[3].magnitude < 19 * (window 1).efs.settings.vNvd ∧
    (mode .ban true).mdu.busMode = .ban ∧
    ((mode .season true).mdu.busMode ≠ .ban ∧
      ((mode .season true).earthMode (mode .season true).mdu.busMode).autoHunt = true) ∧
    ((mode .normal false).mdu.busMode ≠ .ban ∧
      ((mode .normal false).earthMode (mode .normal false).mdu.busMode).autoHunt = false) := by
  decide +kernel

theorem witness_PairsEarnVotes_lookup :
    let s := streamIn .locked 0 0 0 8 (serving.setEfs { serving.efs.record with state := .identifying })
    let b := s.setPheStream busRole { PheStream.empty with results := [vnResult 1] }
    (∀ t ∈ [s, b, streamIn .patched 0 0 1 8 b],
      t.mgr.device = .inService ∧ t.efs.record.state = .identifying ∧ Delivering busRole t) ∧
      ¬ Delivering busRole (streamIn .lost 0 0 0 8 b) ∧
      (b.pheStream busRole).results.find? (fun x => x.cycle == (vnResult 2).cycle) = some (vnResult 1) ∧
      (s.pheStream busRole).results.find? (fun x => x.cycle == (vnResult 2).cycle) = none := by
  decide +kernel

theorem witness_PairsEarnVotes :
    let w (s : State) := s.setEfs { s.efs.record with state := .identifying, windowFirst := some 2047 }
    let s := (w serving).setSwitch 0 { serving.switch 0 with position := .closed }
    let p := s.setEfs { s.efs.record with lastPaired := upd s.efs.record.lastPaired 0 (some 2047) }
    let r (c : CycleNo) (re : Int) : CycleResult := ⟨c, .replicate 4 ⟨⟨re, 0⟩, 0, false⟩, none, false⟩
    s.efs.record.windowFirst = some 2047 ∧
      ((23 : CycleNo) - 2047).toNat < s.efs.settings.windowCycles ∧
      ¬ ((24 : CycleNo) - 2047).toNat < s.efs.settings.windowCycles ∧
      s.efs.record.lastPaired[(0 : Slot)] = none ∧ p.efs.record.lastPaired[(0 : Slot)] = some 2047 ∧
      ((2047 : CycleNo) - 2047).toNat < ((0 : CycleNo) - 2047).toNat ∧
      (s.switch 0).position = .closed ∧ (s.feeder 0).inService = true ∧
      (serving.switch 0).position ≠ .closed ∧
      (∀ ch : Fin 4, (r 23 32767).channels[ch].overrange = false) ∧
      residualPower (r 23 3277) (r 23 (-1000)) ≤ -(s.efs.settings.wSet : Int) ∧
      -(s.efs.settings.wSet : Int) < residualPower (r 23 3244) (r 23 (-1000)) := by decide +kernel

/-- Feeder 0 identified, in phase `p`, with the countdown at `k` and a trip delay of 2. -/
def identified (p : IdPhase) (k : Nat) : State :=
  let s := (earthed serving).setEfs { serving.efs.record with
    state := .identified, identified := some 0, phase := some p, countdown := some k, awaited := some 3 }
  { s with efs := { s.efs with settings := { s.efs.settings with
      perMode := .replicate 3 ⟨false, .alarm, 600, 2⟩ } } }

theorem witness_IdentifiedFeedersAreTripped :
    let last (s : State) := s.setEfs { s.efs.record with delayCount := 1 }
    let delay (d : Nat) (s : State) : State := { s with efs := { s.efs with
      settings := { s.efs.settings with perMode := .replicate 3 ⟨false, .alarm, 600, d⟩ } } }
    (∀ p : IdPhase, p = .delay ∨ p = .opening ∨ p = .observing → ∀ k : Fin 3,
      (identified p k).mgr.device = .inService ∧ (identified p k).efs.record.state = .identified ∧
        (identified p k).efs.record.identified = some 0 ∧ (identified p k).efs.record.phase = some p ∧
        (identified p k).efs.record.countdown = some k.val) ∧
    (20 * (vnResult 1899).channels[3].magnitude < 19 * (identified .delay 0).efs.settings.vNvd ∧
      ¬ 20 * (vnResult 1900).channels[3].magnitude < 19 * (identified .delay 0).efs.settings.vNvd) ∧
    (let s := identified .delay 0;
      let d (s : State) := (s.earthMode (s.feederMode 0)).tripDelay
      d (delay 65535 s) = 65535 ∧ min 65535 (s.efs.record.delayCount + 1) < d s ∧
        d (last s) = min 65535 ((last s).efs.record.delayCount + 1)) := by
  refine ⟨?_, by decide +kernel⟩
  intro p h; rcases h with rfl | rfl | rfl <;> decide +kernel

theorem witness_IdentifiedFeedersAreTripped_tripped :
    let season := identified .delay 0
    let s : State := { season with mdu := { season.mdu with modes := .replicate 4 .normal } }
    let dead := inState .dead 1 0 season
    let opened := s.setSwitch 0 { s.switch 0 with position := .opened }
    let merge := orderIn .sent .open .protection 3 0 s
    let none := { s with siu := Siu.powerOn }
    let answer (x : State) := (askOrder .open .earth 0
      (x.setEfs { x.efs.record with recloseMark := recloseMarkOf x 0 })).answer
    (s.feederMode 0 = .normal ∧ season.feederMode 0 ≠ .normal ∧
      ¬ (season.acting 0 = true ∧ (season.seq 0).state = .dead ∧ season.holds 0 .earth = false)) ∧
    (dead.feederMode 0 ≠ .normal ∧ dead.acting 0 = true ∧ (dead.seq 0).state = .dead ∧
      dead.holds 0 .earth = false) ∧
    ((opened.switch 0).position = .opened ∧ (s.switch 0).position ≠ .opened) ∧
    (answer s = .taken 1 ∧ answer merge = .merged 3 ∧ answer none = .refused .noSwitch) ∧
    ((s.order 0).state = .idle ∧ (merge.order 0).state ≠ .idle) ∧
    (let p : OrderReport := ⟨0, .open, .earth, some 3, .empty, .confirmed⟩
      let o := identified .opening 0
      o.mgr.device = .inService ∧ o.efs.record.state = .identified ∧
        o.efs.record.identified = some p.slot ∧ o.efs.record.phase = some .opening ∧
        p.number.isSome = true ∧ o.efs.record.awaited = p.number) :=
  ⟨by decide +kernel, by decide +kernel, by decide +kernel, by decide +kernel, by decide +kernel,
    by decide +kernel⟩

/-- A feeder that a hunt may test stands first in the hunt order table. -/
def huntable (a : PersistentAction) (order : List Slot) : State :=
  let s := (freed 3 serving).setEfs { serving.efs.record with state := .unresolved }
  { s with efs := { s.efs with
      huntOrder := order
      settings := { s.efs.settings with perMode := .replicate 3 ⟨true, a, 600, 65535⟩ } } }

theorem witness_HuntsStartWithFirstFeeder :
    let allowed (s : State) := s.mgr.device = .inService ∧ s.mdu.busMode ≠ .ban ∧
      (s.efs.record.state = .unresolved ∨ s.efs.record.state = .persistent)
    AtHead 11 0 (req 11 []) [] (asking 11 [] mapped) ∧ ¬ allowed mapped ∧
      (let s := asking 11 [] (huntable .alarm [0, 3]);
        AtHead 11 0 (req 11 []) [] s ∧ allowed s ∧ buildHuntList s = [3] ∧ s.switchAddress 3 ≠ 0) ∧
      (let s := asking 11 [] (huntable .alarm []);
        AtHead 11 0 (req 11 []) [] s ∧ allowed s ∧ buildHuntList s = [] ∧
          (s.earthMode s.mdu.busMode).persistent = .alarm) ∧
      (let s := asking 11 [] (huntable .busTrip []);
        AtHead 11 0 (req 11 []) [] s ∧ allowed s ∧ buildHuntList s = [] ∧
          (s.earthMode s.mdu.busMode).persistent = .busTrip) := by decide +kernel

def testing (b : Mode) (st : StepState) : State :=
  let s := serving.setEfs { serving.efs.record with state := .hunting }
  let t := s.setHunt { HuntRecord.powerOn with list := [3], underTest := some 3, step := some st }
  { t with mdu := { t.mdu with busMode := b }, due := ⟨false, false, true⟩ }

theorem witness_HuntsAbort :
    (∀ st : StepState, st = .opening ∨ st = .observing ∨ st = .restoring ∨ st = .settling →
      ∀ b : Mode, b = .season ∨ b = .ban →
        let s := asking 12 [] (testing b st)
        AtHead 12 0 (req 12 []) [] s ∧ HuntUnderWay s ∧ s.efs.hunt.underTest = some 3 ∧
          s.efs.hunt.step = some st ∧ s.mdu.busMode = b ∧ s.switchAddress 3 ≠ 0 ∧
          (s.order 3).state = .idle ∧ s.holds 3 .fire = false ∧ s.acting 3 = true ∧
          s.due.huntLimit = true) ∧
      ¬ HuntUnderWay serving ∧ AtHead 12 0 (req 12 []) [] (asking 12 [] serving) ∧
      serving.due.huntLimit = false := by
  refine ⟨?_, by decide +kernel⟩
  intro st h b k; rcases h with rfl | rfl | rfl | rfl <;> rcases k with rfl | rfl <;> decide +kernel

/-- A hunt of feeders 3 and 1 with feeder 3 under test, whose order 3 is awaited, the countdown at `k`. -/
def stepping (st : StepState) (c : AbortCause) (k : Nat) : State :=
  let s := freed 1 (freed 3 (earthed serving))
  let t := s.setEfs { s.efs.record with state := .hunting }
  t.setHunt { HuntRecord.powerOn with
    list := [3, 1], underTest := some 3, step := some st, order := some 3, countdown := some k
    abortCause := c }

theorem witness_HuntStepsAreWalked :
    let index (k : Nat) (s : State) := s.setHunt { s.efs.hunt with stepIndex := k }
    let excluded (s : State) (f : Slot) := (s.switch f).position = .opened ∨
      (s.feeder f).inService = false ∨
      s.holds f .tag = true ∨ s.holds f .local = true ∨ s.holds f .switch = true ∨
      s.holds f .stream = true ∨ s.holds f .operator = true ∨ s.holds f .earth = true ∨
      (s.order f).state ≠ .idle ∨ (s.seq f).state ≠ .ready
    let a := stepping .settling .none 0
    let b := orderIn .requested .open .operator 3 1 a
    let c := { a with siu := Siu.powerOn }
    let persistent (x : PersistentAction) : State := { a with efs := { a.efs with
      settings := { a.efs.settings with perMode := .replicate 3 ⟨true, x, 600, 65535⟩ } } }
    (∀ x : PersistentAction, x = .alarm ∨ x = .busTrip →
      (index 2 (persistent x)).efs.hunt.list.length = (index 2 (persistent x)).efs.hunt.stepIndex ∧
        ((persistent x).earthMode (persistent x).mdu.busMode).persistent = x) ∧
    (∀ s ∈ [index 1 a, index 1 b, index 1 c], s.efs.hunt.list[s.efs.hunt.stepIndex]? = some 1) ∧
    ((¬ excluded a 1 ∧ a.switchAddress 1 ≠ 0) ∧ excluded b 1 ∧ (¬ excluded c 1 ∧ c.switchAddress 1 = 0)) ∧
    ((a.switchAddress 3 ≠ 0 ∧ (a.order 3).state = .idle ∧ a.holds 3 .fire = false) ∧
      c.switchAddress 3 = 0) ∧
    ((a.acting 3 = true ∧ (a.seq 3).state ≠ .lockout) ∧ mapped.acting 3 = false) ∧
    (a.efs.hunt.abortCause = .none ∧ (stepping .restoring .limit 0).efs.hunt.abortCause ≠ .none) := by
  refine ⟨?_, by decide +kernel⟩
  intro x h; rcases h with rfl | rfl <;> decide +kernel

theorem witness_HuntStepsAreWalked_events :
    let p (h : Happened) : OrderReport := ⟨3, .open, .earth, some 3, .empty, h⟩
    (∀ st : StepState, st = .opening ∨ st = .observing ∨ st = .restoring ∨ st = .settling →
      ∀ c : AbortCause, c = .none ∨ c = .request → ∀ k : Fin 3, let s := stepping st c k
        s.mgr.device = .inService ∧ s.efs.record.state = .hunting ∧ s.efs.hunt.step = some st ∧
          s.efs.hunt.abortCause = c ∧ s.efs.hunt.countdown = some k.val ∧
          s.efs.hunt.underTest = some (p .confirmed).slot ∧ (p .failed).number.isSome = true ∧
          s.efs.hunt.order = (p .withdrawn).number) ∧
    20 * (vnResult 1899).channels[3].magnitude < 19 * (earthed serving).efs.settings.vNvd ∧
    ¬ 20 * (vnResult 1900).channels[3].magnitude < 19 * (earthed serving).efs.settings.vNvd := by
  refine ⟨?_, by decide +kernel⟩
  intro st h c k
  rcases h with rfl | rfl | rfl | rfl <;> rcases k with rfl | rfl <;> decide +kernel

theorem witness_HuntsAbort_ends :
    let s (b : Mode) (c : AbortCause) (dropped : Bool) : State :=
      let t := stepping .settling c 0
      { t.setEfs { t.efs.record with vnDropped := dropped } with mdu := { t.mdu with busMode := b } }
    let limit (s : State) := s.efs.hunt.abortCause = .limit ∧ s.mdu.busMode = .season
    (s .ban .limit true).mdu.busMode = .ban ∧
      ((s .season .limit true).mdu.busMode ≠ .ban ∧ (s .season .limit true).efs.record.vnDropped = true) ∧
      (limit (s .season .limit false) ∧ (s .season .limit false).efs.record.vnDropped = false) ∧
      ((s .season .protection false).efs.hunt.abortCause = .protection ∧
        (s .season .protection false).efs.record.vnDropped = false) ∧
      (¬ limit (s .normal .limit false) ∧ (s .normal .limit false).efs.hunt.abortCause ≠ .protection ∧
        (s .normal .limit false).mdu.busMode ≠ .ban) := by decide +kernel

theorem witness_BusTripsOpenFeeders :
    let asked (s : State) (f : Slot) := (s.feeder f).inService = true ∧ (s.switch f).position ≠ .opened
    let tripping (n : Option OrderNo) := (earthed serving).setEfs { serving.efs.record with
      state := .busTrip, busTripList := upd serving.efs.record.busTripList 0 n }
    let s := orderIn .requested .open .protection 3 0 serving
    let t := orderIn .sent .close .operator 3 0 serving
    let p : OrderReport := ⟨0, .open, .earth, some 3, .empty, .confirmed⟩
    (¬ asked mapped 0 ∧ asked serving 0 ∧ serving.holds 0 .earth = false ∧ asked (holding .earth) 0 ∧
      (holding .earth).holds 0 .earth = true) ∧
    (asked { serving with siu := Siu.powerOn } 0 ∧ Siu.powerOn.active[(9 : Fin 17)] = 0) ∧
    ((s.order 0).state ≠ .idle ∧ (s.order 0).kind = .open ∧ (t.order 0).kind = .close ∧
      (serving.order 0).state = .idle ∧ serving.switchAddress 0 ≠ 0) ∧
    (∀ n ∈ [none, some (3 : OrderNo), some 4], (tripping n).mgr.device = .inService ∧
      (tripping n).efs.record.state = .busTrip) ∧
    (p.happened = .confirmed ∧ p.number.isSome = true ∧
      (tripping (some 3)).efs.record.busTripList[p.slot] = p.number ∧
      (tripping (some 4)).efs.record.busTripList[p.slot] ≠ p.number) ∧
    ((∃ f : Slot, (tripping (some 3)).efs.record.busTripList[f] ≠ none) ∧
      ∀ f : Slot, (tripping none).efs.record.busTripList[f] = none) ∧
    (20 * (vnResult 1899).channels[3].magnitude < 19 * (tripping none).efs.settings.vNvd ∧
      ¬ 20 * (vnResult 1900).channels[3].magnitude < 19 * (tripping none).efs.settings.vNvd) := by
  decide +kernel

theorem witness_BusTripsOpenFeeders_ban :
    (∀ x : EfsState, x = .unresolved ∨ x = .persistent →
      let s := serving.setEfs { serving.efs.record with state := x }
      s.mgr.device = .inService ∧ s.efs.record.state = x) ∧
    (HuntUnderWay (testing .ban .opening) ∧ (testing .ban .opening).mdu.busMode = .ban) ∧
    (serving.mgr.device = .inService ∧ serving.efs.record.state ≠ .unresolved ∧
      serving.efs.record.state ≠ .persistent ∧ ¬ HuntUnderWay serving) := by
  refine ⟨?_, by decide +kernel⟩
  intro x h; rcases h with rfl | rfl <;> decide +kernel

/-! ### Clock and modes -/

def clockAt (d : Day) (ms : Nat) (s : State) : State :=
  { s with mdu := { s.mdu with running := true, day := d, ms := ms } }

theorem witness_TicksMoveClockAndTimers :
    mapped.mdu.running = false ∧
      ((clockAt 1 86399998 mapped).mdu.running = true ∧
        (clockAt 1 86399998 mapped).mdu.ms + 1 < 86400000) ∧
      86400000 ≤ (clockAt 1 86399999 mapped).mdu.ms + 1 ∧
      mapped.efs.record.state ≠ .hunting ∧ (testing .season .opening).efs.record.state = .hunting := by
  decide +kernel

theorem witness_BoundariesEvaluateModes :
    let due (m d : Bool) (s : State) : State := { s with due := ⟨m, d, false⟩ }
    (due false true mapped).due.day = true ∧
      (mapped.due.day = false ∧ 86400000 ≤ (clockAt 1 86399999 mapped).mdu.ms + 1) ∧
      (mapped.mdu.running = false ∧ (clockAt 1 86399998 mapped).mdu.ms + 1 < 86400000) ∧
      ((due true true mapped).due.minute = true ∧ (due true false mapped).due.minute = true) ∧
      ((clockAt 1 59999 mapped).mdu.running = true ∧ ((clockAt 1 59999 mapped).mdu.ms + 1) % 60000 = 0) ∧
      ((clockAt 1 86399999 mapped).mdu.ms + 1) % 60000 = 0 ∧
      ((clockAt 1 59998 mapped).mdu.ms + 1) % 60000 ≠ 0 := by decide +kernel

theorem witness_TimeFramesSetTheClock :
    let f (ms : Nat) := frame 63 5 .time (u16 1 ++ u32 ms)
    (∀ ms, ms = 86399999 ∨ ms = 86400000 → Arrives 3 (f ms) mapped ∧ destinationOf (f ms) = 63 ∧
      nat32At (payloadOf (f ms)) 2 = ms) ∧
      Arrives 3 (f 5000) (clockAt 1 4000 mapped) ∧ (clockAt 1 4000 mapped).mdu.running = true ∧
      ((1 : Int) - 1) * 86400000 + (5000 - 4000) ≤ 1000 ∧
      1000 < ((1 : Int) - 1) * 86400000 + (5001 - 4000) := by
  refine ⟨?_, by decide +kernel⟩
  intro ms h; rcases h with rfl | rfl <;> decide +kernel

theorem witness_DistrictModeIsDecided :
    let s (ds : List Declaration) : State :=
      { mapped with mdu := { Mdu.powerOn with running := true, day := 9, ms := 600 * 60000
                                              declarations := ds } }
    let covers (x : Declaration) (s : State) := x ∈ s.mdu.declarations ∧ x.district = 0 ∧
      x.day = s.mdu.day ∧ x.startMinute ≤ s.mdu.ms / 60000 ∧ s.mdu.ms / 60000 < x.endMinute
    (upd Mdu.powerOn.overrides 0 (some ⟨.ban, 9, 700⟩))[(0 : District)] = some ⟨.ban, 9, 700⟩ ∧
      mapped.mdu.overrides[(0 : District)] = none ∧ mapped.mdu.running = false ∧
      covers ⟨0, 9, 600, 601, .ban⟩ (s [⟨0, 9, 600, 601, .ban⟩]) ∧
      covers ⟨0, 9, 500, 601, .season⟩ (s [⟨0, 9, 500, 600, .ban⟩, ⟨0, 9, 500, 601, .season⟩]) ∧
      ¬ covers ⟨0, 9, 500, 600, .ban⟩ (s [⟨0, 9, 500, 600, .ban⟩]) ∧
      ((⟨9, 9, .season⟩ : SeasonWindow).startDay.toNat ≤ 9 ∧ 9 ≤ (⟨9, 9, .season⟩ : SeasonWindow).endDay.toNat) ∧
      ¬ (SeasonWindow.startDay ⟨1, 0, .season⟩).toNat ≤ (SeasonWindow.endDay ⟨1, 0, .season⟩).toNat := by
  decide +kernel

theorem witness_BusModeIsMostSevere :
    let s (m : Mode) := { serving with mdu := { serving.mdu with modes := .replicate 4 m } }
    (∀ m : Mode, m = .normal ∨ m = .season ∨ m = .ban → ((s m).feeder 0).inService = true ∧
      ∀ f : Slot, (s m).mdu.modes[((s m).feeder f).district] = m) ∧
    ∀ f : Slot, (mapped.feeder f).inService = false := by
  refine ⟨?_, by decide +kernel⟩
  intro m h; rcases h with rfl | rfl | rfl <;> decide +kernel

theorem witness_ModeChangesReachEveryBlock :
    let bus (b m : Mode) : State := { serving with mdu := { serving.mdu with
      busMode := b, modes := .replicate 4 m } }
    ((derivedBusMode (bus .season .season) = .season ∧
      derivedBusMode (bus .season .normal) = .normal ∧ derivedBusMode (bus .season .ban) = .ban) ∧
      (bus .season .ban).mdu.busMode = .season) ∧
    ((districtMode serving 0).1 = serving.mdu.modes[(0 : District)] ∧
      (districtMode (bus .season .ban) 0).1 ≠ (bus .season .ban).mdu.modes[(0 : District)]) := by
  decide +kernel

theorem witness_ModeChangesReachEveryBlock_feeders :
    let pend (p : Option GroupNo) := (freed 0 serving).setGroups 0 (some 0) p
    let other (s : State) := s.setFeeder 0 { s.feeder 0 with modeMap := #v[0, 1, 1] }
    let dead := inState .dead 1 0 serving
    let w := orderIn .requested .close .reclose 3 0 (freed 0 serving)
    let closing := (inState .closing 1 0 w).setSeq 0
      { (inState .closing 1 0 w).seq 0 with awaited := some 3 }
    let g (m : Mode) (s : State) := (s.feeder 0).modeMap[m.index]
    ((serving.feeder 0).district = 0 ∧ (serving.feeder 0).district ≠ 3 ∧
      serving.efs.record.state ≠ .hunting) ∧
    (w.holds 0 .fire = false ∧ (w.order 0).state = .requested ∧ (w.order 0).kind = .close ∧
      (w.order 0).origin = .reclose) ∧
    (dead.acting 0 = true ∧ (dead.seq 0).state = .dead ∧ dead.holds 0 .fire = false) ∧
    (closing.acting 0 = true ∧ (closing.seq 0).state = .closing ∧
      (closing.seq 0).awaited = some (closing.order 0).number ∧ closing.holds 0 .fire = false) ∧
    ((mapped.feeder 0).inService = false ∧ (pend none).activeGroup 0 = some 0 ∧
      ((pend none).feeder 0).inService = true) ∧
    (g .ban (pend none) = 0 ∧ (pend none).pendingGroup 0 = none ∧
      (pend (some 1)).pendingGroup 0 = some 1) ∧
    (g .ban (other (pend none)) = 1 ∧ (other (pend (some 1))).pendingGroup 0 = some 1 ∧
      ¬ Delivering (0 : Slot).role (other (pend none)) ∧
      Delivering (0 : Slot).role (streamIn .locked 0 0 0 0 (other (pend none)))) := by decide +kernel

theorem witness_OverridesSetModes :
    (∀ d : Fin 5, ∀ m ∈ [(0 : Byte), 1, 2, 3, 255],
      let ps : List Byte := [BitVec.ofNat 8 d.val, m, 0, 1, 5, 159]
      AtHead 10 6 (req 10 ps) [] (asking 10 ps (clockAt 1 (1438 * 60000) mapped)) ∧
        nat8At (req 10 ps).payload 2 = d.val ∧ nat8At (req 10 ps).payload 3 = m.toNat ∧
        word16At (req 10 ps).payload 4 = 1 ∧ nat16At (req 10 ps).payload 6 = 1439) ∧
      nat16At (req 10 [0, 0, 0, 1, 5, 160]).payload 6 = 1440 := by decide +kernel

/-! ### Requests -/

def fullReplies (s : State) : State :=
  { s with rpt := { s.rpt with replies := .replicate 4 ⟨5, 3, 0, .ok, []⟩ } }

theorem witness_RequestsAreCheckedFirst :
    (fullReplies (asking 3 [] mapped)).mgr.fifo = [req 3 []] ∧
      (fullReplies (asking 3 [] mapped)).rpt.replies.length = 4 ∧ mapped.rpt.replies.length < 4 ∧
      (∀ x ∈ requestForms, let ps := List.replicate (x.2.2 + 1) (0 : Byte)
        let q := req (BitVec.ofNat 8 x.2.1) ps
        nat8At q.payload 0 = x.2.1 ∧ q.payload.length ≠ 2 + x.2.2 ∧ 2 ≤ q.payload.length) ∧
      (∀ x ∈ slotForms, let ps := (8 : Byte) :: List.replicate (x.2.2 - 1) 0
        let q := req (BitVec.ofNat 8 x.2.1) ps
        nat8At q.payload 0 = x.2.1 ∧ q.payload.length = 2 + x.2.2 ∧ nat8At q.payload 2 = 8) ∧
      nat8At (req 0 []).payload 0 = 0 ∧ nat8At (req 16 []).payload 0 = 16 := by decide +kernel

theorem witness_ReadingChangesNothing :
    (∀ n ∈ [(0 : Byte), 1, 19, 21, 22], ∀ i ∈ [(0 : Byte), 16, 17, 31, 32],
      AtHead 1 3 (req 1 [n, i, 255]) [] (asking 1 [n, i, 255] mapped)) ∧
      tableOf 1 = some .stagedMap ∧ tableOf 19 = some .declarations ∧
      ¬ Table.entries mapped .stagedMap ≤ 16 ∧ Table.entries mapped .stagedMap ≤ 17 ∧
      AtHead 4 1 (req 4 [7]) [] (asking 4 [7] mapped) ∧ nat8At (req 4 [7]).payload 2 = 7 ∧
      (vnResult 1).cycle = (vnResult 2).cycle := by decide +kernel

/-- SNAPSHOT with a common cycle, each side valid or not, and without one. -/
theorem witness_ReadingChangesNothing_snapshot :
    let lists (own bus : List CycleResult) (s : State) :=
      (s.setPheStream (7 : Slot).role { PheStream.empty with results := own }).setPheStream busRole
        { PheStream.empty with results := bus }
    let s := asking 4 [7] mapped
    let a := streamIn .locked 0 0 0 7 (streamIn .patched 0 0 0 8 (lists [vnResult 1] [vnResult 2] s))
    let b := lists [vnResult 1] [{ vnResult 2 with cycle := 8 }] s
    (∀ t ∈ [a, b, s], AtHead 4 1 (req 4 [7]) [] t) ∧
      commonResult (a.pheStream busRole).results (a.pheStream (7 : Slot).role).results =
        some (vnResult 1, vnResult 2) ∧
      commonResult (b.pheStream busRole).results (b.pheStream (7 : Slot).role).results = none ∧
      (s.pheStream (7 : Slot).role).results = [] := by decide +kernel

theorem witness_StatusReportsAndRearms :
    AtHead 3 0 (req 3 []) [] (asking 3 [] mapped) := by decide +kernel

theorem witness_WritesStopAtFirstRefusal :
    let q := req 2 [1, 0, 2, 40, 63]
    let s := asking 2 [1, 0, 2, 40, 63] mapped
    let d := req 2 [19, 1, 1, 0, 1, 0, 1, 0, 0, 0, 9]
    AtHead 2 (3 + 2) q [] s ∧ tableOf (nat8At q.payload 2) = some .stagedMap ∧
      Table.writeSize .stagedMap = some 1 ∧ nat8At q.payload 4 ≠ 0 ∧ 2 = nat8At q.payload 4 * 1 ∧
      q.payload.drop 5 = ([[40]] ++ [[63]] : List (List Byte)).flatten ∧
      (tableOf 2).bind Table.writeSize = none ∧ (tableOf 22).bind Table.writeSize = none ∧
      (AtHead 2 (3 + 8) d [] (asking 2 [19, 1, 1, 0, 1, 0, 1, 0, 0, 0, 9] mapped) ∧
        tableOf (nat8At d.payload 2) = some .declarations ∧ nat8At d.payload 3 ≠ 0 ∧
        8 = nat8At d.payload 4 * 8) := by decide +kernel

/-- A WRITE whose payload ends before its count, its start index, or its table (R185; log entries 19, 36). -/
theorem witness_WritesStopAtFirstRefusal_short :
    (∀ ps ∈ [[], [1], [1, 16]], AtHead 2 ps.length (req 2 ps) [] (asking 2 ps mapped) ∧ ps.length < 3) ∧
      ((after .write (asking 2 [1] mapped)).rpt.out =
        .sending (buildFrame 5 1 .reply [2, 9, 5, 0, 1, 0, 0, 0])) := by decide +kernel

theorem witness_WritesStopAtFirstRefusal_entries :
    let s := begun [] mapped
    ∃ u, storesTo .stagedMap 0 [[40]] s u ∧ Table.store (0 + 1) [63] u .stagedMap = .refused .invalid :=
  ⟨_, ⟨_, rfl, rfl⟩, rfl⟩

theorem witness_EntriesAreGuarded :
    (62 < nat8At [63] 0 ∧ nat8At [1] 0 = mapped.rpt.ownAddress.toNat ∧
      mapped.siu.staged[(1 : Fin 17)].toNat = nat8At [11] 0 ∧
      (nat8At [62] 0 ≤ 62 ∧ ∀ j : Fin 17, mapped.siu.staged[j].toNat ≠ 62)) ∧
    (let bad : Curve := Curve.powerOn;
      let s := { serving with gst := { serving.gst with groups := .replicate 32 { plainGroup with phIt := ⟨400, 7, 1, 0, 1⟩ } } };
      nat8At workedCurve.bytes 0 ≤ 16 ∧ (Curve.ofBytes bad.bytes).valid = false ∧
        (Curve.ofBytes workedCurve.bytes).valid = true ∧
        (s.feeder 0).inService = true ∧ (s.group 0 (s.feeder 0).modeMap[(0 : Fin 3)]).phIt.curve = 7 ∧
        (s.group 0 (s.feeder 0).modeMap[(0 : Fin 3)]).phIt.pickup ≠ 0 ∧
        (serving.group 0 0).phIt.pickup = 0) ∧
    (serving.activeGroup 0 = some 0 ∧
      (let s := serving.setGroups 0 none none;
        s.activeGroup 0 ≠ some 0 ∧ s.pendingGroup 0 ≠ some 0 ∧
        (s.feeder 0).modeMap[(0 : Fin 3)] = 0 ∧
        (GroupRecord.ofBytes GroupRecord.powerOn.bytes).valid s.gst.curves = false ∧
        (GroupRecord.ofBytes plainGroup.bytes).valid s.gst.curves = true)) := by decide +kernel

/-- R185: an index beyond the table. -/
theorem test_indexes_beyond_the_tables :
    Table.store 17 [40] mapped .stagedMap = .refused .badIndex ∧
      Table.store 8 workedCurve.bytes mapped .curves = .refused .badIndex ∧
      Table.store 32 plainGroup.bytes mapped .groups = .refused .badIndex ∧
      Table.store 8 [1, 0, 0, 0, 0, 0, 50, 3] mapped .feeders = .refused .badIndex ∧
      Table.store 1 [] mapped .earthSettings = .refused .badIndex ∧
      Table.store 1 [0] mapped .huntOrder = .refused .badIndex ∧
      Table.store 4 [0, 1, 0, 2, 1, 0] mapped .seasonWindows = .refused .badIndex := ⟨rfl, rfl, rfl, rfl, rfl, rfl, rfl⟩

theorem witness_EntriesAreGuarded_earth :
    let entry (a b c d e f g : Nat) (h i : Byte) (j k : Nat) : List Byte :=
      let m := [h, i] ++ u16 j ++ u16 k
      u16 a ++ u16 b ++ u8 c ++ u8 d ++ u16 e ++ u16 f ++ u16 g ++ m ++ m ++ m
    let good (e : List Byte) :=
      (16 ≤ nat16At e 0 ∧ nat16At e 0 ≤ 46339) ∧ (1 ≤ nat16At e 2 ∧ nat16At e 2 ≤ 3000) ∧
      (4 ≤ nat8At e 4 ∧ nat8At e 4 ≤ 250) ∧ (1 ≤ nat8At e 5 ∧ nat8At e 5 ≤ nat8At e 4) ∧
      1 ≤ nat16At e 6 ∧ (5 ≤ nat16At e 8 ∧ nat16At e 8 ≤ 500) ∧
      (5 ≤ nat16At e 10 ∧ nat16At e 10 ≤ 500) ∧
      ∀ n : Fin 3, let k := 12 + 6 * n.val
        nat8At e k ≤ 1 ∧ nat8At e (k + 1) ≤ 1 ∧ 10 ≤ nat16At e (k + 2) ∧ nat16At e (k + 2) ≤ 3600
    good (entry 16 1 4 1 1 5 5 0 0 10 0) ∧ good (entry 46339 3000 250 250 65535 500 500 1 1 3600 65535) ∧
      ¬ good (entry 15 1 4 1 1 5 5 0 0 10 0) ∧ ¬ good (entry 16 1 4 1 1 5 5 0 2 10 0) :=
  ⟨by decide +kernel, by decide +kernel, by decide +kernel, by decide +kernel⟩

theorem witness_EntriesAreGuarded_lists :
    let good (e : List Byte) := let listed := (e.drop 1).take (nat8At e 0)
      nat8At e 0 ≤ 8 ∧ (∀ b ∈ listed, b.toNat ≤ 7) ∧ listed.Nodup
    good [0, 9, 9, 9, 9, 9, 9, 9, 9] ∧ good [8, 7, 6, 5, 4, 3, 2, 1, 0] ∧
      ¬ good [9, 0, 1, 2, 3, 4, 5, 6, 7] ∧ ¬ good [1, 8, 0, 0, 0, 0, 0, 0, 0] ∧
      ¬ good [2, 3, 3, 0, 0, 0, 0, 0, 0] ∧
      nat8At [0, 1, 0, 2, 2, 0] 4 = Mode.ban.index.val ∧ 2 < nat8At [0, 1, 0, 2, 3, 0] 4 := by
  decide +kernel

theorem witness_EntriesAreGuarded_forms :
    let e (d s t l : Nat) : List Byte := u16 9 ++ u8 d ++ u8 l ++ u16 s ++ u16 t
    let good (e : List Byte) := let level := nat8At e 3
      nat8At e 2 ≤ 3 ∧ nat16At e 4 ≤ 1439 ∧ nat16At e 6 ≤ 1440 ∧ nat16At e 4 < nat16At e 6 ∧
        (level = 1 ∨ level = 2 ∨ level = 255)
    (∀ l ∈ [1, 2, 255], good (e 3 1439 1440 l) ∧ nat8At (e 3 1439 1440 l) 3 = l ∧
      nat8At (e 3 1439 1440 l) 2 = (3 : District).val) ∧
      ¬ good (e 4 0 1 1) ∧ ¬ good (e 0 1440 1441 1) ∧ ¬ good (e 0 600 600 1) ∧ ¬ good (e 0 0 1 0) := by
  decide +kernel

theorem witness_EntriesAreGuarded_feeders :
    let e (inService district group : Byte) : List Byte := [inService, district, group, group, group, 0, 50, 3]
    let out := serving.setFeeder 0 FeederRecord.powerOn
    FeederRecord.ofBytes [2, 0, 0, 0, 0, 0, 50, 3] = none ∧
      FeederRecord.ofBytes (e 1 0 0) = some ⟨true, 0, #v[0, 0, 0], 50, 3⟩ ∧
      groupValidAt mapped 0 0 = false ∧ groupValidAt serving 0 0 = true ∧
      ((out.feeder 0).inService = false ∧ out.mgr.device = .inService ∧
        out.samplingAddress (0 : Slot).role ≠ 0) ∧
      (serving.feeder 0).inService = true ∧ (serving.feeder 0).district ≠ 3 := by decide +kernel

/-- Feeder 0 leaves service in each sequencer state, joins it in each device state, and changes its district to
one in BAN while out of service, with a REQUESTED CLOSE that FIRE withdraws or none. -/
theorem witness_EntriesAreGuarded_effects :
    let ban (s : State) : State := { s with mdu := { s.mdu with modes := #v[.season, .ban, .season, .season] } }
    let e (inService district : Byte) : List Byte := [inService, district, 0, 0, 0, 0, 50, 3]
    let out := serving.setFeeder 0 FeederRecord.powerOn
    let conf (s : State) : State := { s with mgr := Mgr.powerOn }
    let waits := orderIn .requested .close .reclose 3 0 (ban out)
    (∀ q : SeqState, q = .ready ∨ q = .opening ∨ q = .dead ∨ q = .closing ∨ q = .reclaim ∨ q = .lockout →
      ((inState q 1 0 serving).seq 0).state = q ∧ ((inState q 1 0 serving).feeder 0).inService = true) ∧
      (∀ s ∈ [out, conf out], (s.feeder 0).inService = false ∧ (s.feeder 0).district = 0) ∧
      ((conf out).mgr.device = .configuring ∧ out.mgr.device = .inService ∧ (out.seq 0).state ≠ .dead) ∧
      ((out.group 0 0).maxShots < 3 ∧ ((inState .dead 3 0 out).seq 0).shot = 3) ∧
      (FeederRecord.ofBytes (e 1 1) = some ⟨true, 1, #v[0, 0, 0], 50, 3⟩ ∧
        (waits.setFeeder 0 ⟨true, 1, #v[0, 0, 0], 50, 3⟩).feederMode 0 = .ban ∧
        waits.holds 0 .fire = false ∧ (waits.order 0).state = .requested ∧ (waits.order 0).kind = .close ∧
        (waits.order 0).origin = .reclose ∧ (out.order 0).state = .idle) := by
  refine ⟨?_, by decide +kernel, by decide +kernel, by decide +kernel, by decide +kernel⟩
  intro q h; rcases h with rfl | rfl | rfl | rfl | rfl | rfl <;> decide +kernel

theorem witness_EntriesAreGuarded_declarations :
    let d : Declaration := ⟨1, 9, 600, 700, .ban⟩
    let e := d.bytes
    let s (n : Nat) : State := { mapped with mdu := { Mdu.powerOn with declarations := .replicate n ⟨0, 1, 0, 1, .ban⟩ } }
    DeclarationWrite.ofBytes e = some (.put d) ∧
      (s 31).mdu.declarations.length < 32 ∧ 32 ≤ (s 32).mdu.declarations.length ∧
      (∀ x ∈ (s 32).mdu.declarations, ¬ x.day = d.day) ∧
      CalendarSound { mapped with mdu := { Mdu.powerOn with declarations := [d] } } := by decide +kernel

theorem witness_OperateAsksOrders :
    (∀ b : Fin 3, AtHead 5 2 (req 5 [7, BitVec.ofNat 8 b.val]) [] (asking 5 [7, BitVec.ofNat 8 b.val] serving) ∧
      nat8At (req 5 [7, BitVec.ofNat 8 b.val]).payload 2 = 7 ∧
      nat8At (req 5 [7, BitVec.ofNat 8 b.val]).payload 3 = b.val) ∧
      mapped.mgr.device = .configuring ∧
      ((holding .tag).switchAddress 0 ≠ 0 ∧ (holding .tag).holds 0 .tag = true) ∧
      (let s := { serving with siu := Siu.powerOn };
        s.mgr.device = .inService ∧ s.switchAddress 0 = 0) ∧
      (serving.mgr.device = .inService ∧ serving.switchAddress 0 ≠ 0 ∧ serving.holds 0 .tag = false ∧
        serving.holds 0 .local = false ∧ (serving.order 0).state = .idle ∧ EfsAwaitsNot 0 serving) ∧
      ((inState .dead 1 0 serving).acting 0 = true ∧ ((inState .dead 1 0 serving).seq 0).state = .dead) ∧
      (∀ k : OrderKind, k = .open ∨ k = .close →
        let s := orderIn .sent k .earth 3 0 serving
        (s.order 0).state ≠ .idle ∧ (s.order 0).kind = k ∧ EfsAwaitsNot 0 s) := by
  refine ⟨by decide +kernel, by decide +kernel, by decide +kernel, by decide +kernel, by decide +kernel,
    by decide +kernel, ?_⟩
  intro k h; rcases h with rfl | rfl <;> decide +kernel

/-- An OPERATE OPEN that supersedes the restore CLOSE of the feeder under test. -/
theorem witness_OperateAsksOrders_restore :
    let s := asking 5 [3, 0] (orderIn .sent .close .earth 3 3 (stepping .restoring .none 0))
    AtHead 5 2 (req 5 [3, 0]) [] s ∧ nat8At (req 5 [3, 0]).payload 2 = (3 : Slot).val ∧
      (s.mgr.device = .inService ∧ s.switchAddress 3 ≠ 0 ∧ s.holds 3 .tag = false ∧
        s.holds 3 .local = false) ∧
      ((s.order 3).state ≠ .idle ∧ (s.order 3).kind = .close) ∧
      (s.efs.record.state = .hunting ∧ s.efs.hunt.underTest = some 3 ∧
        s.efs.hunt.step = some .restoring ∧ s.efs.hunt.order = some (s.order 3).number) := by
  decide +kernel

theorem witness_EnterServiceChecksFeeders :
    let conf (s : State) : State := asking 13 [] { s with mgr := Mgr.powerOn }
    let invalid (s : State) (f : Slot) := (s.feeder f).inService = true ∧
      ∃ m : Fin 3, groupValidAt s f (s.feeder f).modeMap[m] = false
    let unmapped (s : State) (f : Slot) := (s.feeder f).inService = true ∧
      (if s.siu.activated = true then s.samplingAddress f.role else s.siu.staged[f.role]) = 0
    let a := conf { serving with gst := { serving.gst with groups := Gst.powerOn.groups } }
    let b := conf { serving with siu := { Siu.powerOn with staged := upd units 7 0 } }
    let c := conf serving
    (AtHead 13 0 (req 13 []) [] (asking 13 [] serving) ∧ serving.mgr.device = .inService) ∧
      (∀ s ∈ [a, b, c], AtHead 13 0 (req 13 []) [] s ∧ s.mgr.device = .configuring) ∧
      invalid a 0 ∧
      ((∀ g : Slot, g < 7 → ¬ invalid b g ∧ ¬ unmapped b g) ∧ ¬ invalid b 7 ∧ unmapped b 7) ∧
      (∀ f : Slot, ¬ invalid c f ∧ ¬ unmapped c f) ∧ c.siu.activated = true ∧
      (conf { serving with siu := { Siu.powerOn with staged := units } }).siu.activated = false := by
  decide +kernel

theorem witness_LeaveServiceEndsTheWork :
    let a := asking 14 [] (testing .season .observing)
    AtHead 14 0 (req 14 []) [] (asking 14 [] mapped) ∧ mapped.mgr.device = .configuring ∧
      AtHead 14 0 (req 14 []) [] a ∧ a.mgr.device = .inService ∧ a.efs.record.state = .hunting ∧
      a.efs.hunt.underTest = some 3 ∧ serving.efs.record.state = .quiet ∧
      (∀ q : SeqState, q = .opening ∨ q = .dead ∨ q = .closing ∨ q = .reclaim ∨ q = .ready ∨ q = .lockout →
        ((inState q 1 0 serving).seq 0).state = q ∧
        ¬ ((inState q 1 0 serving).efs.record.state = .hunting)) := by
  refine ⟨by decide +kernel, by decide +kernel, by decide +kernel, by decide +kernel, by decide +kernel,
    by decide +kernel, by decide +kernel, ?_⟩
  intro q h; rcases h with rfl | rfl | rfl | rfl | rfl | rfl <;> decide +kernel

/-- The feeder under test, closed with no OPEN in flight, closed with one, and not closed, in READY and DEAD. -/
theorem witness_LeaveServiceEndsTheWork_underTest :
    let a := testing .season .observing
    let closed (s : State) := s.setSwitch 3 { s.switch 3 with position := .closed }
    (∀ q : SeqState, q = .ready ∨ q = .dead ∨ q = .lockout → let s := inState q 1 3 a
      s.efs.record.state = .hunting ∧ s.efs.hunt.underTest = some 3 ∧ s.acting 3 = true ∧
        (s.seq 3).state = q ∧ (s.switch 3).position ≠ .closed) ∧
      (((closed a).switch 3).position = .closed ∧ ((closed a).order 3).state = .idle) ∧
      (let b := orderIn .sent .open .earth 3 3 (closed a);
        (b.order 3).state ≠ .idle ∧ (b.order 3).kind = .open) := by
  refine ⟨?_, by decide +kernel, by decide +kernel⟩
  intro q h; rcases h with rfl | rfl | rfl <;> decide +kernel

theorem witness_RestartClearsTheWork :
    ∀ q : SeqState, q = .opening ∨ q = .dead ∨ q = .closing ∨ q = .reclaim ∨ q = .ready ∨ q = .lockout →
      AtHead 15 0 (req 15 []) [] (asking 15 [] (inState q 1 0 serving)) ∧
        ((inState q 1 0 serving).seq 0).state = q := by
  intro q h; rcases h with rfl | rfl | rfl | rfl | rfl | rfl <;> decide +kernel

end Sys2Proof.Tests
end

section
/-! PROOFS. The obligations on repeated samples and on breaks of a stream (R9, R10, R11), and what they need of
RCS, EFS and PHE: the reason set, a bus trip, an aborted hunt, and a window started afresh. -/

namespace Sys2Proof.Machine

/-! ## The class of a sample and its reception -/

theorem classify_repeated {d : Nat} (h : d = 0 ∨ 65532 ≤ d) :
    classify d = .duplicate ∨ classify d = .late := by
  rcases h with rfl | h
  · exact .inl rfl
  · right
    unfold classify
    rw [if_neg (by omega), if_neg (by omega), if_neg (by omega), if_pos h]

theorem classify_break {d : Nat} (h : 5 ≤ d) (h' : d ≤ 65531) : classify d = .break := by
  unfold classify
  rw [if_neg (by omega), if_neg (by omega), if_neg (by omega), if_neg (by omega)]

theorem takeSample_delivering {r : Role} {s : State} (x : Sample) (h : Delivering r s) :
    takeSample r x s = takeDelivering r x s := by
  unfold takeSample
  rcases h with h | h <;> rw [h]

theorem takeSample_filling {r : Role} {s : State} (x : Sample) (h : (s.stream r).state = .filling) :
    takeSample r x s = takeFilling r x s := by
  unfold takeSample
  rw [h]

theorem takeSample_repeated {r : Role} {x : Sample} {s : State}
    (hs : Delivering r s ∨ (s.stream r).state = .filling)
    (hd : distanceOf r x s = 0 ∨ 65532 ≤ distanceOf r x s) : takeSample r x s = discardSample r s := by
  have hc := classify_repeated hd
  rcases hs with h | h
  · rw [takeSample_delivering x h, takeDelivering, distance]
    rcases hc with c | c <;> rw [c]
  · rw [takeSample_filling x h, takeFilling, distance]
    rcases hc with c | c <;> rw [c]

theorem takeSample_break {r : Role} {x : Sample} {s : State} (h : Delivering r s)
    (hl : 5 ≤ distanceOf r x s) (hu : distanceOf r x s ≤ 65531) :
    takeSample r x s = breakStream r x s := by
  rw [takeSample_delivering x h, takeDelivering, distance, classify_break hl hu]

/-- R172, R174: SIU takes the copy of a SAMPLE frame of a stream, and the frame is forwarded. -/
theorem effect_sample {f : RxFrame} {r : Role} {x : Sample} {s : State} (h : SampleArrives f r x s) :
    Effect (.sample f) s (forwarded f (takeSample r x s)) := by
  obtain ⟨⟨hwf, hsrc, hkind⟩, hroute, rfl⟩ := h
  have kind : FrameKind.ofByte (byteAt f.bytes 2) = some .sample := by
    rw [frameKind_ofByte]; exact if_pos hkind
  have taken : takeSampleFrame (sourceOf f) (payloadOf f) s =
      takeSample r (Sample.ofPayload (payloadOf f)) s := by
    rw [takeSampleFrame, hroute]
  have handled :
      handleFrame f.bytes s = forwardFrame f.bytes (takeSampleFrame (sourceOf f) (payloadOf f) s) := by
    unfold handleFrame
    simp only [kind]
    rw [if_neg hsrc]
    rfl
  rw [Effect, exec_received _ f s (.inl rfl), receiveFrame_wellFormed f s hwf, handled, taken,
    forwardFrame_eq]

/-! ## The block-reason set and the lockout (R102, R103) -/

theorem ReasonSet.has_put (x : ReasonSet) (b : Bool) (r q : Reason) :
    (x.put b r).has q = if r = q then b else x.has q := by
  cases r <;> cases q <;> rfl

theorem enterLockout_reasons (c : LockoutCause) (f g : Slot) (s : State) :
    ((enterLockout c f s).seq g).reasons = (s.seq g).reasons := by
  unfold enterLockout
  dsimp only
  split
  · rfl
  · by_cases h : f = g
    · subst h; simp
    · simp [h]

theorem enterLockout_state (c : LockoutCause) (f : Slot) (s : State) :
    ((enterLockout c f s).seq f).state = .lockout := by
  unfold enterLockout
  dsimp only
  split
  · assumption
  · simp

theorem enterLockout_other (c : LockoutCause) {f g : Slot} (s : State) (h : f ≠ g) :
    (enterLockout c f s).seq g = s.seq g := by
  unfold enterLockout
  dsimp only
  split
  · rfl
  · simp [h]

theorem enterLockout_stays (c : LockoutCause) (f g : Slot) (s : State) (h : (s.seq g).state = .lockout) :
    ((enterLockout c f s).seq g).state = .lockout := by
  by_cases e : f = g
  · subst e; exact enterLockout_state c f s
  · rwa [enterLockout_other c s e]

@[simp] theorem holds_enterLockout (c : LockoutCause) (f g : Slot) (q : Reason) (s : State) :
    (enterLockout c f s).holds g q = s.holds g q := by
  rw [State.holds, enterLockout_reasons, State.holds]

theorem holds_setSeq_put (b : Bool) (r q : Reason) (f g : Slot) (s : State) :
    (s.setSeq f { s.seq f with reasons := (s.seq f).reasons.put b r }).holds g q =
      if f = g ∧ r = q then b else s.holds g q := by
  by_cases h : f = g
  · subst h; simp [State.holds, ReasonSet.has_put]
  · simp [State.holds, h]

@[simp] theorem holds_removeReason (r q : Reason) (f g : Slot) (s : State) :
    (removeReason r f s).holds g q = if f = g ∧ r = q then false else s.holds g q :=
  holds_setSeq_put false r q f g s

@[simp] theorem holds_addReason (r q : Reason) (f g : Slot) (s : State) :
    (addReason r f s).holds g q = if f = g ∧ r = q then true else s.holds g q := by
  unfold addReason
  dsimp only
  split
  · next held =>
    split
    · next e => obtain ⟨rfl, rfl⟩ := e; exact held
    · rfl
  · split
    · rw [holds_enterLockout]; exact holds_setSeq_put true r q f g s
    · exact holds_setSeq_put true r q f g s

@[simp] theorem holds_demandLockout (f g : Slot) (q : Reason) (s : State) :
    (demandLockout f s).holds g q = s.holds g q := by
  unfold demandLockout
  split
  · exact holds_enterLockout ..
  · rfl

theorem addReason_stays (r : Reason) (f g : Slot) (s : State) (h : (s.seq g).state = .lockout) :
    ((addReason r f s).seq g).state = .lockout := by
  have put : ((s.setSeq f { s.seq f with reasons := (s.seq f).reasons.put true r }).seq g).state =
      .lockout := by
    by_cases e : f = g
    · subst e; simpa using h
    · simpa [e] using h
  unfold addReason
  dsimp only
  split
  · exact h
  · split
    · exact enterLockout_stays _ _ _ _ put
    · exact put

theorem removeReason_state (r : Reason) (f g : Slot) (s : State) :
    ((removeReason r f s).seq g).state = (s.seq g).state := by
  unfold removeReason
  by_cases e : f = g
  · subst e; simp
  · simp [e]

/-- R101: whether a feeder acts is not RCS's to change. -/
theorem RcsWork.acting {s t : State} (a : RcsWork s t) (f : Slot) : t.acting f = s.acting f := by
  simp only [State.acting, State.feeder, a.mgr, a.gst]

theorem RcsWork.tod {s t : State} (a : RcsWork s t) : t.tod = s.tod := by
  unfold State.tod; rw [a.mdu]

theorem RcsWork.pendingGroup {s t : State} (a : RcsWork s t) (f : Slot) :
    t.pendingGroup f = s.pendingGroup f := by
  unfold State.pendingGroup; rw [a.gst]

theorem RcsWork.activeGroup {s t : State} (a : RcsWork s t) (f : Slot) :
    t.activeGroup f = s.activeGroup f := by
  unfold State.activeGroup; rw [a.gst]

/-! ## What a frame of Laws/FeederFrames.lean leaves of a stream -/

theorem FeederWork.stream {s t : State} (a : FeederWork s t) (q : Role) : t.stream q = s.stream q := by
  unfold State.stream; rw [a.siu]

theorem FeederWork.pheStream {s t : State} (a : FeederWork s t) (q : Role) :
    t.pheStream q = s.pheStream q := by
  unfold State.pheStream; rw [a.phe]

theorem SampleWork.streamOnly {r : Role} {s u : State} (w : SampleWork s u)
    (h : ∀ q, q ≠ r → u.stream q = s.stream q ∧ u.pheStream q = s.pheStream q) : StreamOnly r s u :=
  ⟨h, w.staged, w.active, w.activated, w.foreign, w.rpt, w.curves, w.groups, w.feeders, w.mdu, w.mgr,
    w.pending⟩

/-! ## Groups applied at once (R75) -/

@[simp] theorem holds_groupNotify (f g : Slot) (q : Reason) (s : State) :
    (groupNotify f s).holds g q = s.holds g q := by
  unfold groupNotify
  split
  · exact holds_enterLockout ..
  · rfl

@[simp] theorem holds_applyPendingAtEntry (f g : Slot) (q : Reason) (s : State) :
    (applyPendingAtEntry f s).holds g q = s.holds g q := by
  unfold applyPendingAtEntry
  split
  · simp [applyGroup]
  · rfl

/-- After an entry into FILLING or LOST no group is pending, and one that was is active. -/
theorem applyPendingAtEntry_groups (f : Slot) (s : State) :
    (applyPendingAtEntry f s).pendingGroup f = none ∧
      ∀ g, s.pendingGroup f = some g → (applyPendingAtEntry f s).activeGroup f = some g := by
  unfold applyPendingAtEntry applyGroup
  cases h : s.pendingGroup f with
  | none => simp [h]
  | some g => simp [(groupNotify_work f _).pendingGroup, (groupNotify_work f _).activeGroup]

/-! ## Orders that EFS asks (R89, R90) -/

theorem askRecord_rcs_efs (k : OrderKind) (who : Origin) (f : Slot) (s : State) :
    (askRecord k who f s).state.rcs = s.rcs ∧ (askRecord k who f s).state.efs = s.efs := by
  unfold askRecord
  dsimp only
  split
  · split
    · exact ⟨rfl, rfl⟩
    · split <;> exact ⟨rfl, rfl⟩
  · split
    · exact ⟨rfl, rfl⟩
    · split <;> exact ⟨rfl, rfl⟩

/-- ORU's taking of a request changes neither RCS nor EFS: they have its reports. -/
theorem askOrder_rcs_efs (k : OrderKind) (who : Origin) (f : Slot) (s : State) :
    (askOrder k who f s).state.rcs = s.rcs ∧ (askOrder k who f s).state.efs = s.efs := by
  unfold askOrder
  split
  · exact ⟨rfl, rfl⟩
  · split
    · cases k <;> exact ⟨rfl, rfl⟩
    · split
      · exact ⟨rfl, rfl⟩
      · split
        · exact ⟨rfl, rfl⟩
        · exact askRecord_rcs_efs k who f s

/-- A report that RCS does not act on: an answer to a request of origin EARTH, a SUPERSEDED, and a FAILED
without number (R90). -/
def OrderReport.passesRcs (p : OrderReport) : Prop :=
  (p.happened = .taken ∨ p.happened = .merged ∨ p.happened = .refused) ∧ p.origin = .earth ∨
    p.happened = .superseded ∨ p.happened = .failed ∧ p.number = none

theorem rcsFailed_unnumbered (p : OrderReport) (s : State) (h : p.number = none) : rcsFailed p s = s := by
  have awaits : (s.seq p.slot).awaits p = false := by
    unfold SeqRecord.awaits
    rw [h]
    cases (s.seq p.slot).awaited <;> rfl
  unfold rcsFailed
  dsimp only
  split
  · simp [awaits]
  · simp [awaits]
  · simp [h]
  · rfl

theorem rcsReport_passes (p : OrderReport) (s : State) (h : p.passesRcs) : rcsReport p s = s := by
  rcases h with ⟨h, ho⟩ | h | ⟨h, hn⟩
  · exact rcsReport_answer p s h (by simp [ho])
  · simp [rcsReport, h]
  · simp [rcsReport, h, rcsFailed_unnumbered p s hn]

theorem askRecord_passes (k : OrderKind) (f : Slot) (s : State) :
    ∀ p ∈ (askRecord k .earth f s).reports, p.passesRcs := by
  unfold askRecord
  dsimp only
  split
  · split
    · simp [take, OrderReport.passesRcs]
    · split
      · simp [take, OrderReport.passesRcs]
      · simp [OrderReport.passesRcs]
  · split
    · simp [refuse, OrderReport.passesRcs]
    · split
      · simp [refuse, OrderReport.passesRcs]
      · simp [take, OrderReport.passesRcs]

theorem askOrder_passes (k : OrderKind) (f : Slot) (s : State) :
    ∀ p ∈ (askOrder k .earth f s).reports, p.passesRcs := by
  unfold askOrder
  split
  · simp [refuse, OrderReport.passesRcs]
  · split
    · cases k <;> simp [refuseNoSwitch, refuse, OrderReport.passesRcs]
    · split
      · simp [refuse, OrderReport.passesRcs]
      · split
        · simp [refuse, OrderReport.passesRcs]
        · exact askRecord_passes k f s

theorem foldl_rcsReport_passes (ps : List OrderReport) (s : State) (h : ∀ p ∈ ps, p.passesRcs) :
    ps.foldl (fun t p => rcsReport p t) s = s := by
  induction ps generalizing s with
  | nil => rfl
  | cons p ps ih =>
    rw [List.foldl_cons, rcsReport_passes p s (h p (by simp))]
    exact ih s fun q hq => h q (by simp [hq])

/-- EFS's asking is ORU's taking alone: RCS acts on none of the reports. -/
theorem efsAsk_eq (k : OrderKind) (f : Slot) (s : State) :
    efsAsk k f s = ((askOrder k .earth f s).answer, (askOrder k .earth f s).state) := by
  rw [efsAsk, foldl_rcsReport_passes _ _ (askOrder_passes k f s)]

theorem efsAsk_rcs (k : OrderKind) (f : Slot) (s : State) : (efsAsk k f s).2.rcs = s.rcs := by
  rw [efsAsk_eq]; exact (askOrder_rcs_efs k .earth f s).1

theorem efsAsk_efs (k : OrderKind) (f : Slot) (s : State) : (efsAsk k f s).2.efs = s.efs := by
  rw [efsAsk_eq]; exact (askOrder_rcs_efs k .earth f s).2

/-- A CLOSE that nothing in R90 and R91 stands against is taken with a fresh number. -/
theorem efsAsk_close_taken (f : Slot) (s : State) (ha : s.switchAddress f ≠ 0)
    (hi : (s.order f).state = .idle) (hf : s.holds f .fire = false) :
    efsAsk .close f s = (.taken (fresh s f), withRequest .close .earth f s) := by
  have flight : (s.order f).inFlight = false := by simp [OrderRecord.inFlight, hi]
  have taken : askOrder .close .earth f s = take .close .earth f s := by
    rw [askOrder, if_neg (by simp), if_neg ha, if_neg (by simp), if_neg (by simp)]
    simp [askRecord, flight, hf]
  rw [efsAsk_eq, taken]
  simp [take, enterRequested_eq]

/-! ## The bus trip and the end of an abort (R143, R144) -/

/-- What a bus trip keeps: the hunt record, the result record, HUNT, EARTH where held, and LOCKOUT. -/
structure TripKeeps (s t : State) : Prop where
  hunt : t.efs.hunt = s.efs.hunt
  result : t.efs.result = s.efs.result
  holdsHunt : ∀ f, t.holds f .hunt = s.holds f .hunt
  holdsEarth : ∀ f, s.holds f .earth = true → t.holds f .earth = true
  lockout : ∀ f, (s.seq f).state = .lockout → (t.seq f).state = .lockout

namespace TripKeeps

theorem trans {s t u : State} (a : TripKeeps s t) (b : TripKeeps t u) : TripKeeps s u :=
  ⟨b.hunt.trans a.hunt, b.result.trans a.result, fun f => (b.holdsHunt f).trans (a.holdsHunt f),
    fun f h => b.holdsEarth f (a.holdsEarth f h), fun f h => b.lockout f (a.lockout f h)⟩

/-- Every kept thing stands in RCS, the hunt record or the result record. -/
theorem of_same {s t : State} (r : t.rcs = s.rcs) (h : t.efs.hunt = s.efs.hunt)
    (e : t.efs.result = s.efs.result) : TripKeeps s t := by
  have seq (f : Slot) : t.seq f = s.seq f := by unfold State.seq; rw [r]
  refine ⟨h, e, fun f => ?_, fun f => ?_, fun f => ?_⟩
  · rw [State.holds, seq, State.holds]
  · rw [State.holds, State.holds, seq]; exact id
  · rw [seq]; exact id

theorem refl (s : State) : TripKeeps s s := .of_same rfl rfl rfl

theorem addEarth (f : Slot) (s : State) : TripKeeps s (addReason .earth f s) := by
  have efs := (addReason_work .earth f s).efs
  exact ⟨by rw [efs], by rw [efs], fun g => by simp, fun g h => by simp [h],
    fun g => addReason_stays .earth f g s⟩

theorem ask (k : OrderKind) (f : Slot) (s : State) : TripKeeps s (efsAsk k f s).2 :=
  .of_same (efsAsk_rcs k f s) (by rw [efsAsk_efs]) (by rw [efsAsk_efs])

theorem setEfs (x : EfsRecord) (s : State) : TripKeeps s (s.setEfs x) := .of_same rfl rfl rfl

theorem raise (o : Option Slot) (n : Option SampleNo) (b : NoticeBody) (s : State) :
    TripKeeps s (Machine.raise o n b s) := .of_same rfl rfl rfl

end TripKeeps

theorem busTripFeeder_keeps (a : State × SlotSet) (f : Slot) : TripKeeps a.1 (busTripFeeder a f).1 := by
  have h := (TripKeeps.addEarth f a.1).trans (.ask .open f _)
  unfold busTripFeeder
  dsimp only
  split
  · split
    · exact h.trans (.setEfs _ _)
    · exact h.trans (.setEfs _ _)
    · exact h
  · exact .refl _

theorem busTripFeeders_keep (l : List Slot) (a : State × SlotSet) :
    TripKeeps a.1 (l.foldl busTripFeeder a).1 := by
  induction l generalizing a with
  | nil => exact .refl _
  | cons f l ih => exact (busTripFeeder_keeps a f).trans (ih _)

theorem busTrip_keeps (s : State) : TripKeeps s (busTrip s) :=
  ((busTripFeeders_keep allSlots (s, SlotSet.empty)).trans (.raise _ _ _ _)).trans (.setEfs _ _)

theorem busTrip_state (s : State) : (busTrip s).efs.record.state = .busTrip := rfl

/-- `s` with the outcome ABORTED written for its feeder under test, which is one no longer (R143). -/
def abortWritten (s : State) : State := clearStep (writeOutcome .aborted s.efs.hunt.underTest s)

/-- What an abort's end does, wherever it leads: it writes the outcome, takes the hunt to its end, and keeps
what a bus trip keeps. -/
theorem abortEnd_keeps (s : State) :
    TripKeeps (abortWritten s) (abortEnd s) ∧ (abortEnd s).efs.record.state ≠ .hunting := by
  have trip := busTrip_keeps (abortWritten s)
  have enter (x : EfsState) : TripKeeps (abortWritten s) (enterState x (abortWritten s)) := .setEfs _ _
  unfold abortEnd
  dsimp only
  split
  · exact ⟨trip, by simp [busTrip_state]⟩
  · split
    · exact ⟨enter _, by simp [enterState]⟩
    · split
      · exact ⟨trip, by simp [busTrip_state]⟩
      · split
        · exact ⟨(enter _).trans (.setEfs _ _), by simp [enterState]⟩
        · exact ⟨enter _, by simp [enterState]⟩

theorem abortEnd_ban (s : State) (h : s.mdu.busMode = .ban) : (abortEnd s).efs.record.state = .busTrip := by
  unfold abortEnd
  exact (congrArg (fun t : State => t.efs.record.state) (if_pos h)).trans (busTrip_state _)

theorem abortEnd_earth (f : Slot) (s : State) (h : s.holds f .earth = true) :
    (abortEnd s).holds f .earth = true := (abortEnd_keeps s).1.holdsEarth f h

theorem abortEnd_lockout (f : Slot) (s : State) (h : (s.seq f).state = .lockout) :
    ((abortEnd s).seq f).state = .lockout := (abortEnd_keeps s).1.lockout f h

/-- The end of an abort for feeder `f` under test, when it has lost HUNT. -/
theorem abortEnd_underTest (f : Slot) (s : State) (hu : s.efs.hunt.underTest = some f)
    (hh : s.holds f .hunt = false) :
    (abortEnd s).holds f .hunt = false ∧ (abortEnd s).efs.hunt.underTest = none ∧
      (abortEnd s).efs.hunt.abortCause = s.efs.hunt.abortCause ∧
      (abortEnd s).efs.record.state ≠ .hunting ∧ (abortEnd s).efs.result.outcome = .aborted ∧
      (abortEnd s).efs.result.feeder = some f := by
  obtain ⟨keeps, left⟩ := abortEnd_keeps s
  refine ⟨(keeps.holdsHunt f).trans hh, by rw [keeps.hunt]; rfl, by rw [keeps.hunt]; rfl, left,
    by rw [keeps.result]; rfl, by rw [keeps.result]; exact hu⟩

/-! ## An abort event (R142) -/

/-- `s` with the abort cause set. -/
def aborting (c : AbortCause) (s : State) : State := s.setHunt { s.efs.hunt with abortCause := c }

theorem abortHunt_restore (c : AbortCause) (s : State) (h : HuntUnderWay s) (b : s.mdu.busMode ≠ .ban) :
    abortHunt c s = abortRestore (aborting c s) := (if_pos h).trans (if_neg b)

theorem abortHunt_ban (c : AbortCause) (s : State) (h : HuntUnderWay s) (b : s.mdu.busMode = .ban) :
    abortHunt c s = abortUnderBan (aborting c s) := (if_pos h).trans (if_pos b)

theorem abortRestore_ordered (f : Slot) (s : State) (hu : s.efs.hunt.underTest = some f)
    (hs : s.efs.hunt.step = some .opening ∨ s.efs.hunt.step = some .restoring) : abortRestore s = s := by
  unfold abortRestore
  rcases hs with hs | hs <;> rw [hu, hs]

theorem abortRestore_observing (f : Slot) (s : State) (hu : s.efs.hunt.underTest = some f)
    (hs : s.efs.hunt.step = some .observing) : abortRestore s = askRestore f s := by
  unfold abortRestore
  rw [hu, hs]

theorem abortRestore_settling (f : Slot) (s : State) (hu : s.efs.hunt.underTest = some f)
    (hs : s.efs.hunt.step = some .settling) : abortRestore s = abortEnd (removeReason .hunt f s) := by
  unfold abortRestore
  rw [hu, hs]

/-- A restore CLOSE that ORU takes. -/
theorem askRestore_taken (f : Slot) (s : State) (ha : s.switchAddress f ≠ 0)
    (hi : (s.order f).state = .idle) (hf : s.holds f .fire = false) :
    askRestore f s = (withRequest .close .earth f s).setHunt { s.efs.hunt with
      step := some .restoring, countdown := none, order := some (fresh s f) } := by
  have taken := efsAsk_close_taken f
    (s.setHunt { s.efs.hunt with step := some .restoring, countdown := none, order := none }) ha hi hf
  unfold askRestore
  rw [taken]
  rfl

/-- `s` with feeder `f` under test left open: EARTH, the lockout's demand, and HUNT gone. -/
def testLeftOpen (f : Slot) (s : State) : State :=
  removeReason .hunt f (demandLockout f (addReason .earth f s))

theorem testLeftOpen_work (f : Slot) (s : State) : RcsWork s (testLeftOpen f s) :=
  ((addReason_work _ _ s).trans (demandLockout_work _ _)).trans (removeReason_work _ _ _)

theorem testLeftOpen_holds (f : Slot) (s : State) :
    (testLeftOpen f s).holds f .hunt = false ∧ (testLeftOpen f s).holds f .earth = true := by
  simp [testLeftOpen]

theorem testLeftOpen_lockout (f : Slot) (s : State) (h : s.acting f = true) :
    ((testLeftOpen f s).seq f).state = .lockout := by
  have acts : (addReason .earth f s).acting f = true := by rw [(addReason_work _ _ s).acting, h]
  rw [testLeftOpen, removeReason_state, demandLockout, if_pos acts]
  exact enterLockout_state ..

/-- `s` with no order awaited and no countdown of the hunt running. -/
def stepStilled (s : State) : State := s.setHunt { s.efs.hunt with order := none, countdown := none }

theorem holds_stepStilled (f : Slot) (q : Reason) (s : State) :
    (stepStilled s).holds f q = s.holds f q := rfl

theorem seq_stepStilled (f : Slot) (s : State) : (stepStilled s).seq f = s.seq f := rfl

theorem abortUnderBan_eq (f : Slot) (s : State) (hu : s.efs.hunt.underTest = some f) :
    abortUnderBan s = abortEnd (stepStilled (testLeftOpen f s)) := by
  unfold abortUnderBan
  rw [hu]
  rfl

/-- An abort under BAN leaves feeder `f` under test open, with EARTH and in LOCKOUT, and trips the bus. -/
theorem abortUnderBan_underTest (f : Slot) (s : State) (b : s.mdu.busMode = .ban)
    (hu : s.efs.hunt.underTest = some f) :
    (abortUnderBan s).holds f .hunt = false ∧ (abortUnderBan s).holds f .earth = true ∧
      (s.acting f = true → ((abortUnderBan s).seq f).state = .lockout) ∧
      (abortUnderBan s).efs.hunt.underTest = none ∧ (abortUnderBan s).efs.record.state = .busTrip ∧
      (abortUnderBan s).efs.result.outcome = .aborted ∧
      (abortUnderBan s).efs.result.feeder = some f := by
  have work := testLeftOpen_work f s
  obtain ⟨hunt, earth⟩ := testLeftOpen_holds f s
  rw [← holds_stepStilled] at hunt earth
  have locked (a : s.acting f = true) : ((stepStilled (testLeftOpen f s)).seq f).state = .lockout := by
    rw [seq_stepStilled, testLeftOpen_lockout f s a]
  have ban : (stepStilled (testLeftOpen f s)).mdu.busMode = .ban := by
    rw [stepStilled, State.setHunt_mdu, work.mdu, b]
  have under : (stepStilled (testLeftOpen f s)).efs.hunt.underTest = some f := by
    rw [stepStilled, State.setHunt_hunt, work.efs, hu]
  obtain ⟨hunt', gone, -, -, aborted, feeder⟩ := abortEnd_underTest f _ under hunt
  rw [abortUnderBan_eq f s hu]
  exact ⟨hunt', abortEnd_earth f _ earth, fun a => abortEnd_lockout f _ (locked a), gone,
    abortEnd_ban _ ban, aborted, feeder⟩

/-- R142, R143: what an abort event does to a hunt under way, in each step state and under BAN. -/
theorem abortHunt_aborted (c : AbortCause) (s : State) (h : HuntUnderWay s) :
    HuntAborted c s (abortHunt c s) := by
  refine ⟨fun f b hu hs => ?_, fun f b hu hs ha hi hf => ?_, fun f b hu hs => ?_, fun f b hu => ?_⟩
  · rw [abortHunt_restore c s h b, abortRestore_ordered f (aborting c s) hu hs]
    exact ⟨rfl, rfl, rfl⟩
  · rw [abortHunt_restore c s h b, abortRestore_observing f (aborting c s) hu hs,
      askRestore_taken f (aborting c s) ha hi hf]
    exact ⟨rfl, by simp; rfl⟩
  · have under : (removeReason .hunt f (aborting c s)).efs.hunt.underTest = some f := hu
    rw [abortHunt_restore c s h b, abortRestore_settling f (aborting c s) hu hs]
    exact abortEnd_underTest f _ under (by simp)
  · rw [abortHunt_ban c s h b]
    exact abortUnderBan_underTest f _ b hu

/-- What the bus stream's entry into FILLING or LOST is to EFS (R142, R148). -/
theorem streamEntered_busStreamEntered (s : State) : BusStreamEntered s (streamEntered busRole s) := by
  rw [streamEntered_bus]
  refine ⟨abortHunt_aborted .busStream s, fun h => ?_⟩
  rw [abortHunt_not_underWay _ s h]
  exact ⟨rfl, rfl, rfl⟩

/-! ## A stream that stops (R16, R17, R75) -/

theorem streamStopped_feeder_eq (k : Slot) (n : Option SampleNo) (left : StreamState) (s : State) :
    streamStopped k.role n left s = applyPendingAtEntry k
      (raise (some k) n (.streamState (s.stream k.role).state left) (addReason .stream k s)) := by
  have same : (addReason .stream k s).stream k.role = s.stream k.role :=
    (addReason_work .stream k s).feeder.stream _
  rw [streamStopped, streamEntered_feeder, raiseStream, addStreamReason, slotOf_role]
  simp only [same]

/-- A feeder's stream that stops: STREAM, the pending group, and the notice. -/
theorem streamStopped_feeder (k : Slot) (n : Option SampleNo) (left : StreamState) (s : State) :
    (streamStopped k.role n left s).holds k .stream = true ∧
      (streamStopped k.role n left s).pendingGroup k = none ∧
      (∀ g, s.pendingGroup k = some g → (streamStopped k.role n left s).activeGroup k = some g) ∧
      ⟨some k, s.tod, n, .streamState (s.stream k.role).state left⟩ ∈
        (streamStopped k.role n left s).raised := by
  have work := addReason_work .stream k s
  rw [streamStopped_feeder_eq]
  obtain ⟨gone, active⟩ := applyPendingAtEntry_groups k
    (raise (some k) n (.streamState (s.stream k.role).state left) (addReason .stream k s))
  refine ⟨by simp, gone, fun g hg => active g ?_, (applyPendingAtEntry_work k _).raised.subset ?_⟩
  · rw [pendingGroup_raise, work.pendingGroup, hg]
  · simp [work.tod]

/-- The bus stream's stop: the notice, and EFS is told. The notice already raised is nothing that
`BusStreamEntered` reads. -/
theorem streamStopped_bus (n : Option SampleNo) (left : StreamState) (s : State) :
    BusStreamEntered s (streamStopped busRole n left s) ∧
      ⟨none, s.tod, n, .streamState (s.stream busRole).state left⟩ ∈
        (streamStopped busRole n left s).raised := by
  have entered := streamEntered_busStreamEntered (raiseStream busRole n left s)
  refine ⟨entered, (streamEntered_work busRole (raiseStream busRole n left s)).raised.subset ?_⟩
  simp [raiseStream, slotOf_bus]

/-! ## Windows (R20, R22) -/

theorem store_channel (x : Sample) (filled : Bool) (w : Window) (ch : Fin 4) :
    (w.store x filled).channels[ch] = storeChannel x filled w ch := by
  fin_cases ch <;> rfl

theorem store_slotsReplaced (x : Sample) (filled : Bool) (w : Window) :
    SlotsReplaced x filled w (w.store x filled) := by
  refine ⟨fun ch k => ?_, rfl⟩
  rw [store_channel, storeChannel, upd_get]
  simp only [Fin.ext_iff, coeffIndex, eq_comm]

theorem window_empty_slot (ch : Fin 4) (k : Fin 32) :
    Window.empty.channels[ch][k] = ⟨0, false, false, false⟩ := by
  simp [Window.empty, WindowSlot.empty]

theorem store_empty_onlySample (x : Sample) : OnlySample x (Window.empty.store x false) := by
  obtain ⟨slots, stored⟩ := store_slotsReplaced x false Window.empty
  refine ⟨?_, fun ch k => ?_⟩
  · rw [stored]; simp [Window.empty, WindowSlot.empty]
  · rw [slots, window_empty_slot]

theorem role_of_slotOf {r : Role} {f : Slot} (h : slotOf r = some f) : f.role = r := by
  unfold slotOf at h
  split at h
  · cases h; rfl
  · cases h

theorem eq_busRole_of_slotOf {r : Role} (h : slotOf r = none) : r = busRole := by
  revert r; decide

/-- In a state that does not deliver a sample is stored, and nothing else follows (R22). -/
theorem hand_notDelivering (r : Role) (x : Sample) (filled : Bool) (st : StreamState) (s : State)
    (h : st.delivers = false) : hand r x filled st s =
      s.setPheStream r { s.pheStream r with window := (s.pheStream r).window.store x filled } := by
  unfold hand
  split
  · next f hf =>
    obtain rfl := role_of_slotOf hf
    simp [handFeeder, PheStream.updateFeeder, h]
  · next hf =>
    obtain rfl := eq_busRole_of_slotOf hf
    simp [handBus, PheStream.updateBus, h]

/-! ## FILLING, and a break (R10, R11) -/

/-- The stream record at the entry into FILLING with sample `x` (R10). -/
def StreamRecord.filling (x : Sample) (q : StreamRecord) : StreamRecord :=
  { q with state := .filling, consecutive := 1, lastSample := x.number, supervision := some 20, patch := 0 }

/-- `s` with the stream of role `r` started afresh with sample `x` (R10, R20). -/
def refilled (r : Role) (x : Sample) (s : State) : State :=
  (s.setStream r ((s.stream r).filling x)).setPheStream r
    { PheStream.empty with window := Window.empty.store x false }

theorem setPheStream_setPheStream (r : Role) (p q : PheStream) (s : State) :
    (s.setPheStream r p).setPheStream r q = s.setPheStream r q := by
  simp [State.setPheStream, upd]

theorem setStream_setPheStream (r : Role) (p : PheStream) (q : StreamRecord) (s : State) :
    (s.setPheStream r p).setStream r q = (s.setStream r q).setPheStream r p := rfl

theorem enterFilling_eq (r : Role) (x : Sample) (s : State) : enterFilling r x s = refilled r x s := by
  unfold enterFilling emptyStream
  rw [hand_notDelivering _ _ _ _ _ rfl, setStream_setPheStream, setPheStream_setPheStream]
  simp [refilled, StreamRecord.filling, PheStream.empty]

theorem stream_refilled (r q : Role) (x : Sample) (s : State) :
    (refilled r x s).stream q = if r = q then (s.stream r).filling x else s.stream q := by
  simp [refilled]

theorem pheStream_refilled (r q : Role) (x : Sample) (s : State) :
    (refilled r x s).pheStream q =
      if r = q then { PheStream.empty with window := Window.empty.store x false } else s.pheStream q := by
  simp [refilled]

theorem breakStream_eq (r : Role) (x : Sample) (s : State) : breakStream r x s =
    streamStopped r (some x.number) (s.stream r).state (refilled r x (countResync r s)) := by
  rw [breakStream, enterFilling_eq]

theorem breakStream_stream (r q : Role) (x : Sample) (s : State) : (breakStream r x s).stream q =
    if r = q then ((countResync r s).stream r).filling x else s.stream q := by
  rw [breakStream_eq, (streamStopped_work ..).stream, stream_refilled]
  split
  · rfl
  · next h => simp [countResync, h]

theorem breakStream_pheStream (r q : Role) (x : Sample) (s : State) : (breakStream r x s).pheStream q =
    if r = q then { PheStream.empty with window := Window.empty.store x false } else s.pheStream q := by
  rw [breakStream_eq, (streamStopped_work ..).pheStream, pheStream_refilled]
  rfl

/-- R11, R16, R17, R75, R142: outside SIU and PHE a break is the stop of the stream. What the stop reads of
the state there, the stream's own state apart, the entry into FILLING has left as it was. -/
theorem breakStream_stopped (r : Role) (x : Sample) (s : State) :
    StreamStopped r (some x.number) .filling s (breakStream r x s) := by
  have filling : ((refilled r x (countResync r s)).stream r).state = .filling := by
    rw [stream_refilled, if_pos rfl]; rfl
  rw [breakStream_eq]
  refine ⟨fun k hk => ?_, fun hb => ?_⟩
  · subst hk
    have stopped := streamStopped_feeder k (some x.number) (s.stream k.role).state
      (refilled k.role x (countResync k.role s))
    rwa [filling] at stopped
  · subst hb
    have stopped := streamStopped_bus (some x.number) (s.stream busRole).state
      (refilled busRole x (countResync busRole s))
    rwa [filling] at stopped

/-! ## The obligations -/

/-- Settles O16: both classes of a repeated sample, in each of the three states, are discarded (R9). -/
theorem repeatedSamplesAreDiscarded : Obligations.RepeatedSamplesAreDiscarded := by
  intro f r x s arrives hs hd
  have taken := effect_sample arrives
  rwa [takeSample_repeated hs hd, discardSample, countUp_eq_min] at taken

/-- Settles O19: a break counts a resync, starts the stream afresh by R10 and stops it (R11). -/
theorem breaksRestartStreams : Obligations.BreaksRestartStreams := by
  intro f r x s arrives delivering hl hu
  have taken := effect_sample arrives
  rw [takeSample_break delivering hl hu] at taken
  have phe := breakStream_pheStream r r x s
  rw [if_pos rfl] at phe
  refine ⟨breakStream r x s, taken, (breakStream_work r x s).streamOnly fun q hq => ?_, ?_, by rw [phe]; rfl,
    by rw [phe]; rfl, ?_, breakStream_stopped r x s⟩
  · rw [breakStream_stream, breakStream_pheStream, if_neg hq.symm, if_neg hq.symm]
    exact ⟨rfl, rfl⟩
  · rw [breakStream_stream, if_pos rfl]
    simp [countResync, StreamRecord.filling, countUp_eq_min]
  · rw [phe]
    exact store_empty_onlySample x

end Sys2Proof.Machine
end

section
/-! PROOFS. The obligation on the bus mode (R164): the more severe of two modes, the most severe along a list,
and from these when the derived bus mode is BAN and when it is NORMAL. -/

namespace Sys2Proof.Machine

/-! ## The order of the modes -/

theorem Mode.worse_eq_ban_iff (a b : Mode) : a.worse b = .ban ↔ a = .ban ∨ b = .ban := by
  cases a <;> cases b <;> simp [Mode.worse]

theorem Mode.worse_eq_normal_iff (a b : Mode) : a.worse b = .normal ↔ a = .normal ∧ b = .normal := by
  cases a <;> cases b <;> simp [Mode.worse]

theorem Mode.eq_season_of_ne {m : Mode} (hb : m ≠ .ban) (hn : m ≠ .normal) : m = .season := by
  cases m with
  | normal => exact absurd rfl hn
  | season => rfl
  | ban => exact absurd rfl hb

/-! ## The most severe mode along a list -/

theorem foldl_worse_eq_ban_iff {α : Type} (mode : α → Mode) (l : List α) (m : Mode) :
    l.foldl (fun m x => m.worse (mode x)) m = .ban ↔ m = .ban ∨ ∃ x ∈ l, mode x = .ban := by
  induction l generalizing m with
  | nil => simp
  | cons x xs ih => simp [ih, Mode.worse_eq_ban_iff, or_assoc]

theorem foldl_worse_eq_normal_iff {α : Type} (mode : α → Mode) (l : List α) (m : Mode) :
    l.foldl (fun m x => m.worse (mode x)) m = .normal ↔ m = .normal ∧ ∀ x ∈ l, mode x = .normal := by
  induction l generalizing m with
  | nil => simp
  | cons x xs ih => simp [ih, Mode.worse_eq_normal_iff, and_assoc]

/-! ## The derived bus mode (R164) -/

theorem mem_allSlots (f : Slot) : f ∈ allSlots := by
  revert f; decide

theorem derivedBusMode_eq_ban_iff (s : State) :
    derivedBusMode s = .ban ↔ ∃ f, (s.feeder f).inService = true ∧ s.feederMode f = .ban := by
  simp [derivedBusMode, foldl_worse_eq_ban_iff, mem_allSlots]

theorem derivedBusMode_eq_normal_iff (s : State) :
    derivedBusMode s = .normal ↔ ∀ f, (s.feeder f).inService = true → s.feederMode f = .normal := by
  simp [derivedBusMode, foldl_worse_eq_normal_iff, mem_allSlots]

/-! ## The obligation -/

/-- Settles O49: the bus mode is BAN exactly when a feeder in service is in BAN, NORMAL exactly when all of
them are in NORMAL, and so SEASON in between (R164). -/
theorem busModeIsMostSevere : Obligations.BusModeIsMostSevere := by
  intro s
  refine ⟨(derivedBusMode_eq_ban_iff s).mpr, fun noBan ⟨f, serves, season⟩ => ?_,
    (derivedBusMode_eq_normal_iff s).mpr⟩
  refine Mode.eq_season_of_ne (fun isBan => ?_) (fun isNormal => ?_)
  · obtain ⟨g, servesBan, ban⟩ := (derivedBusMode_eq_ban_iff s).mp isBan
    exact noBan g servesBan ban
  · have normal : s.feederMode f = .normal := (derivedBusMode_eq_normal_iff s).mp isNormal f serves
    exact absurd (season.symm.trans normal) (by decide)

end Sys2Proof.Machine
end

section
/-! PROOFS. What a step can do, said once: the states an event of the part can lead to before its end, by the
kind of event. Every law of a step is proved from these cases. -/

namespace Sys2Proof.Machine

/-! ## Requests -/

/-- The states an executed request can leave; `s` is the state with the request out of the FIFO. -/
inductive Executes (s : State) : State → Prop
  | nothing : Executes s s
  | write (t : Table) (size i count : Nat) (bs : List Byte) :
      Executes s (writeTable t size i count bs s).state
  | latches : Executes s (clearLatches s)
  | operate (k : OrderKind) (f : Slot) : Executes s (ask k .operator f s).2
  | block (f : Slot) : Executes s (addReason .operator f s)
  | unblock (f : Slot) : Executes s (removeReason .operator f s)
  | resetLockout (f : Slot) : Executes s (resetLockout f s)
  | resetSwitch (f : Slot) : Executes s (resetSwitch f s)
  | override (d : District) (o : Option Override) : Executes s (setOverride d o s)
  | startHunt (h : mayStartHunt s = true) : Executes s (startHunt .manual s)
  | abortHunt : Executes s (abortHunt .request s)
  | enterService (src : RingAddr) (h : s.mgr.device ≠ .inService)
      (hf : allSlots.findSome? (entryFailure s) = none) : Executes s (enterService src s)
  | leaveService (h : s.mgr.device ≠ .configuring) : Executes s (leaveService s)
  | restart : Executes s (restart s)

/-- The meanings of the request kinds (R200). -/
def requestBodies : List (Request → State → Executed) :=
  [doRead, doWrite, doStatus, doSnapshot, doOperate, doBlock, doUnblock, doResetLockout, doResetSwitch,
   doOverride, doStartHunt, doAbortHunt, doEnterService, doLeaveService, doRestart, doUnknown]

theorem withForm_executes {n : Nat} {q : Request} {s : State} {body : State → Executed}
    (h : Executes s (body s).state) : Executes s (withForm n q s body).state := by
  unfold withForm
  split
  · exact h
  · exact .nothing

theorem withSlot_executes {q : Request} {s : State} {body : Slot → State → Executed}
    (h : ∀ f, Executes s (body f s).state) : Executes s (withSlot q s body).state := by
  unfold withSlot
  split
  · exact h _
  · exact .nothing

theorem doRead_executes (q : Request) (s : State) : Executes s (doRead q s).state := by
  refine withForm_executes ?_
  split
  · exact .nothing
  · split <;> exact .nothing

theorem doWrite_executes (q : Request) (s : State) : Executes s (doWrite q s).state := by
  unfold doWrite
  split
  · exact .nothing
  · split
    · exact .nothing
    · split
      · exact .nothing
      · exact .write ..

theorem doOperate_executes (q : Request) (s : State) : Executes s (doOperate q s).state := by
  refine withForm_executes (withSlot_executes fun f => ?_)
  split
  · exact .nothing
  · next k _ =>
    have asked := Executes.operate (s := s) k f
    unfold operateOrder
    dsimp only
    split <;> exact asked

theorem doOverride_executes (q : Request) (s : State) : Executes s (doOverride q s).state := by
  unfold doOverride
  refine withForm_executes ?_
  split
  · exact .nothing
  · next d _ =>
    split
    · dsimp only
      exact .override d none
    · split
      · exact .nothing
      · next m _ =>
        unfold overrideMode
        split
        · exact .nothing
        · split
          · exact .nothing
          · dsimp only
            exact .override d (some ⟨m, word16At q.payload 4, nat16At q.payload 6⟩)

theorem doEnterService_executes (q : Request) (s : State) : Executes s (doEnterService q s).state := by
  unfold doEnterService
  refine withForm_executes ?_
  split
  · exact .nothing
  · next out =>
    split
    · exact .nothing
    · next passed =>
      dsimp only
      exact .enterService q.source out passed

theorem body_executes {body : Request → State → Executed} (hb : body ∈ requestBodies) (q : Request)
    (s : State) : Executes s (body q s).state := by
  simp only [requestBodies, List.mem_cons, List.not_mem_nil, or_false] at hb
  rcases hb with rfl | rfl | rfl | rfl | rfl | rfl | rfl | rfl | rfl | rfl | rfl | rfl | rfl | rfl | rfl | rfl
  · exact doRead_executes q s
  · exact doWrite_executes q s
  · exact withForm_executes .latches
  · exact withForm_executes (withSlot_executes fun _ => .nothing)
  · exact doOperate_executes q s
  · exact withForm_executes (withSlot_executes .block)
  · exact withForm_executes (withSlot_executes .unblock)
  · exact withForm_executes (withSlot_executes .resetLockout)
  · exact withForm_executes (withSlot_executes .resetSwitch)
  · exact doOverride_executes q s
  · refine withForm_executes ?_
    split
    · next h => exact .startHunt h
    · exact .nothing
  · refine withForm_executes ?_
    split
    · exact .abortHunt
    · exact .nothing
  · exact doEnterService_executes q s
  · refine withForm_executes ?_
    split
    · exact .nothing
    · next h => exact .leaveService h
  · exact withForm_executes .restart
  · exact .nothing

/-! ## Written entries -/

/-- The states a stored entry can leave. -/
inductive Stores (s : State) : State → Prop
  | stagedMap (m : Vector RingAddr 17) : Stores s { s with siu := { s.siu with staged := m } }
  | curve (i : Fin 8) (c : Curve) (h : c.valid = true ∨ curveInUse s i = false) :
      Stores s { s with gst := { s.gst with curves := upd s.gst.curves i c } }
  | group (f : Slot) (g : GroupNo) (r : GroupRecord)
      (h : (s.feeder f).inService = true → (s.feeder f).names g = true → r.valid s.gst.curves = true) :
      Stores s { s with gst := { s.gst with groups := upd s.gst.groups (State.groupIndex f g) r } }
  | feeder (f : Slot) (r : FeederRecord) (h : feederRefused f r s = false)
      (ha : feederActive f r s = false) : Stores s (feederStored f (s.feeder f) (s.setFeeder f r))
  | earthSettings (e : EarthSettings) : Stores s { s with efs := { s.efs with settings := e } }
  | huntOrder (fs : List Slot) : Stores s { s with efs := { s.efs with huntOrder := fs } }
  | seasonWindows (w : Vector SeasonWindow 4) : Stores s { s with mdu := { s.mdu with windows := w } }
  | cancel (x : Declaration) :
      Stores s (setDeclarations (s.mdu.declarations.filter fun y => !sameKey x y) s)
  | put (x : Declaration)
      (h : (s.mdu.declarations.any fun y => sameKey x y) = true ∨ s.mdu.declarations.length < 32) :
      Stores s (setDeclarations (insertDeclaration x s.mdu.declarations) s)

theorem writeMapEntry_stores {i : Nat} {bs : List Byte} {s u : State}
    (h : writeMapEntry i bs s = .stored u) : Stores s u := by
  unfold writeMapEntry at h
  dsimp only at h
  split at h
  · split at h <;> cases h
    exact .stagedMap _
  · cases h

theorem writeCurve_stores {i : Nat} {bs : List Byte} {s u : State} (h : writeCurve i bs s = .stored u) :
    Stores s u := by
  unfold writeCurve at h
  dsimp only at h
  split at h
  · next hi =>
    split at h
    · cases h
    · split at h <;> cases h
      next free =>
      refine .curve ⟨i, hi⟩ _ ?_
      cases v : (Curve.ofBytes bs).valid
      · simpa [v] using free
      · exact .inl rfl
  · cases h

theorem writeGroup_stores {i : Nat} {bs : List Byte} {s u : State} (h : writeGroup i bs s = .stored u) :
    Stores s u := by
  unfold writeGroup at h
  dsimp only at h
  split at h
  · next hi =>
    split at h
    · cases h
    · split at h <;> cases h
      next valid =>
      have index : State.groupIndex ⟨i / 4, by omega⟩ ⟨i % 4, by omega⟩ = ⟨i, hi⟩ :=
        Fin.ext (Nat.div_add_mod i 4)
      rw [← index]
      exact .group _ _ _ fun serves named => by simpa [serves, named] using valid
  · cases h

theorem writeFeeder_stores {i : Nat} {bs : List Byte} {s u : State} (h : writeFeeder i bs s = .stored u) :
    Stores s u := by
  unfold writeFeeder at h
  split at h
  · cases h
  · split at h
    · cases h
    · split at h
      · cases h
      · next taken =>
        split at h <;> cases h
        next free => exact .feeder _ _ (by simpa using taken) (by simpa using free)

theorem writeEarthSettings_stores {i : Nat} {bs : List Byte} {s u : State}
    (h : writeEarthSettings i bs s = .stored u) : Stores s u := by
  unfold writeEarthSettings at h
  split at h
  · cases h
  · split at h <;> cases h
    exact .earthSettings _

theorem writeHuntOrder_stores {i : Nat} {bs : List Byte} {s u : State}
    (h : writeHuntOrder i bs s = .stored u) : Stores s u := by
  unfold writeHuntOrder at h
  split at h
  · cases h
  · split at h <;> cases h
    exact .huntOrder _

theorem writeSeasonWindow_stores {i : Nat} {bs : List Byte} {s u : State}
    (h : writeSeasonWindow i bs s = .stored u) : Stores s u := by
  unfold writeSeasonWindow at h
  split at h
  · cases h
  · split at h <;> cases h
    exact .seasonWindows _

theorem writeDeclaration_stores {bs : List Byte} {s u : State} (h : writeDeclaration bs s = .stored u) :
    Stores s u := by
  unfold writeDeclaration at h
  dsimp only at h
  split at h
  · cases h
  · cases h
    exact .cancel _
  · split at h <;> cases h
    next room =>
    refine .put _ ?_
    cases known : s.mdu.declarations.any (sameKey _)
    · exact .inr (by simpa [known] using room)
    · exact .inl rfl

theorem store_stores {t : Table} {i : Nat} {bs : List Byte} {s u : State}
    (h : t.store i bs s = .stored u) : Stores s u := by
  cases t <;> unfold Table.store at h
  case stagedMap => exact writeMapEntry_stores h
  case curves => exact writeCurve_stores h
  case groups => exact writeGroup_stores h
  case feeders => exact writeFeeder_stores h
  case earthSettings => exact writeEarthSettings_stores h
  case huntOrder => exact writeHuntOrder_stores h
  case seasonWindows => exact writeSeasonWindow_stores h
  case declarations => exact writeDeclaration_stores h
  all_goals cases h

/-- What every stored entry and every evaluation keeps, a WRITE keeps. -/
theorem writeTable_keeps {P : State → Prop} (stores : ∀ s u, Stores s u → P s → P u)
    (modes : ∀ s, P s → P (evaluateModes s)) (t : Table) (size i count : Nat) (bs : List Byte) (s : State)
    (h : P s) : P (writeTable t size i count bs s).state := by
  have entries (es : List (List Byte)) (i n : Nat) (s : State) (h : P s) :
      P (writeEntries t es i n s).state := by
    induction es generalizing i n s with
    | nil => exact h
    | cons e es ih =>
      unfold writeEntries
      split
      · exact h
      · next u stored => exact ih _ _ _ (stores _ _ (store_stores stored) h)
  unfold writeTable
  split
  · exact h
  · split
    · exact h
    · dsimp only [afterWrite]
      split
      · exact modes _ (entries _ _ _ _ h)
      · exact entries _ _ _ _ h

/-! ## Frames -/

/-- The states that the taking of a sample can leave (R6 to R15). -/
inductive Takes (r : Role) (x : Sample) (s : State) : State → Prop
  | fresh (h : (s.stream r).state.delivers = false) : Takes r x s (startFilling r x s)
  | resync (h : (s.stream r).state.delivers = false) : Takes r x s (startFilling r x (countResync r s))
  | discarded : Takes r x s (discardSample r s)
  | counted (h : (s.stream r).state.delivers = false) : Takes r x s (fillNext r x s)
  | accepted (h : (s.stream r).state.delivers = true) : Takes r x s (acceptNext r x s)
  | bridged (k : Nat) (h : (s.stream r).state.delivers = true) : Takes r x s (bridgeGap r x k s)
  | broken (h : (s.stream r).state.delivers = true) : Takes r x s (breakStream r x s)

theorem takeSample_takes (r : Role) (x : Sample) (s : State) : Takes r x s (takeSample r x s) := by
  unfold takeSample
  cases h : (s.stream r).state with
  | absent => exact .fresh (by rw [h]; rfl)
  | lost => exact .fresh (by rw [h]; rfl)
  | filling =>
    have stands : (s.stream r).state.delivers = false := by rw [h]; rfl
    dsimp only [takeFilling]
    split
    · exact .counted stands
    · exact .resync stands
    · exact .discarded
    · exact .discarded
    · exact .resync stands
  | locked | patched =>
    have delivers : (s.stream r).state.delivers = true := by rw [h]; rfl
    dsimp only [takeDelivering]
    split
    · exact .accepted delivers
    · exact .bridged _ delivers
    · exact .discarded
    · exact .discarded
    · exact .broken delivers

/-- The states that a received frame can leave before it is forwarded (R171 to R175). -/
inductive Copied (s : State) : State → Prop
  | nothing : Copied s s
  | foreign : Copied s { s with siu := { s.siu with foreign := countUp s.siu.foreign } }
  | sample (r : Role) (x : Sample) (u : State) (h : Takes r x s u) : Copied s u
  | state (r : StateReport) (f : Slot) : Copied s (takeState r f s)
  | time (n : Tod) : Copied s (takeTime n s)

/-- The states that a received frame can leave (R171 to R175). -/
inductive Received (s : State) : State → Prop
  | formatError : Received s (countFormatError s)
  | crcError : Received s (countCrcError s)
  | nothing : Received s s
  | echo (f : Slot) (n : OrderNo) : Received s (orderEcho f n s)
  | consumed (src : RingAddr) (p : List Byte) : Received s (consumeRequest src p s)
  | forwarded (bs : List Byte) (u : State) (h : Copied s u) : Received s (forwardFrame bs u)

theorem takeSampleFrame_copied (a : RingAddr) (p : List Byte) (s : State) :
    Copied s (takeSampleFrame a p s) := by
  unfold takeSampleFrame
  split
  · exact .sample _ _ _ (takeSample_takes _ _ s)
  · exact .foreign

theorem takeStateFrame_copied (a : RingAddr) (p : List Byte) (s : State) :
    Copied s (takeStateFrame a p s) := by
  unfold takeStateFrame
  split
  · exact .state _ _
  · exact .nothing

theorem stripEcho_received (k : Option FrameKind) (p : List Byte) (s : State) :
    Received s (stripEcho k p s) := by
  unfold stripEcho
  split
  · exact .echo _ _
  · exact .nothing

theorem handleFrame_received (bs : List Byte) (s : State) : Received s (handleFrame bs s) := by
  have forwardedAlone : Received s (forwardFrame bs s) := .forwarded _ _ .nothing
  unfold handleFrame
  dsimp only
  split
  · exact stripEcho_received _ _ s
  · split
    · split
      · exact .consumed _ _
      · exact forwardedAlone
    · split
      · exact .forwarded _ _ (.time _)
      · exact forwardedAlone
    · exact .forwarded _ _ (takeSampleFrame_copied _ _ s)
    · exact .forwarded _ _ (takeStateFrame_copied _ _ s)
    all_goals exact forwardedAlone

theorem receiveFrame_received (f : RxFrame) (s : State) : Received s (receiveFrame f s) := by
  unfold receiveFrame
  split
  · exact .formatError
  · split
    · exact .crcError
    · split
      · exact .formatError
      · exact handleFrame_received _ s

/-! ## Events -/

/-- The states an event can lead to before its notices join the queue, POWER_ON apart. -/
inductive Event (s : State) : State → Prop
  | tick : Event s (tick s)
  | day : Event s (dayWork (dayTick s))
  | minute : Event s (minuteWork (minuteTick s))
  | frame (u : State) (h : Received s u) : Event s u
  | frameEnd : Event s { s with rpt := { s.rpt with out := .idle } }
  | streamLost (r : Role) : Event s (streamLost r s)
  | switchSilent (f : Slot) : Event s (stateSupervisionExpired f s)
  | echoMissing (f : Slot) (h : (s.order f).state = .sent) : Event s (echoExpired f s)
  | orderFailed (f : Slot) (h : (s.order f).state = .sent) : Event s (confirmExpired f s)
  | deadTimer (f : Slot) (h : s.acting f = true) (hq : (s.seq f).state = .dead) :
      Event s (deadExpired f s)
  | reclaimTimer (f : Slot) (hq : (s.seq f).state = .reclaim) : Event s (reclaimExpired f s)
  | huntLimit : Event s (abortHunt .limit { s with due := { s.due with huntLimit := false } })
  | request (q : Request) (rest : List Request) (c : ResultCode) (content : List Byte) (v : State)
      (hq : s.mgr.fifo = q :: rest) (room : s.rpt.replies.length < 4)
      (h : Executes (popRequest rest s) v) : Event s (answerRequest q ⟨c, content, v⟩)

/-- What a command does: POWER_ON, nothing where its event has not taken place (log entry 5), or an event and its
end. -/
inductive Commands (s : State) : State → Prop
  | powerOn (straps : RingAddr) : Commands s { State.powerOn straps with pending := s.pending }
  | nothing : Commands s s
  | event (u : State) (h : Event s u) : Commands s (finish u)

theorem runRequest_commands {isKind : Nat → Bool} {body : Request → State → Executed}
    (hb : body ∈ requestBodies) (s : State) :
    ∃ t, runRequest isKind body s = .next t ∧ Commands s t := by
  unfold runRequest
  split
  · exact ⟨s, rfl, .nothing⟩
  · next q rest hq =>
    split
    · next ready =>
      exact ⟨_, rfl, .event _ (.request q rest _ _ _ hq ready.2 (body_executes hb q (popRequest rest s)))⟩
    · exact ⟨s, rfl, .nothing⟩

/-- A row whose event takes place under condition `c` alone. -/
theorem expiry_commands {c : Prop} [Decidable c] {s u : State} (h : c → Event s u) :
    ∃ t, (if c then .next (finish u) else .next s : Out) = .next t ∧ Commands s t := by
  split
  · next hc => exact ⟨_, rfl, .event _ (h hc)⟩
  · exact ⟨s, rfl, .nothing⟩

/-- Every command completes, and what it does is one of the cases of `Commands`. -/
theorem exec_commands (c : Instr) (s : State) : ∃ t, exec c s = .next t ∧ Commands s t := by
  have received (f : RxFrame) : ∃ t, (.next (finish (receiveFrame f s)) : Out) = .next t ∧ Commands s t :=
    ⟨_, rfl, .event _ (.frame _ (receiveFrame_received f s))⟩
  have requests (k : Nat → Bool) (body : Request → State → Executed) (hb : body ∈ requestBodies) :=
    runRequest_commands (isKind := k) hb s
  cases c with
  | powerOn straps => exact ⟨_, rfl, .powerOn straps⟩
  | localTick => exact ⟨_, rfl, .event _ .tick⟩
  | minuteBoundary => exact expiry_commands fun _ => .minute
  | dayChange => exact expiry_commands fun _ => .day
  | sample f => exact received f
  | state f => exact received f
  | time f => exact received f
  | request f => exact received f
  | frameReceived f => exact received f
  | frameEnd => exact ⟨_, rfl, .event _ .frameEnd⟩
  | supervisionTimerExpiry r => exact expiry_commands fun _ => .streamLost r
  | stateSupervisionExpiry f => exact expiry_commands fun _ => .switchSilent f
  | echoWatchExpiry f => exact expiry_commands fun h => .echoMissing f h.1
  | confirmTimerExpiry f => exact expiry_commands fun h => .orderFailed f h.1
  | deadTimerExpiry f => exact expiry_commands fun ⟨acts, dead, _⟩ => .deadTimer f acts dead
  | reclaimTimerExpiry f => exact expiry_commands fun ⟨_, reclaim, _⟩ => .reclaimTimer f reclaim
  | huntLimitExpiry => exact expiry_commands fun _ => .huntLimit
  | read => exact requests (· == 1) doRead (by simp [requestBodies])
  | write => exact requests (· == 2) doWrite (by simp [requestBodies])
  | status => exact requests (· == 3) doStatus (by simp [requestBodies])
  | snapshot => exact requests (· == 4) doSnapshot (by simp [requestBodies])
  | operate => exact requests (· == 5) doOperate (by simp [requestBodies])
  | block => exact requests (· == 6) doBlock (by simp [requestBodies])
  | unblock => exact requests (· == 7) doUnblock (by simp [requestBodies])
  | resetLockout => exact requests (· == 8) doResetLockout (by simp [requestBodies])
  | resetSwitch => exact requests (· == 9) doResetSwitch (by simp [requestBodies])
  | override => exact requests (· == 10) doOverride (by simp [requestBodies])
  | startHunt => exact requests (· == 11) doStartHunt (by simp [requestBodies])
  | abortHunt => exact requests (· == 12) doAbortHunt (by simp [requestBodies])
  | enterService => exact requests (· == 13) doEnterService (by simp [requestBodies])
  | leaveService => exact requests (· == 14) doLeaveService (by simp [requestBodies])
  | restart => exact requests (· == 15) doRestart (by simp [requestBodies])
  | unknownRequestKind => exact requests (fun k => k == 0 || decide (15 < k)) doUnknown (by simp [requestBodies])

/-- A law of the state that a power-on sets up, every event keeps to its end, and no queue of commands touches is
kept by every step. -/
theorem step_keeps {P : State → Prop} (queue : ∀ s p, P s → P { s with pending := p })
    (powerOn : ∀ straps, P (State.powerOn straps)) (event : ∀ s u, P s → Event s u → P (finish u))
    (s t : State) (h : P s) (hs : step s = .next t) : P t := by
  unfold step at hs
  split at hs
  · cases hs; exact h
  · next c rest _ =>
    obtain ⟨u, done, commands⟩ := exec_commands c { s with pending := rest }
    rw [done] at hs
    cases hs
    have began := queue s rest h
    cases commands with
    | powerOn straps => exact queue _ _ (powerOn straps)
    | nothing => exact began
    | event u hu => exact event _ u began hu

end Sys2Proof.Machine
end

section
/-! PROOFS. The obligations on the step itself: it runs the command at the front of the queue, every command
completes, and none touches the queue. -/

namespace Sys2Proof.Machine

/-! ## What is done for every feeder -/

theorem foldl_keeps {α : Type} {P : State → Prop} {g : State → α → State}
    (h : ∀ s a, P s → P (g s a)) (l : List α) (s : State) (hs : P s) : P (l.foldl g s) := by
  induction l generalizing s with
  | nil => exact hs
  | cons a l ih => exact ih _ (h s a hs)

theorem forSlots_keeps {P : State → Prop} {g : Slot → State → State} (h : ∀ f s, P s → P (g f s))
    (s : State) (hs : P s) : P (forSlots g s) :=
  foldl_keeps (fun s f => h f s) _ s hs

/-! ## The queue of commands -/

theorem checkOverrides_pending (s : State) : (checkOverrides s).pending = s.pending := by
  unfold checkOverrides
  split <;> rfl

theorem tickClock_pending (s : State) : (tickClock s).pending = s.pending := by
  unfold tickClock
  split
  · split <;> rfl
  · rfl

theorem tick_pending (s : State) : (tick s).pending = s.pending := by
  refine Eq.trans ?_ (tickClock_pending s)
  unfold tick tickHunt
  split <;> rfl

theorem dayTick_pending (s : State) : (dayTick s).pending = s.pending := by
  unfold dayTick
  split
  · exact tick_pending s
  · rfl

theorem minuteTick_pending (s : State) : (minuteTick s).pending = s.pending := by
  unfold minuteTick
  split
  · exact tick_pending s
  · rfl

theorem minuteWork_pending (s : State) : (minuteWork s).pending = s.pending := by
  unfold minuteWork
  dsimp only
  rw [(evaluateModes_work _).pending, checkOverrides_pending]
  split <;> rfl

theorem takeTime_pending (n : Tod) (s : State) : (takeTime n s).pending = s.pending := by
  unfold takeTime raiseClockSet
  split
  · rfl
  · dsimp only
    rw [(evaluateModes_work _).pending, checkOverrides_pending]
    split
    · rfl
    · unfold purge
      split <;> rfl

theorem feederStored_pending (f : Slot) (old : FeederRecord) (s : State) :
    (feederStored f old s).pending = s.pending := by
  have leaves : (feederLeaves f s).pending = s.pending := by
    unfold feederLeaves
    dsimp only
    split
    · exact (leaveSequencer_work _ _).pending
    · rfl
  have joins : (feederJoins f s).pending = s.pending := by
    unfold feederJoins
    split
    · exact (applyGroup_feederWork _ _ _ _ _).pending
    · rfl
  unfold feederStored
  dsimp only
  split <;> [skip; rw [(updateBusMode_work _).pending]] <;>
  · split <;> [skip; rw [(alignFire_work _ _).pending]] <;>
    · split
      · exact leaves
      · split
        · exact joins
        · rfl

theorem stores_pending {s u : State} (h : Stores s u) : u.pending = s.pending := by
  cases h with
  | feeder f r _ _ => exact feederStored_pending f _ _
  | _ => rfl

theorem writeTable_pending (t : Table) (size i count : Nat) (bs : List Byte) (s : State) :
    (writeTable t size i count bs s).state.pending = s.pending :=
  writeTable_keeps (P := fun u => u.pending = s.pending) (fun _ _ hu h => (stores_pending hu).trans h)
    (fun _ h => (evaluateModes_work _).pending.trans h) t size i count bs s rfl

theorem foldl_pending {α : Type} {g : State → α → State} (h : ∀ s a, (g s a).pending = s.pending)
    (l : List α) (s : State) : (l.foldl g s).pending = s.pending :=
  foldl_keeps (P := fun u => u.pending = s.pending) (fun t a ht => (h t a).trans ht) l s rfl

theorem forSlots_pending {g : Slot → State → State} (h : ∀ f s, (g f s).pending = s.pending) (s : State) :
    (forSlots g s).pending = s.pending := foldl_pending (fun s f => h f s) _ s

theorem activateMap_pending (s : State) : (activateMap s).pending = s.pending := by
  unfold activateMap
  rw [forSlots_pending fun f s => (activateSwitch_work f s).pending,
    foldl_pending fun s r => State.setStream_pending r _ s]

theorem activateAtEntry_pending (s : State) : (activateAtEntry s).pending = s.pending := by
  unfold activateAtEntry
  split
  · rfl
  · rw [forSlots_pending fun f t => ?_, activateMap_pending]
    rw [(addReason_work _ _ _).pending, alignSwitch, (alignReason_work _ _ _ _).pending]

theorem enterService_pending (src : RingAddr) (s : State) :
    (enterService src s).pending = s.pending := by
  unfold enterService
  rw [forSlots_pending fun f t => (setActiveAtEntry_work f t).pending]
  dsimp only
  rw [(evaluateModes_work _).pending, activateAtEntry_pending]

theorem leaveService_pending (s : State) : (leaveService s).pending = s.pending := by
  unfold leaveService clearGroups clearElements
  dsimp only
  rw [forSlots_pending fun f t => (leaveSequencer_work f t).pending, (efsLeaveService_work s).pending]

theorem restart_pending (s : State) : (restart s).pending = s.pending := by
  unfold restart
  rw [(efsRestart_work _).pending, forSlots_pending fun f t => (restartSequencer_work f t).pending,
    forSlots_pending (g := setRestartReasons) fun _ _ => rfl]
  unfold clearGroups clearElements
  dsimp only
  rw [forSlots_pending (g := abandonOrder) fun f t => (putOrder_work f _ t).pending, activateMap_pending]
  rfl

theorem executes_pending {s u : State} (h : Executes s u) : u.pending = s.pending := by
  cases h with
  | nothing => rfl
  | write t size i count bs => exact writeTable_pending t size i count bs s
  | latches => rfl
  | operate k f => exact (ask_work _ _ _ s).pending
  | block f => exact (addReason_work _ _ s).pending
  | unblock f => rfl
  | resetLockout f => exact (resetLockout_work _ s).pending
  | resetSwitch f => exact (resetSwitch_work _ s).pending
  | override d o => exact (evaluateModes_work _).pending
  | startHunt _ => exact (startHunt_work _ s).pending
  | abortHunt => exact (abortHunt_work _ s).pending
  | enterService src _ _ => exact enterService_pending src s
  | leaveService _ => exact leaveService_pending s
  | restart => exact restart_pending s

theorem takes_work {r : Role} {x : Sample} {s u : State} (h : Takes r x s u) : SampleWork s u := by
  cases h with
  | fresh _ => exact startFilling_work _ _ s
  | resync _ => exact (SampleWork.setStream _ _ s).trans (startFilling_work _ _ _)
  | discarded => exact .setStream _ _ s
  | counted _ => exact fillNext_work _ _ s
  | accepted _ => exact acceptNext_work _ _ s
  | bridged k _ => exact bridgeGap_work _ _ k s
  | broken _ => exact breakStream_work _ _ s

theorem copied_pending {s u : State} (h : Copied s u) : u.pending = s.pending := by
  cases h with
  | nothing => rfl
  | foreign => rfl
  | sample r x u h => exact (takes_work h).pending
  | state r f => exact (takeState_work r f s).pending
  | time n => exact takeTime_pending n s

theorem received_pending {s u : State} (h : Received s u) : u.pending = s.pending := by
  cases h with
  | formatError => rfl
  | crcError => rfl
  | nothing => rfl
  | echo f n => exact (orderEcho_work f n s).pending
  | consumed src p => unfold consumeRequest; split <;> rfl
  | forwarded bs u h =>
    refine Eq.trans ?_ (copied_pending h)
    unfold forwardFrame
    split <;> rfl

theorem event_pending {s u : State} (h : Event s u) : u.pending = s.pending := by
  cases h with
  | tick => exact tick_pending s
  | day => exact dayTick_pending s
  | minute => exact (minuteWork_pending _).trans (minuteTick_pending s)
  | frame u h => exact received_pending h
  | frameEnd => rfl
  | streamLost r => exact (streamLost_work r s).pending
  | switchSilent f => exact (stateSupervisionExpired_work f s).pending
  | echoMissing f _ => exact (echoExpired_work f s).pending
  | orderFailed f _ => exact (confirmExpired_work f s).pending
  | deadTimer f _ _ => exact (deadExpired_work f s).pending
  | reclaimTimer f _ => rfl
  | huntLimit => exact (abortHunt_work _ _).pending
  | request q rest c content v _ _ h =>
    have executed : v.pending = (popRequest rest s).pending := executes_pending h
    exact executed

theorem commands_pending {s t : State} (h : Commands s t) : t.pending = s.pending := by
  cases h with
  | powerOn straps => rfl
  | nothing => rfl
  | event u h => exact (finish_work u).pending.trans (event_pending h)

/-! ## The obligations -/

/-- Settles O1: the step's own equation on a queue that is not empty. -/
theorem stepRunsFrontCommand : Obligations.StepRunsFrontCommand := by
  intro c rest s queue
  unfold step
  rw [queue]

/-- Settles O2: each command is one of the cases of `Commands`, and none of them touches the queue. -/
theorem stepsAlwaysComplete : Obligations.StepsAlwaysComplete := by
  refine ⟨fun s empty => ?_, fun c s => ?_⟩
  · unfold step
    rw [empty]
  · obtain ⟨t, done, commands⟩ := exec_commands c s
    exact ⟨t, done, commands_pending commands⟩

end Sys2Proof.Machine
end

section
/-! PROOFS. The obligation on the bounds of queues, counters, accumulators, result lists, clock and declaration
table. The frames of Laws/ say which operations leave a bounded block alone; the others are proved here. -/

namespace Sys2Proof.Machine

/-! ## The bounds, block by block -/

/-- RPT within its bounds, with at most `w` replies waiting (R169). -/
structure RptBounded (w : Nat) (x : Rpt) : Prop where
  forward : x.forward.length ≤ 8
  replies : x.replies.length ≤ w
  crcErrors : x.crcErrors ≤ 65535
  formatErrors : x.formatErrors ≤ 65535
  overflows : x.overflows ≤ 65535

/-- The counters of one stream within their bounds (R5). -/
def StreamRecord.bounded (q : StreamRecord) : Prop :=
  q.gaps ≤ 65535 ∧ q.duplicates ≤ 65535 ∧ q.resyncs ≤ 65535

/-- SIU within its bounds (R4, R5). -/
structure SiuBounded (x : Siu) : Prop where
  foreign : x.foreign ≤ 65535
  streams : ∀ r : Role, StreamRecord.bounded x.streams[r]

/-- The result lists of PHE within their bounds (R29). -/
def PheBounded (x : Phe) : Prop := ∀ r : Role, x.streams[r].results.length ≤ 4

/-- The accumulators of one feeder within their bounds (R48). -/
def ElementState.bounded (e : ElementState) : Prop := e.phIt.acc ≤ accLimit ∧ e.efIt.acc ≤ accLimit

/-- The accumulators of ELU within their bounds (R48). -/
def EluBounded (s : State) : Prop := ∀ f : Slot, (s.element f).bounded

/-- MDU within its bounds, its declarations in the order of their keys (R150, R151, R153). -/
structure MduBounded (x : Mdu) : Prop where
  invalidTime : x.invalidTime ≤ 65535
  ms : x.ms < msPerDay
  room : x.declarations.length ≤ 32
  sorted : x.declarations.Pairwise fun a b => keyBefore a b = true

/-- MGR within its bounds (R182, R188). -/
structure MgrBounded (x : Mgr) : Prop where
  fifo : x.fifo.length ≤ 4
  notices : x.notices.length ≤ 32
  overflow : x.overflow ≤ 65535
  dropped : x.dropped ≤ 65535

/-- The bounds that hold within an event, while its notices still gather, with at most `w` replies waiting. -/
structure Bounded (w : Nat) (s : State) : Prop where
  rpt : RptBounded w s.rpt
  siu : SiuBounded s.siu
  phe : PheBounded s.phe
  elu : EluBounded s
  mdu : MduBounded s.mdu
  mgr : MgrBounded s.mgr

theorem boundsKept_iff (s : State) : BoundsKept s ↔ Bounded 4 s ∧ s.raised = [] := by
  constructor
  · rintro ⟨⟨fwd, rep, fifo, not, none⟩, ⟨crc, fmt, ovf, mov, drp, fgn, inv, str⟩, ⟨acc, res⟩, ms, len, srt⟩
    exact ⟨⟨⟨fwd, rep, crc, fmt, ovf⟩, ⟨fgn, str⟩, res, acc, ⟨inv, ms, len, srt⟩, ⟨fifo, not, mov, drp⟩⟩,
      none⟩
  · rintro ⟨⟨⟨fwd, rep, crc, fmt, ovf⟩, ⟨fgn, str⟩, res, acc, ⟨inv, ms, len, srt⟩, ⟨fifo, not, mov, drp⟩⟩,
      none⟩
    exact ⟨⟨fwd, rep, fifo, not, none⟩, ⟨crc, fmt, ovf, mov, drp, fgn, inv, str⟩, ⟨acc, res⟩, ms, len, srt⟩

variable {w : Nat}

theorem countUp_le (n : Nat) : countUp n ≤ 65535 := by
  rw [countUp_eq_min]
  omega

/-! ## What the frames leave in bounds -/

theorem EluBounded.of_same {s t : State} (h : t.elu = s.elu) (b : EluBounded s) : EluBounded t := by
  unfold EluBounded State.element
  rw [h]
  exact b

theorem FeederWork.bounded {s t : State} (a : FeederWork s t) (b : Bounded w s) (e : EluBounded t) :
    Bounded w t :=
  ⟨by rw [a.rpt]; exact b.rpt, by rw [a.siu]; exact b.siu, by rw [a.phe]; exact b.phe, e,
    by rw [a.mdu]; exact b.mdu, by rw [a.mgr]; exact b.mgr⟩

theorem OrderWork.bounded {s t : State} (a : OrderWork s t) (b : Bounded w s) : Bounded w t :=
  a.feeder.bounded b (b.elu.of_same a.elu)

theorem EfsWork.bounded {s t : State} (a : EfsWork s t) (b : Bounded w s) : Bounded w t := a.order.bounded b

theorem RcsWork.bounded {s t : State} (a : RcsWork s t) (b : Bounded w s) : Bounded w t := a.order.bounded b

theorem ModeWork.bounded {s t : State} (a : ModeWork s t) (b : Bounded w s) : Bounded w t :=
  ⟨by rw [a.rpt]; exact b.rpt, by rw [a.siu]; exact b.siu, by rw [a.phe]; exact b.phe, b.elu.of_same a.elu,
    ⟨by rw [a.invalidTime]; exact b.mdu.invalidTime, by rw [a.ms]; exact b.mdu.ms,
      by rw [a.declarations]; exact b.mdu.room, by rw [a.declarations]; exact b.mdu.sorted⟩,
    by rw [a.mgr]; exact b.mgr⟩

/-! ## Elements -/

theorem evalInverse_acc (curves : Vector Curve 8) (c : InverseSetting) (x : Bool) (i : Nat)
    (e : InverseState) (h : e.acc ≤ accLimit) : (evalInverse curves c x i e).acc ≤ accLimit := by
  have reset : resetAcc c e.acc ≤ accLimit := by
    unfold resetAcc
    split <;> omega
  unfold evalInverse
  split
  · exact Nat.zero_le _
  · split
    · exact reset
    · split
      · exact h
      · split
        · exact Nat.min_le_left _ _
        · split
          · exact h
          · exact reset

theorem evalElements_bounded (curves : Vector Curve 8) (g : GroupRecord) (h : HandOver) (e : ElementState)
    (b : e.bounded) : (evalElements curves g h e).bounded := by
  unfold evalElements
  split
  · exact b
  · exact ⟨evalInverse_acc _ _ _ _ _ b.1, evalInverse_acc _ _ _ _ _ b.2⟩

theorem turnedOn_bounded (old new : GroupRecord) (e : ElementState) (b : e.bounded) :
    (e.turnedOn old new).bounded := by
  have on (a c : InverseSetting) (x : InverseState) (h : x.acc ≤ accLimit) :
      (x.turnedOn a c).acc ≤ accLimit := by
    unfold InverseState.turnedOn
    split
    · exact Nat.zero_le _
    · exact h
  exact ⟨on _ _ _ b.1, on _ _ _ b.2⟩

theorem EluBounded.setElement {f : Slot} {x : ElementState} {s : State} (b : EluBounded s)
    (h : x.bounded) : EluBounded (s.setElement f x) := by
  intro g
  rw [State.element_setElement]
  split
  · exact h
  · exact b g

theorem tripFeeder_eluBounded (f : Slot) (g : GroupNo) (gr : GroupRecord) (t : ElementSet) (h : HandOver)
    (s : State) (b : EluBounded s) : EluBounded (tripFeeder f g gr t h s) := by
  have acted : EluBounded (s.setElement f ((s.element f).act t)) := b.setElement (b f)
  unfold tripFeeder
  dsimp only
  split
  · exact acted
  · exact acted.of_same (orderTrip_work _ _ _).elu

theorem applyAtCompletion_eluBounded (f : Slot) (h : HandOver) (s : State) (b : EluBounded s) :
    EluBounded (applyAtCompletion f h s) := by
  have pending : EluBounded (applyPending h.sampleNo f s) := by
    unfold applyPending
    split
    · exact b.of_same (applyGroup_modeWork _ _ _ _ s).elu
    · exact b
  unfold applyAtCompletion clearTurnedOn
  split
  · exact b
  · split
    · exact pending.setElement (turnedOn_bounded _ _ _ (pending f))
    · exact pending

theorem evaluate_eluBounded (f : Slot) (h : HandOver) (s : State) (b : EluBounded s) :
    EluBounded (evaluate f h s) := by
  have applied := applyAtCompletion_eluBounded f h s b
  unfold evaluate decideFeederTrip
  dsimp only
  split
  · split
    · exact applied
    · next g _ =>
      have evaluated := applied.setElement (f := f) (evalElements_bounded
        (applyAtCompletion f h s).gst.curves ((applyAtCompletion f h s).group f g) h _ (applied f))
      split
      · exact tripFeeder_eluBounded _ _ _ _ _ _ evaluated
      · exact evaluated
  · exact b

/-! ## Samples -/

/-- SIU is not touched by the handing of a sample to PHE, ELU and EFS. -/
theorem hand_siu (r : Role) (x : Sample) (filled : Bool) (st : StreamState) (s : State) :
    (hand r x filled st s).siu = s.siu := by
  unfold hand
  split
  · unfold handFeeder
    dsimp only
    split
    · split
      · rw [(efsFeederResult_work _ _ _).siu, (evaluate_work _ _ _).siu, State.setPheStream_siu]
      · rw [(evaluate_work _ _ _).siu, State.setPheStream_siu]
    · rfl
  · unfold handBus
    dsimp only
    split
    · rw [(efsBusCompletion_work _ _).siu, State.setPheStream_siu]
    · rfl

/-- PHE's record of a stream after a sample, by the kind of stream (R22). -/
def PheStream.update (r : Role) (x : Sample) (filled : Bool) (st : StreamState) (p : PheStream) :
    PheStream :=
  if r = busRole then p.updateBus x filled st else p.updateFeeder x filled st

theorem role_ne_busRole (f : Slot) : f.role ≠ busRole := by
  revert f; decide

/-- Of PHE, the handing of a sample changes the record of its stream alone. -/
theorem hand_phe (r : Role) (x : Sample) (filled : Bool) (st : StreamState) (s : State) :
    (hand r x filled st s).phe = (s.setPheStream r ((s.pheStream r).update r x filled st)).phe := by
  unfold hand
  split
  · next f hf =>
    obtain rfl := role_of_slotOf hf
    rw [PheStream.update, if_neg (role_ne_busRole f)]
    unfold handFeeder
    dsimp only
    split
    · split
      · rw [(efsFeederResult_work _ _ _).phe, (evaluate_work _ _ _).phe]
      · rw [(evaluate_work _ _ _).phe]
    · rfl
  · next hf =>
    obtain rfl := eq_busRole_of_slotOf hf
    rw [PheStream.update, if_pos rfl]
    unfold handBus
    dsimp only
    split
    · rw [(efsBusCompletion_work _ _).phe]
    · rfl

theorem hand_pheStream (r q : Role) (x : Sample) (filled : Bool) (st : StreamState) (s : State) :
    (hand r x filled st s).pheStream q =
      if r = q then (s.pheStream r).update r x filled st else s.pheStream q := by
  rw [← State.pheStream_setPheStream]
  unfold State.pheStream
  rw [hand_phe]
  rfl

theorem pushResult_length (r : CycleResult) (rs : List CycleResult) : (pushResult r rs).length ≤ 4 :=
  List.length_take_le _ _

theorem update_results_length (r : Role) (x : Sample) (filled : Bool) (st : StreamState) (p : PheStream)
    (h : p.results.length ≤ 4) : (p.update r x filled st).results.length ≤ 4 := by
  unfold PheStream.update PheStream.updateBus PheStream.updateFeeder
  dsimp only
  split
  · split
    · exact pushResult_length _ _
    · exact h
  · split
    · dsimp only
      split
      · exact pushResult_length _ _
      · exact h
    · exact h

theorem hand_eluBounded (r : Role) (x : Sample) (filled : Bool) (st : StreamState) (s : State)
    (b : EluBounded s) : EluBounded (hand r x filled st s) := by
  have stored (p : PheStream) : EluBounded (s.setPheStream r p) := b
  unfold hand
  split
  · next f hf =>
    obtain rfl := role_of_slotOf hf
    unfold handFeeder
    dsimp only
    have evaluated := fun h => evaluate_eluBounded f h _
      (stored ((s.pheStream f.role).updateFeeder x filled st))
    split
    · split
      · exact (evaluated _).of_same (efsFeederResult_work _ _ _).elu
      · exact evaluated _
    · exact stored _
  · unfold handBus
    dsimp only
    split
    · exact b.of_same (efsBusCompletion_work _ _).elu
    · exact b

/-- The handing of a sample keeps the bounds. -/
theorem hand_bounded (r : Role) (x : Sample) (filled : Bool) (st : StreamState) (s : State)
    (b : Bounded w s) : Bounded w (hand r x filled st s) := by
  have work := hand_work r x filled st s
  refine ⟨by rw [work.rpt]; exact b.rpt, by rw [hand_siu]; exact b.siu, fun q => ?_,
    hand_eluBounded r x filled st s b.elu, by rw [work.mdu]; exact b.mdu, by rw [work.mgr]; exact b.mgr⟩
  change ((hand r x filled st s).pheStream q).results.length ≤ 4
  rw [hand_pheStream]
  split
  · exact update_results_length _ _ _ _ _ (b.phe r)
  · exact b.phe q

theorem Bounded.setStream {r : Role} {q : StreamRecord} {s : State} (b : Bounded w s) (h : q.bounded) :
    Bounded w (s.setStream r q) := by
  refine ⟨b.rpt, ⟨b.siu.foreign, fun k => ?_⟩, b.phe, b.elu, b.mdu, b.mgr⟩
  change ((s.setStream r q).stream k).bounded
  rw [State.stream_setStream]
  split
  · exact h
  · exact b.siu.streams k

theorem Bounded.setPheStream {r : Role} {p : PheStream} {s : State} (b : Bounded w s)
    (h : p.results.length ≤ 4) : Bounded w (s.setPheStream r p) := by
  refine ⟨b.rpt, b.siu, fun k => ?_, b.elu, b.mdu, b.mgr⟩
  change ((s.setPheStream r p).pheStream k).results.length ≤ 4
  rw [State.pheStream_setPheStream]
  split
  · exact h
  · exact b.phe k

theorem streamEntered_bounded (r : Role) (s : State) (b : Bounded w s) : Bounded w (streamEntered r s) := by
  unfold streamEntered applyPendingAtEntry
  split
  · split
    · exact (applyGroup_modeWork _ _ _ _ s).bounded b
    · exact b
  · exact (abortHunt_work _ s).bounded b

theorem streamStopped_bounded (r : Role) (n : Option SampleNo) (left : StreamState) (s : State)
    (b : Bounded w s) : Bounded w (streamStopped r n left s) := by
  refine streamEntered_bounded r _ ((EfsWork.raise _ _ _ _).bounded ?_)
  unfold addStreamReason
  split
  · exact (addReason_work _ _ s).bounded b
  · exact b

theorem enterFilling_bounded (r : Role) (x : Sample) (s : State) (b : Bounded w s) :
    Bounded w (enterFilling r x s) :=
  hand_bounded _ _ _ _ _ ((b.setPheStream (Nat.zero_le _)).setStream (b.siu.streams r))

theorem countResync_bounded (r : Role) (s : State) (b : Bounded w s) : Bounded w (countResync r s) :=
  b.setStream ⟨(b.siu.streams r).1, (b.siu.streams r).2.1, countUp_le _⟩

theorem acceptNext_bounded (r : Role) (x : Sample) (s : State) (b : Bounded w s) :
    Bounded w (acceptNext r x s) :=
  hand_bounded _ _ _ _ _ (b.setStream (b.siu.streams r))

theorem fillGap_bounded (r : Role) (x : Sample) (l : List Nat) (s : State) (b : Bounded w s) :
    Bounded w (fillGap r x l s) :=
  foldl_keeps (fun t _ h => hand_bounded _ _ _ _ t h) l s b

theorem enterLocked_bounded (r : Role) (n : SampleNo) (s : State) (b : Bounded w s) :
    Bounded w (enterLocked r n s) := by
  have locked : Bounded w (s.setStream r { s.stream r with state := .locked, consecutive := 0 }) :=
    b.setStream (b.siu.streams r)
  unfold enterLocked
  dsimp only
  refine (EfsWork.raise _ _ _ _).bounded ?_
  split
  · exact (removeReason_work _ _ _).bounded locked
  · exact locked

theorem fillNext_bounded (r : Role) (x : Sample) (s : State) (b : Bounded w s) :
    Bounded w (fillNext r x s) := by
  have counted : Bounded w (s.setStream r { s.stream r with
      lastSample := x.number, supervision := some 20, consecutive := (s.stream r).consecutive + 1 }) :=
    b.setStream (b.siu.streams r)
  unfold fillNext
  dsimp only
  split
  · exact hand_bounded _ _ _ _ _ (enterLocked_bounded _ _ _ counted)
  · exact hand_bounded _ _ _ _ _ counted

theorem takes_bounded {r : Role} {x : Sample} {s u : State} (h : Takes r x s u) (b : Bounded w s) :
    Bounded w u := by
  cases h with
  | fresh _ => exact streamEntered_bounded _ _ (enterFilling_bounded r x s b)
  | resync _ => exact streamEntered_bounded _ _ (enterFilling_bounded r x _ (countResync_bounded r s b))
  | discarded => exact b.setStream ⟨(b.siu.streams r).1, countUp_le _, (b.siu.streams r).2.2⟩
  | counted _ => exact fillNext_bounded r x s b
  | accepted _ => exact acceptNext_bounded r x s b
  | bridged k _ =>
    refine acceptNext_bounded r x _ (fillGap_bounded _ _ _ _ (b.setStream ?_))
    exact ⟨countUp_le _, (b.siu.streams r).2⟩
  | broken _ =>
    exact streamStopped_bounded _ _ _ _ (enterFilling_bounded r x _ (countResync_bounded r s b))

theorem streamLost_bounded (r : Role) (s : State) (b : Bounded w s) : Bounded w (streamLost r s) :=
  streamStopped_bounded _ _ _ _ (b.setStream (b.siu.streams r))

/-! ## The clock and the declarations -/

/-- Two keys that are not the same come one before the other (R153). -/
theorem keyBefore_of_not (a b : Declaration) (same : sameKey a b = false) (before : keyBefore a b = false) :
    keyBefore b a = true := by
  unfold sameKey at same
  unfold keyBefore at *
  simp only [Bool.and_eq_false_iff, beq_eq_false_iff_ne, ne_eq, decide_eq_false_iff_not, not_or, not_and,
    decide_eq_true_eq, BitVec.toNat_eq, Fin.ext_iff] at *
  omega

theorem keyBefore_trans {a b c : Declaration} (h : keyBefore a b = true) (k : keyBefore b c = true) :
    keyBefore a c = true := by
  unfold keyBefore at *
  simp only [decide_eq_true_eq, BitVec.toNat_eq, Fin.ext_iff] at *
  omega

theorem keyBefore_of_sameKey {a b c : Declaration} (h : sameKey a b = true) (k : keyBefore b c = true) :
    keyBefore a c = true := by
  unfold sameKey at h
  unfold keyBefore at *
  simp only [Bool.and_eq_true, beq_iff_eq, decide_eq_true_eq, BitVec.toNat_eq, Fin.ext_iff] at *
  omega

theorem mem_insertDeclaration {d x : Declaration} (l : List Declaration)
    (h : x ∈ insertDeclaration d l) : x = d ∨ x ∈ l := by
  induction l with
  | nil => simpa [insertDeclaration] using h
  | cons y ys ih =>
    unfold insertDeclaration at h
    split at h
    · simp only [List.mem_cons] at h ⊢
      tauto
    · split at h
      · simpa using h
      · simp only [List.mem_cons] at h ⊢
        tauto

/-- An entry put by its key keeps the table in the order of keys (R154). -/
theorem insertDeclaration_sorted (d : Declaration) (l : List Declaration)
    (h : l.Pairwise fun a b => keyBefore a b = true) :
    (insertDeclaration d l).Pairwise fun a b => keyBefore a b = true := by
  induction l with
  | nil => exact List.pairwise_singleton _ _
  | cons y ys ih =>
    obtain ⟨first, rest⟩ := List.pairwise_cons.mp h
    unfold insertDeclaration
    split
    · next same => exact List.pairwise_cons.mpr ⟨fun x hx => keyBefore_of_sameKey same (first x hx), rest⟩
    · next differs =>
      split
      · next before =>
        refine List.pairwise_cons.mpr ⟨fun x hx => ?_, h⟩
        rcases List.mem_cons.mp hx with rfl | hx
        · exact before
        · exact keyBefore_trans before (first x hx)
      · next after =>
        refine List.pairwise_cons.mpr ⟨fun x hx => ?_, ih rest⟩
        rcases mem_insertDeclaration ys hx with rfl | hx
        · exact keyBefore_of_not _ _ (by simpa using differs) (by simpa using after)
        · exact first x hx

/-- A replaced entry takes its own place, a new one a place of its own. -/
theorem insertDeclaration_length (d : Declaration) (l : List Declaration) :
    (insertDeclaration d l).length ≤ l.length + 1 := by
  induction l with
  | nil => exact le_rfl
  | cons y ys ih =>
    unfold insertDeclaration
    split
    · simp
    · split <;> simp [ih]

/-- An entry whose key the ordered table holds already replaces the one there. -/
theorem insertDeclaration_length_known (d : Declaration) (l : List Declaration)
    (sorted : l.Pairwise fun a b => keyBefore a b = true) (h : (l.any fun x => sameKey d x) = true) :
    (insertDeclaration d l).length ≤ l.length := by
  induction l with
  | nil => cases h
  | cons y ys ih =>
    obtain ⟨first, rest⟩ := List.pairwise_cons.mp sorted
    unfold insertDeclaration
    split
    · simp
    · next differs =>
      have later : (ys.any fun x => sameKey d x) = true := by
        simpa [Bool.eq_false_iff.mpr differs] using h
      split
      · next before =>
        obtain ⟨x, hx, same⟩ := List.any_eq_true.mp later
        exact absurd (keyBefore_trans before (first x hx)) (not_keyBefore_of_sameKey same)
      · simpa using ih rest later
where
  not_keyBefore_of_sameKey {a b : Declaration} (h : sameKey a b = true) : ¬ keyBefore a b = true := by
    unfold sameKey at h
    unfold keyBefore
    simp only [Bool.and_eq_true, beq_iff_eq, decide_eq_true_eq, BitVec.toNat_eq, Fin.ext_iff] at *
    omega

theorem Bounded.setDeclarations {ds : List Declaration} {s : State} (b : Bounded w s)
    (room : ds.length ≤ 32) (sorted : ds.Pairwise fun a b => keyBefore a b = true) :
    Bounded w (setDeclarations ds s) :=
  ⟨b.rpt, b.siu, b.phe, b.elu, ⟨b.mdu.invalidTime, b.mdu.ms, room, sorted⟩, b.mgr⟩

theorem Bounded.filterDeclarations {s : State} (b : Bounded w s) (keep : Declaration → Bool) :
    Bounded w (Machine.setDeclarations (s.mdu.declarations.filter keep) s) :=
  b.setDeclarations ((List.length_filter_le _ _).trans b.mdu.room) (b.mdu.sorted.filter _)

theorem purge_bounded (s : State) (b : Bounded w s) : Bounded w (purge s) := b.filterDeclarations _

theorem checkOverrides_bounded (s : State) (b : Bounded w s) : Bounded w (checkOverrides s) := by
  unfold checkOverrides
  split
  · exact ⟨b.rpt, b.siu, b.phe, b.elu, ⟨b.mdu.invalidTime, b.mdu.ms, b.mdu.room, b.mdu.sorted⟩, b.mgr⟩
  · exact b

theorem tick_bounded (s : State) (b : Bounded w s) : Bounded w (tick s) := by
  have clock : Bounded w (tickClock s) := by
    unfold tickClock
    split
    · split
      · next before =>
        exact ⟨b.rpt, b.siu, b.phe, b.elu, ⟨b.mdu.invalidTime, before, b.mdu.room, b.mdu.sorted⟩, b.mgr⟩
      · exact ⟨b.rpt, b.siu, b.phe, b.elu,
          ⟨b.mdu.invalidTime, by simp [msPerDay], b.mdu.room, b.mdu.sorted⟩, b.mgr⟩
    · exact b
  have timers : Bounded w (tickTimers (tickClock s)) := by
    refine ⟨clock.rpt, ⟨clock.siu.foreign, fun r => ?_⟩, clock.phe, clock.elu, clock.mdu, clock.mgr⟩
    simp only [tickTimers, mapV_get]
    exact clock.siu.streams r
  unfold tick tickHunt
  split
  · exact ⟨timers.rpt, timers.siu, timers.phe, timers.elu, timers.mdu, timers.mgr⟩
  · exact ⟨timers.rpt, timers.siu, timers.phe, timers.elu, timers.mdu, timers.mgr⟩

theorem evaluateModes_bounded (s : State) (b : Bounded w s) : Bounded w (evaluateModes s) :=
  (evaluateModes_work s).bounded b

theorem dayWork_bounded (s : State) (b : Bounded w s) : Bounded w (dayWork s) :=
  purge_bounded _ ⟨b.rpt, b.siu, b.phe, b.elu, b.mdu, b.mgr⟩

theorem minuteWork_bounded (s : State) (b : Bounded w s) : Bounded w (minuteWork s) := by
  unfold minuteWork
  dsimp only
  refine evaluateModes_bounded _ (checkOverrides_bounded _ ?_)
  split
  · have purged := dayWork_bounded s b
    exact ⟨purged.rpt, purged.siu, purged.phe, purged.elu, purged.mdu, purged.mgr⟩
  · exact ⟨b.rpt, b.siu, b.phe, b.elu, b.mdu, b.mgr⟩

theorem takeTime_bounded (n : Tod) (s : State) (b : Bounded w s) : Bounded w (takeTime n s) := by
  unfold takeTime
  split
  · exact ⟨b.rpt, b.siu, b.phe, b.elu, ⟨countUp_le _, b.mdu.ms, b.mdu.room, b.mdu.sorted⟩, b.mgr⟩
  · next valid =>
    refine evaluateModes_bounded _ (checkOverrides_bounded _ (purge_bounded _ ?_))
    have set (d : Due) : Bounded w { s with
        mdu := { s.mdu with running := true, day := n.day, ms := n.ms }, due := d } :=
      ⟨b.rpt, b.siu, b.phe, b.elu, ⟨b.mdu.invalidTime, by simpa using valid, b.mdu.room, b.mdu.sorted⟩,
        b.mgr⟩
    unfold raiseClockSet
    split
    · exact (EfsWork.raise _ _ _ _).bounded (set _)
    · split
      · exact (EfsWork.raise _ _ _ _).bounded (set _)
      · exact set _

/-! ## Requests -/

theorem feederStored_bounded (f : Slot) (old : FeederRecord) (s : State) (b : Bounded w s) :
    Bounded w (feederStored f old s) := by
  have leaves : Bounded w (feederLeaves f s) := by
    have cleared : Bounded w (s.setElement f .cleared) :=
      ⟨b.rpt, b.siu, b.phe, b.elu.setElement ⟨Nat.zero_le _, Nat.zero_le _⟩, b.mdu, b.mgr⟩
    unfold feederLeaves
    dsimp only
    split
    · exact (leaveSequencer_work _ _).bounded ((ModeWork.setGroups _ _ _ _).bounded cleared)
    · exact cleared
  have joins : Bounded w (feederJoins f s) := by
    unfold feederJoins
    split
    · exact (applyGroup_modeWork _ _ _ _ s).bounded b
    · exact b
  have served : Bounded w (if old.inService = true ∧ (s.feeder f).inService = false then feederLeaves f s
      else if old.inService = false ∧ (s.feeder f).inService = true then feederJoins f s else s) := by
    split
    · exact leaves
    · split
      · exact joins
      · exact b
  have aligned (c : Prop) [Decidable c] (u : State) (h : Bounded w u) :
      Bounded w (if c then u else alignFire f u) := by
    split
    · exact h
    · exact (alignFire_work f u).bounded h
  unfold feederStored
  dsimp only
  split
  · exact aligned _ _ served
  · exact (updateBusMode_work _).bounded (aligned _ _ served)

theorem stores_bounded (s u : State) (h : Stores s u) (b : Bounded w s) : Bounded w u := by
  cases h with
  | feeder f r _ _ =>
    exact feederStored_bounded f _ _ ⟨b.rpt, b.siu, b.phe, b.elu, b.mdu, b.mgr⟩
  | cancel x => exact b.filterDeclarations _
  | put x room =>
    refine b.setDeclarations ?_ (insertDeclaration_sorted x _ b.mdu.sorted)
    rcases room with known | room
    · exact (insertDeclaration_length_known x _ b.mdu.sorted known).trans b.mdu.room
    · exact (insertDeclaration_length x _).trans room
  | stagedMap m => exact ⟨b.rpt, ⟨b.siu.foreign, b.siu.streams⟩, b.phe, b.elu, b.mdu, b.mgr⟩
  | seasonWindows w =>
    exact ⟨b.rpt, b.siu, b.phe, b.elu, ⟨b.mdu.invalidTime, b.mdu.ms, b.mdu.room, b.mdu.sorted⟩, b.mgr⟩
  | curve _ _ _ | group _ _ _ _ | earthSettings _ | huntOrder _ =>
    exact ⟨b.rpt, b.siu, b.phe, b.elu, b.mdu, b.mgr⟩

theorem activateMap_bounded (s : State) (b : Bounded w s) : Bounded w (activateMap s) := by
  refine forSlots_keeps (fun f t h => (activateSwitch_work f t).bounded h) _ ?_
  refine foldl_keeps (fun t r h => h.setStream (h.siu.streams r)) _ _ ?_
  exact ⟨b.rpt, ⟨b.siu.foreign, b.siu.streams⟩, fun r => by simp [Phe.powerOn, PheStream.empty], b.elu, b.mdu,
    b.mgr⟩

theorem activateAtEntry_bounded (s : State) (b : Bounded w s) : Bounded w (activateAtEntry s) := by
  unfold activateAtEntry
  split
  · exact b
  · exact forSlots_keeps (fun f t h => (addReason_work _ _ _).bounded ((alignReason_work _ _ _ _).bounded h))
      _ (activateMap_bounded s b)

theorem MgrBounded.setDevice {m : Mgr} (b : MgrBounded m) (d : DeviceState) (a : RingAddr) :
    MgrBounded { m with device := d, destination := a } :=
  ⟨b.fifo, b.notices, b.overflow, b.dropped⟩

theorem Bounded.setMgr {s : State} (b : Bounded w s) {m : Mgr} (h : MgrBounded m) :
    Bounded w { s with mgr := m } := ⟨b.rpt, b.siu, b.phe, b.elu, b.mdu, h⟩

theorem enterService_bounded (src : RingAddr) (s : State) (b : Bounded w s) :
    Bounded w (enterService src s) := by
  have t := evaluateModes_bounded _ (activateAtEntry_bounded s b)
  have entered (f : Slot) (u : State) (h : Bounded w u) : Bounded w (setActiveAtEntry f u) := by
    unfold setActiveAtEntry
    split
    · exact (ModeWork.setGroups _ _ _ u).bounded h
    · exact h
  unfold enterService
  refine forSlots_keeps (P := Bounded w) entered _ ?_
  exact t.setMgr (t.mgr.setDevice _ _)

theorem cleared_bounded (s : State) (b : Bounded w s) : Bounded w (clearGroups (clearElements s)) := by
  refine ⟨b.rpt, b.siu, b.phe, fun f => ?_, b.mdu, b.mgr⟩
  simp [clearGroups, clearElements, ElementState.bounded, ElementState.cleared, InverseState.cleared]

theorem leaveService_bounded (s : State) (b : Bounded w s) : Bounded w (leaveService s) := by
  have t : Bounded w (forSlots leaveSequencer (efsLeaveService s)) :=
    forSlots_keeps (fun f u h => (leaveSequencer_work f u).bounded h) _ ((efsLeaveService_work s).bounded b)
  unfold leaveService
  refine cleared_bounded _ ?_
  exact t.setMgr (t.mgr.setDevice _ _)

theorem restart_bounded (s : State) (b : Bounded w s) : Bounded w (restart s) := by
  have emptied : Bounded w (emptyQueues s) :=
    ⟨⟨Nat.zero_le _, Nat.zero_le _, b.rpt.crcErrors, b.rpt.formatErrors, b.rpt.overflows⟩, b.siu, b.phe,
      b.elu, b.mdu, ⟨Nat.zero_le _, Nat.zero_le _, b.mgr.overflow, b.mgr.dropped⟩⟩
  have a : Bounded w (forSlots abandonOrder (activateMap (emptyQueues s))) :=
    forSlots_keeps (fun f u h => (putOrder_work f _ u).bounded h) _ (activateMap_bounded _ emptied)
  have cleared := cleared_bounded _
    (a.setMgr (m := { (forSlots abandonOrder (activateMap (emptyQueues s))).mgr with device := .configuring })
      (a.mgr.setDevice _ _))
  unfold restart
  exact (efsRestart_work _).bounded
    (forSlots_keeps (fun f u h => (restartSequencer_work f u).bounded h) _
      (forSlots_keeps (fun f u h => (RcsWork.setSeq f _ u).bounded h) _ cleared))

theorem executes_bounded {s u : State} (h : Executes s u) (b : Bounded w s) : Bounded w u := by
  cases h with
  | nothing => exact b
  | write t size i count bs =>
    exact writeTable_keeps stores_bounded evaluateModes_bounded t size i count bs s b
  | latches =>
    refine ⟨⟨b.rpt.forward, b.rpt.replies, b.rpt.crcErrors, b.rpt.formatErrors, b.rpt.overflows⟩,
      ⟨b.siu.foreign, fun r => ?_⟩, b.phe, b.elu, b.mdu, b.mgr⟩
    simp only [clearLatches, mapV_get]
    exact b.siu.streams r
  | operate k f => exact (ask_work _ _ _ s).bounded b
  | block f => exact (addReason_work _ _ s).bounded b
  | unblock f => exact (removeReason_work _ _ s).bounded b
  | resetLockout f => exact (resetLockout_work _ s).bounded b
  | resetSwitch f => exact (resetSwitch_work _ s).bounded b
  | override d o =>
    exact evaluateModes_bounded _ ⟨b.rpt, b.siu, b.phe, b.elu,
      ⟨b.mdu.invalidTime, b.mdu.ms, b.mdu.room, b.mdu.sorted⟩, b.mgr⟩
  | startHunt _ => exact (startHunt_work _ s).bounded b
  | abortHunt => exact (abortHunt_work _ s).bounded b
  | enterService src _ _ => exact enterService_bounded src s b
  | leaveService _ => exact leaveService_bounded s b
  | restart => exact restart_bounded s b

/-! ## Frames and events -/

theorem copied_bounded {s u : State} (h : Copied s u) (b : Bounded w s) : Bounded w u := by
  cases h with
  | nothing => exact b
  | foreign => exact ⟨b.rpt, ⟨countUp_le _, b.siu.streams⟩, b.phe, b.elu, b.mdu, b.mgr⟩
  | sample r x u h => exact takes_bounded h b
  | state r f => exact (takeState_work r f s).bounded b
  | time n => exact takeTime_bounded n s b

theorem forwardFrame_bounded (bs : List Byte) (s : State) (b : Bounded w s) : Bounded w (forwardFrame bs s) := by
  unfold forwardFrame
  split
  · next room =>
    exact ⟨⟨by simpa using room, b.rpt.replies, b.rpt.crcErrors, b.rpt.formatErrors, b.rpt.overflows⟩, b.siu,
      b.phe, b.elu, b.mdu, b.mgr⟩
  · exact ⟨⟨b.rpt.forward, b.rpt.replies, b.rpt.crcErrors, b.rpt.formatErrors, countUp_le _⟩, b.siu, b.phe,
      b.elu, b.mdu, b.mgr⟩

theorem consumeRequest_bounded (src : RingAddr) (p : List Byte) (s : State) (b : Bounded w s) :
    Bounded w (consumeRequest src p s) := by
  unfold consumeRequest
  split
  · next room =>
    exact ⟨b.rpt, b.siu, b.phe, b.elu, b.mdu, ⟨by simpa using room, b.mgr.notices, b.mgr.overflow,
      b.mgr.dropped⟩⟩
  · exact ⟨b.rpt, b.siu, b.phe, b.elu, b.mdu, ⟨b.mgr.fifo, b.mgr.notices, countUp_le _, b.mgr.dropped⟩⟩

theorem received_bounded {s u : State} (h : Received s u) (b : Bounded w s) : Bounded w u := by
  cases h with
  | formatError =>
    exact ⟨⟨b.rpt.forward, b.rpt.replies, b.rpt.crcErrors, countUp_le _, b.rpt.overflows⟩, b.siu, b.phe,
      b.elu, b.mdu, b.mgr⟩
  | crcError =>
    exact ⟨⟨b.rpt.forward, b.rpt.replies, countUp_le _, b.rpt.formatErrors, b.rpt.overflows⟩, b.siu, b.phe,
      b.elu, b.mdu, b.mgr⟩
  | nothing => exact b
  | echo f n => exact (orderEcho_work f n s).bounded b
  | consumed src p => exact consumeRequest_bounded src p s b
  | forwarded bs u h => exact forwardFrame_bounded bs u (copied_bounded h b)

/-- A request is begun with fewer than 4 replies waiting, so its own reply finds room (R183). -/
theorem request_bounded {q : Request} {rest : List Request} {c : ResultCode} {content : List Byte}
    {s v : State} (hq : s.mgr.fifo = q :: rest) (room : s.rpt.replies.length < 4)
    (h : Executes (popRequest rest s) v) (b : Bounded 4 s) :
    Bounded 4 (answerRequest q ⟨c, content, v⟩) := by
  have popped : Bounded 3 (popRequest rest s) := by
    have fifo := b.mgr.fifo
    rw [hq, List.length_cons] at fifo
    exact ⟨⟨b.rpt.forward, Nat.le_of_lt_succ room, b.rpt.crcErrors, b.rpt.formatErrors, b.rpt.overflows⟩, b.siu,
      b.phe, b.elu, b.mdu, ⟨Nat.le_of_succ_le fifo, b.mgr.notices, b.mgr.overflow, b.mgr.dropped⟩⟩
  have v := executes_bounded h popped
  refine ⟨⟨v.rpt.forward, ?_, v.rpt.crcErrors, v.rpt.formatErrors, v.rpt.overflows⟩, v.siu, v.phe, v.elu,
    v.mdu, v.mgr⟩
  simpa [answerRequest] using Nat.lt_succ_of_le v.rpt.replies

theorem dayTick_bounded (s : State) (b : Bounded w s) : Bounded w (dayTick s) := by
  unfold dayTick
  split
  · exact tick_bounded s b
  · exact b

theorem minuteTick_bounded (s : State) (b : Bounded w s) : Bounded w (minuteTick s) := by
  unfold minuteTick
  split
  · exact tick_bounded s b
  · exact b

theorem event_bounded {s u : State} (h : Event s u) (b : Bounded 4 s) : Bounded 4 u := by
  cases h with
  | tick => exact tick_bounded s b
  | day => exact dayWork_bounded _ (dayTick_bounded s b)
  | minute => exact minuteWork_bounded _ (minuteTick_bounded s b)
  | frame u h => exact received_bounded h b
  | frameEnd =>
    exact ⟨⟨b.rpt.forward, b.rpt.replies, b.rpt.crcErrors, b.rpt.formatErrors, b.rpt.overflows⟩, b.siu,
      b.phe, b.elu, b.mdu, b.mgr⟩
  | streamLost r => exact streamLost_bounded r s b
  | switchSilent f => exact (stateSupervisionExpired_work f s).bounded b
  | echoMissing f _ => exact (echoExpired_work f s).bounded b
  | orderFailed f _ => exact (confirmExpired_work f s).bounded b
  | deadTimer f _ _ => exact (deadExpired_work f s).bounded b
  | reclaimTimer f _ => exact (reclaimExpired_work f s).bounded b
  | huntLimit => exact (abortHunt_work _ _).bounded ⟨b.rpt, b.siu, b.phe, b.elu, b.mdu, b.mgr⟩
  | request q rest c content v hq room h => exact request_bounded hq room h b

/-! ## The end of an event -/

theorem lowestPriority_mem (l : List Notice) (h : lowestPriority l < 8) :
    ∃ n ∈ l, n.body.priority = lowestPriority l := by
  induction l with
  | nil => exact absurd h (by decide)
  | cons n ns ih =>
    unfold lowestPriority at h ⊢
    by_cases low : n.body.priority ≤ lowestPriority ns
    · exact ⟨n, List.mem_cons_self, (min_eq_left low).symm⟩
    · obtain ⟨m, hm, e⟩ := ih (by omega)
      exact ⟨m, List.mem_cons_of_mem _ hm, by omega⟩

/-- A notice that leaves for a more urgent one makes room for it (R189). -/
theorem dropYoungest_length (l : List Notice) (h : lowestPriority l < 8) :
    (dropYoungest (lowestPriority l) l).length = l.length - 1 := by
  obtain ⟨n, hn, e⟩ := lowestPriority_mem l h
  unfold dropYoungest
  rw [List.length_reverse, List.length_eraseP_of_mem (List.mem_reverse.mpr hn) (by simpa using e),
    List.length_reverse]

theorem joinQueue_bounded (m : Mgr) (n : Notice) (b : MgrBounded m) : MgrBounded (joinQueue m n) := by
  unfold joinQueue
  split
  · next room => exact ⟨b.fifo, by simpa using room, b.overflow, b.dropped⟩
  · split
    · next full lower =>
      have length := dropYoungest_length m.notices (lt_of_lt_of_le lower (priority_le n))
      have held := b.notices
      exact ⟨b.fifo, by simp [length]; omega, b.overflow, countUp_le _⟩
    · exact ⟨b.fifo, b.notices, b.overflow, countUp_le _⟩

theorem flushNotices_bounded (s : State) (b : Bounded w s) : Bounded w (flushNotices s) := by
  have joined (l : List Notice) (m : Mgr) (h : MgrBounded m) : MgrBounded (l.foldl joinQueue m) := by
    induction l generalizing m with
    | nil => exact h
    | cons n l ih => exact ih _ (joinQueue_bounded m n h)
  exact ⟨b.rpt, b.siu, b.phe, b.elu, b.mdu, joined _ _ b.mgr⟩

theorem startOrder_bounded (f : Slot) (s : State) (b : Bounded w s) : Bounded w (startOrder f s) := by
  have started := (orderStarted_work f s).bounded b
  exact ⟨⟨started.rpt.forward, started.rpt.replies, started.rpt.crcErrors, started.rpt.formatErrors,
    started.rpt.overflows⟩, started.siu, started.phe, started.elu, started.mdu, started.mgr⟩

theorem chooseOwn_bounded (s : State) (b : Bounded w s) : Bounded w (chooseOwn s) := by
  unfold chooseOwn
  split
  · next r rest held =>
    have replies := b.rpt.replies
    rw [held, List.length_cons] at replies
    exact ⟨⟨b.rpt.forward, Nat.le_of_succ_le replies, b.rpt.crcErrors, b.rpt.formatErrors, b.rpt.overflows⟩,
      b.siu, b.phe, b.elu, b.mdu, b.mgr⟩
  · split
    · exact ⟨⟨b.rpt.forward, b.rpt.replies, b.rpt.crcErrors, b.rpt.formatErrors, b.rpt.overflows⟩, b.siu,
        b.phe, b.elu, b.mdu, ⟨b.mgr.fifo, (List.length_erase_le ..).trans b.mgr.notices, b.mgr.overflow,
          b.mgr.dropped⟩⟩
    · exact b

theorem chooseForward_bounded (s : State) (b : Bounded w s) : Bounded w (chooseForward s) := by
  unfold chooseForward
  split
  · next bs rest held =>
    have forward := b.rpt.forward
    rw [held, List.length_cons] at forward
    exact ⟨⟨Nat.le_of_succ_le forward, b.rpt.replies, b.rpt.crcErrors, b.rpt.formatErrors, b.rpt.overflows⟩,
      b.siu, b.phe, b.elu, b.mdu, b.mgr⟩
  · split
    · exact chooseOwn_bounded s b
    · exact b

theorem arbitrate_bounded (s : State) (b : Bounded w s) : Bounded w (arbitrate s) := by
  unfold arbitrate chooseFrame
  split
  · split
    · split
      · exact startOrder_bounded _ s b
      · exact chooseForward_bounded s b
    · exact chooseForward_bounded s b
  · exact b

theorem finish_bounded (s : State) (b : Bounded w s) : Bounded w (finish s) :=
  arbitrate_bounded _ (flushNotices_bounded s b)

/-! ## The obligation -/

theorem powerOn_boundsKept (straps : RingAddr) : BoundsKept (State.powerOn straps) := by
  refine (boundsKept_iff _).mpr ⟨⟨⟨?_, ?_, ?_, ?_, ?_⟩, ⟨?_, fun r => ?_⟩, fun r => ?_, fun f => ?_,
    ⟨?_, ?_, ?_, .nil⟩, ⟨?_, ?_, ?_, ?_⟩⟩, rfl⟩
  case refine_7 => simp [State.powerOn, Siu.powerOn, StreamRecord.bounded, StreamRecord.powerOn]
  case refine_8 => simp [State.powerOn, Phe.powerOn, PheStream.empty]
  case refine_9 =>
    simp [State.powerOn, Elu.powerOn, ElementState.bounded, ElementState.cleared, InverseState.cleared]
  case refine_11 => exact Nat.zero_lt_succ _
  all_goals exact Nat.zero_le _

/-- Settles O5: the bounds hold at power-on, every event keeps them while its notices gather, and its end takes
the notices into the queue within its capacity. -/
theorem boundsAreKept : Obligations.BoundsAreKept := by
  intro s t
  refine step_keeps (P := BoundsKept) (fun s p h => h) powerOn_boundsKept (fun s u kept event => ?_) s t
  obtain ⟨bounded, -⟩ := (boundsKept_iff s).mp kept
  exact (boundsKept_iff _).mpr ⟨finish_bounded u (event_bounded event bounded), (finish_work u).raised⟩

end Sys2Proof.Machine
end

section
/-! PROOFS. The laws of the order and sequencer records (R81, R87, R100, R120) and of the block reasons (R103),
which every operation of RCS, ORU and EFS keeps: one lemma for each operation, and the obligation on the coherence
of the records. -/

namespace Sys2Proof.Machine

/-! ## What every operation keeps -/

/-- A sequencer that no sequence holds: in READY or LOCKOUT (R120). -/
def SeqRecord.resting (q : SeqRecord) : Prop := q.state = .ready ∨ q.state = .lockout

/-- The position of feeder `f` is the one derived from the reported position and the order record (R81). -/
def PositionDerived (s : State) (f : Slot) : Prop :=
  (s.switch f).position = derivePosition (s.switch f).reported (s.order f)

/-- What the owner of a block reason says of feeder `f`: the district mode of FIRE, the switch record of TAG, LOCAL
and SWITCH, the stream of STREAM (R16, R83, R86, R161). HUNT, EARTH and OPERATOR follow no other block. -/
def ownerSays (s : State) (f : Slot) : Reason → Bool
  | .fire => s.feederMode f == .ban
  | .tag => (s.switch f).tag
  | .local => (s.switch f).loc
  | .stream => !(s.stream f.role).state.delivers
  | .switch => (s.switch f).health != .reachable
  | .hunt => false
  | .earth => false
  | .operator => false

/-- The records keep their coherence, a sequencer that does not act its rest, a position its derivation; and but
for the reasons that are free, the block-reason sets are as they were, and so is what their owners say. -/
structure RecordsKept (free : Reason → Prop) (s t : State) : Prop where
  seqs : ∀ f, (s.seq f).coherent → (t.seq f).coherent
  orders : ∀ f, (s.order f).coherent → (t.order f).coherent
  resting : ∀ f, s.acting f = false → (s.seq f).resting → (t.seq f).resting
  position : ∀ f, PositionDerived s f → PositionDerived t f
  acting : ∀ f, t.acting f = s.acting f
  reasons : ∀ f r, ¬ free r → t.holds f r = s.holds f r
  owners : ∀ f r, ¬ free r → ownerSays t f r = ownerSays s f r

/-- The block reasons that EFS gives and takes (R103). -/
def earthReason (r : Reason) : Prop := r = .hunt ∨ r = .earth

section
variable {free : Reason → Prop}

namespace RecordsKept

theorem refl (s : State) : RecordsKept free s s :=
  ⟨fun _ => id, fun _ => id, fun _ _ => id, fun _ => id, fun _ => rfl, fun _ _ _ => rfl, fun _ _ _ => rfl⟩

theorem trans {s t u : State} (a : RecordsKept free s t) (b : RecordsKept free t u) :
    RecordsKept free s u :=
  ⟨fun f h => b.seqs f (a.seqs f h), fun f h => b.orders f (a.orders f h),
    fun f n h => b.resting f ((a.acting f).trans n) (a.resting f n h),
    fun f h => b.position f (a.position f h), fun f => (b.acting f).trans (a.acting f),
    fun f r h => (b.reasons f r h).trans (a.reasons f r h),
    fun f r h => (b.owners f r h).trans (a.owners f r h)⟩

theorem mono {less more : Reason → Prop} {s t : State} (a : RecordsKept less s t)
    (h : ∀ r, less r → more r) : RecordsKept more s t :=
  ⟨a.seqs, a.orders, a.resting, a.position, a.acting, fun f r n => a.reasons f r (mt (h r) n),
    fun f r n => a.owners f r (mt (h r) n)⟩

theorem ite {c : Prop} [Decidable c] {s t u : State} (a : RecordsKept free s t)
    (b : RecordsKept free s u) : RecordsKept free s (if c then t else u) := by
  split <;> assumption

theorem foldl {α : Type} {g : State → α → State} (h : ∀ s a, RecordsKept free s (g s a)) (l : List α)
    (s : State) : RecordsKept free s (l.foldl g s) := by
  induction l generalizing s with
  | nil => exact refl s
  | cons a l ih => exact (h s a).trans (ih _)

theorem forSlots {g : Slot → State → State} (h : ∀ f s, RecordsKept free s (g f s)) (s : State) :
    RecordsKept free s (Machine.forSlots g s) := foldl (fun s f => h f s) _ s

/-- What changes neither ORU, RCS, who acts nor what the owners of the reasons say. -/
theorem of_same {s t : State} (oru : t.oru = s.oru) (rcs : t.rcs = s.rcs)
    (acting : ∀ f, t.acting f = s.acting f)
    (owners : ∀ f r, ¬ free r → ownerSays t f r = ownerSays s f r) : RecordsKept free s t := by
  have seq (f : Slot) : t.seq f = s.seq f := by unfold State.seq; rw [rcs]
  have order (f : Slot) : t.order f = s.order f := by unfold State.order; rw [oru]
  have switch (f : Slot) : t.switch f = s.switch f := by unfold State.switch; rw [oru]
  refine ⟨fun f => ?_, fun f => ?_, fun f _ => ?_, fun f => ?_, acting, fun f r _ => ?_, owners⟩
  · rw [seq]; exact id
  · rw [order]; exact id
  · rw [seq]; exact id
  · unfold PositionDerived; rw [switch, order]; exact id
  · rw [State.holds, seq, State.holds]

theorem setEfs (x : EfsRecord) (s : State) : RecordsKept free s (s.setEfs x) :=
  of_same rfl rfl (fun _ => rfl) fun _ _ _ => rfl

theorem setHunt (x : HuntRecord) (s : State) : RecordsKept free s (s.setHunt x) :=
  of_same rfl rfl (fun _ => rfl) fun _ _ _ => rfl

theorem raise (o : Option Slot) (n : Option SampleNo) (b : NoticeBody) (s : State) :
    RecordsKept free s (Machine.raise o n b s) := of_same rfl rfl (fun _ => rfl) fun _ _ _ => rfl

/-- A new sequencer record of one feeder. -/
theorem setSeq {f : Slot} {x : SeqRecord} {s : State} (coherent : (s.seq f).coherent → x.coherent)
    (resting : s.acting f = false → (s.seq f).resting → x.resting)
    (reasons : ∀ r, ¬ free r → x.reasons.has r = (s.seq f).reasons.has r) :
    RecordsKept free s (s.setSeq f x) := by
  refine ⟨fun g h => ?_, fun _ => id, fun g n h => ?_, fun _ => id, fun _ => rfl, fun g r h => ?_,
    fun _ _ _ => rfl⟩
  · by_cases e : f = g
    · subst e; simpa using coherent h
    · simpa [e] using h
  · by_cases e : f = g
    · subst e; simpa using resting n h
    · simpa [e] using h
  · by_cases e : f = g
    · subst e; simpa [State.holds] using reasons r h
    · simp [State.holds, e]

/-- A new sequencer record with the block reasons it had. -/
theorem setSeq_sameReasons {f : Slot} {x : SeqRecord} {s : State}
    (coherent : (s.seq f).coherent → x.coherent)
    (resting : s.acting f = false → (s.seq f).resting → x.resting)
    (reasons : x.reasons = (s.seq f).reasons) : RecordsKept free s (s.setSeq f x) :=
  setSeq coherent resting fun _ _ => by rw [reasons]

/-- An order record that leaves the position's derivation as it was. -/
theorem setOrder {f : Slot} {x : OrderRecord} {s : State}
    (coherent : (s.order f).coherent → x.coherent) (state : x.state = (s.order f).state)
    (kind : x.kind = (s.order f).kind) : RecordsKept free s (s.setOrder f x) := by
  have derived (p : Option Reported) : derivePosition p x = derivePosition p (s.order f) := by
    unfold derivePosition
    rw [state, kind]
  refine ⟨fun _ => id, fun g h => ?_, fun _ _ => id, fun g h => ?_, fun _ => rfl, fun _ _ _ => rfl,
    fun _ _ _ => rfl⟩
  · by_cases e : f = g
    · subst e; simpa using coherent h
    · simpa [e] using h
  · by_cases e : f = g
    · subst e; simpa [PositionDerived, derived] using h
    · simpa [PositionDerived, e] using h

end RecordsKept

/-! ## RCS -/

theorem lockedOut_coherent (c : LockoutCause) (q : SeqRecord) : (lockedOut c q).coherent := by
  simp [SeqRecord.coherent]

theorem enterLockout_kept (c : LockoutCause) (f : Slot) (s : State) :
    RecordsKept free s (enterLockout c f s) := by
  unfold enterLockout
  refine .ite (.refl s) (RecordsKept.trans ?_ (.raise _ _ _ _))
  exact .setSeq_sameReasons (fun _ => lockedOut_coherent c _) (fun _ _ => .inr rfl) rfl

theorem setReason_kept {r : Reason} (h : free r) (b : Bool) (f : Slot) (s : State) :
    RecordsKept free s (s.setSeq f { s.seq f with reasons := (s.seq f).reasons.put b r }) := by
  refine .setSeq id (fun _ => id) fun q hq => ?_
  rw [ReasonSet.has_put, if_neg]
  rintro rfl
  exact hq h

theorem addReason_kept {r : Reason} (h : free r) (f : Slot) (s : State) :
    RecordsKept free s (addReason r f s) :=
  .ite (.refl s) (.ite ((setReason_kept h true f s).trans (enterLockout_kept _ _ _))
    (setReason_kept h true f s))

theorem removeReason_kept {r : Reason} (h : free r) (f : Slot) (s : State) :
    RecordsKept free s (removeReason r f s) := setReason_kept h false f s

theorem alignReason_kept {r : Reason} (h : free r) (b : Bool) (f : Slot) (s : State) :
    RecordsKept free s (alignReason r b f s) :=
  .ite (addReason_kept h f s) (removeReason_kept h f s)

theorem demandLockout_kept (f : Slot) (s : State) : RecordsKept free s (demandLockout f s) :=
  .ite (enterLockout_kept _ _ _) (.refl s)

/-- R107 is taken while the feeder acts, in a state in which neither the dead timer nor a lockout cause
stands. -/
theorem decideTrip_kept (i : Bool) (f : Slot) (s : State) (acts : s.acting f = true)
    (dead : (s.seq f).state ≠ .dead) (lockout : (s.seq f).state ≠ .lockout) :
    RecordsKept free s (decideTrip i f s) := by
  unfold decideTrip
  refine .ite (.setSeq_sameReasons (fun c => ?_) (fun n => ?_) rfl) (enterLockout_kept _ _ _)
  · simp [SeqRecord.coherent, c.1 dead, c.2.2.2.2.1 lockout]
  · rw [acts] at n; cases n

theorem tripReport_kept (i : Bool) (f : Slot) (s : State) : RecordsKept free s (tripReport i f s) := by
  unfold tripReport
  dsimp only
  split
  · next acts =>
    split
    · next h => exact decideTrip_kept i f s acts (by simp [h]) (by simp [h])
    · next h => exact decideTrip_kept i f s acts (by simp [h]) (by simp [h])
    · next h => exact decideTrip_kept i f s acts (by simp [h]) (by simp [h])
    · next h =>
      refine .ite (.setSeq_sameReasons (fun c => ?_) (fun _ => id) rfl) (.refl s)
      simpa [SeqRecord.coherent, h] using c
    · exact enterLockout_kept _ _ _
    · exact .refl s
  · exact .refl s

theorem openConfirmed_kept (f : Slot) (s : State) (acts : s.acting f = true)
    (h : (s.seq f).state = .opening) : RecordsKept free s (openConfirmed f s) := by
  unfold openConfirmed
  dsimp only
  split
  · exact enterLockout_kept _ _ _
  · next none =>
    refine .ite (enterLockout_kept _ _ _) (.ite (enterLockout_kept _ _ _)
      (.setSeq_sameReasons (fun c => ?_) (fun n => ?_) rfl))
    · simp only [SeqRecord.coherent, h] at c
      simp [SeqRecord.coherent, c, not_not.mp none]
    · rw [acts] at n; cases n

theorem closeConfirmed_kept (n : OrderNo) (f : Slot) (s : State) (acts : s.acting f = true)
    (h : (s.seq f).state = .closing) : RecordsKept free s (closeConfirmed n f s) := by
  unfold closeConfirmed
  refine RecordsKept.trans ?_ (.raise _ _ _ _)
  refine .setSeq_sameReasons (fun c => ?_) (fun n => ?_) rfl
  · simp only [SeqRecord.coherent, h] at c
    simp [SeqRecord.coherent, c]
  · rw [acts] at n; cases n

/-- A sequencer that leaves LOCKOUT for READY. -/
theorem readied_coherent {q : SeqRecord} (h : q.state = .lockout) (c : q.coherent) :
    SeqRecord.coherent { q with state := .ready, shot := 0, lockoutCause := .none } := by
  simp only [SeqRecord.coherent, h] at c
  simp [SeqRecord.coherent, c]

theorem leaveLockout_kept (f : Slot) (s : State) (h : (s.seq f).state = .lockout) :
    RecordsKept free s (leaveLockout f s) := by
  unfold leaveLockout
  exact .ite (.setSeq_sameReasons (readied_coherent h) (fun _ _ => .inl rfl) rfl) (.refl s)

theorem rcsConfirmed_kept (p : OrderReport) (s : State) (acts : s.acting p.slot = true) :
    RecordsKept free s (rcsConfirmed p s) := by
  unfold rcsConfirmed
  dsimp only
  split
  · next h => exact .ite (openConfirmed_kept _ _ acts h) (.refl s)
  · exact .ite (.refl s) (enterLockout_kept _ _ _)
  · exact .ite (.refl s) (enterLockout_kept _ _ _)
  · exact .ite (.refl s) (enterLockout_kept _ _ _)
  · next h =>
    split
    · exact .ite (closeConfirmed_kept _ _ _ acts h) (.refl s)
    · exact .refl s
  · next h => exact .ite (leaveLockout_kept _ _ h) (.refl s)
  · exact .refl s

theorem rcsFailed_kept (p : OrderReport) (s : State) : RecordsKept free s (rcsFailed p s) := by
  unfold rcsFailed
  dsimp only
  split
  · exact .ite (enterLockout_kept _ _ _) (.refl s)
  · exact .ite (enterLockout_kept _ _ _) (.refl s)
  · exact .ite (enterLockout_kept _ _ _) (.refl s)
  · exact .refl s

theorem rcsOperator_kept (p : OrderReport) (s : State) : RecordsKept free s (rcsOperator p s) := by
  unfold rcsOperator
  split
  · exact enterLockout_kept _ _ _
  · exact .ite (enterLockout_kept _ _ _) (.refl s)

theorem rcsReport_kept (p : OrderReport) (s : State) : RecordsKept free s (rcsReport p s) := by
  unfold rcsReport
  split
  · next acts =>
    split
    · exact .ite (rcsOperator_kept _ _) (.refl s)
    · exact .ite (rcsOperator_kept _ _) (.refl s)
    · exact .refl s
    · exact .refl s
    · exact .ite (enterLockout_kept _ _ _) (.refl s)
    · exact rcsConfirmed_kept p s acts
    · exact rcsFailed_kept p s
  · exact .refl s

theorem rcsPosition_kept (p : PositionReport) (f : Slot) (s : State) :
    RecordsKept free s (rcsPosition p f s) := by
  unfold rcsPosition
  refine .ite ?_ (.refl s)
  split
  · exact enterLockout_kept _ _ _
  · exact enterLockout_kept _ _ _
  · next h => exact leaveLockout_kept _ _ h
  · exact .refl s

theorem groupNotify_kept (f : Slot) (s : State) : RecordsKept free s (groupNotify f s) :=
  .ite (enterLockout_kept _ _ _) (.refl s)

theorem reclaimEnded_coherent {q : SeqRecord} (h : q.state = .reclaim) (c : q.coherent) :
    SeqRecord.coherent { q with state := .ready, shot := 0, reclaim := none } := by
  simp only [SeqRecord.coherent, h] at c
  simp [SeqRecord.coherent, c]

theorem reclaimExpired_kept (f : Slot) (s : State) (h : (s.seq f).state = .reclaim) :
    RecordsKept free s (reclaimExpired f s) :=
  .setSeq_sameReasons (reclaimEnded_coherent h) (fun _ _ => .inl rfl) rfl

theorem leaveSequencer_kept (f : Slot) (s : State) : RecordsKept free s (leaveSequencer f s) := by
  unfold leaveSequencer
  dsimp only
  split
  · exact enterLockout_kept _ _ _
  · exact enterLockout_kept _ _ _
  · exact enterLockout_kept _ _ _
  · next h => exact .setSeq_sameReasons (reclaimEnded_coherent h) (fun _ _ => .inl rfl) rfl
  · exact .refl s
  · exact .refl s

theorem restartSequencer_kept (f : Slot) (s : State) : RecordsKept free s (restartSequencer f s) := by
  have anew : SeqRecord.coherent { SeqRecord.powerOn with reasons := (s.seq f).reasons } := by
    simp [SeqRecord.coherent, SeqRecord.powerOn]
  unfold restartSequencer
  dsimp only
  split
  · exact enterLockout_kept _ _ _
  · exact enterLockout_kept _ _ _
  · exact enterLockout_kept _ _ _
  · next h =>
    refine .setSeq_sameReasons (fun c => ?_) (fun _ => id) rfl
    simp only [SeqRecord.coherent, h] at c
    simp [SeqRecord.coherent, h]
  · exact .setSeq_sameReasons (fun _ => anew) (fun _ _ => .inl rfl) rfl
  · exact .setSeq_sameReasons (fun _ => anew) (fun _ _ => .inl rfl) rfl

theorem resetLockout_kept (h : free .earth) (f : Slot) (s : State) :
    RecordsKept free s (resetLockout f s) := by
  unfold resetLockout
  dsimp only
  have removed := removeReason_kept h f s
  split
  · next c =>
    exact removed.trans (.setSeq_sameReasons (readied_coherent c.1) (fun _ _ => .inl rfl) rfl)
  · exact removed

/-! ## ORU -/

/-- A switch record with the report, the marks and, unless SWITCH is free, the health it had, and with a position
that is derived where it was. -/
theorem setSwitch_kept {f : Slot} {w : SwitchRecord} {s : State}
    (position : PositionDerived s f → w.position = derivePosition w.reported (s.order f))
    (tag : w.tag = (s.switch f).tag) (loc : w.loc = (s.switch f).loc)
    (health : ¬ free .switch → w.health = (s.switch f).health) : RecordsKept free s (s.setSwitch f w) := by
  refine ⟨fun _ => id, fun _ => id, fun _ _ => id, fun g h => ?_, fun _ => rfl, fun _ _ _ => rfl,
    fun g r h => ?_⟩
  · by_cases e : f = g
    · subst e; simpa [PositionDerived] using position h
    · simpa [PositionDerived, e] using h
  · by_cases e : f = g
    · subst e
      cases r with
      | tag => simpa [ownerSays] using tag
      | switch => simp [ownerSays, health h]
      | fire | stream | hunt | earth | operator => rfl
      | _ => simpa [ownerSays] using loc
    · cases r <;> simp [ownerSays, e]

theorem refreshPosition_kept (f : Slot) (s : State) : RecordsKept free s (refreshPosition f s) :=
  setSwitch_kept (fun _ => rfl) rfl rfl fun _ => rfl

theorem refreshPosition_derived (f : Slot) (s : State) : PositionDerived (refreshPosition f s) f := by
  simp [PositionDerived, refreshPosition]

/-- A new order record, with the position derived from it. -/
theorem putOrder_kept {f : Slot} {o : OrderRecord} {s : State}
    (coherent : (s.order f).coherent → o.coherent) : RecordsKept free s (putOrder f o s) := by
  have refreshed : RecordsKept free _ _ := refreshPosition_kept f (s.setOrder f o)
  refine ⟨fun _ => id, fun g h => refreshed.orders g ?_, fun _ _ => id, fun g h => ?_, fun _ => rfl,
    fun _ _ _ => rfl, fun g r h => refreshed.owners g r h⟩
  · by_cases e : f = g
    · subst e; simpa using coherent h
    · simpa [e] using h
  · by_cases e : f = g
    · subst e; exact refreshPosition_derived f _
    · exact refreshed.position g (by simpa [PositionDerived, e] using h)

theorem idled_coherent (o : OrderRecord) : o.idled.coherent := by
  simp [OrderRecord.coherent, OrderRecord.idled]

theorem enterRequested_kept (k : OrderKind) (who : Origin) (f : Slot) (s : State) :
    RecordsKept free s (enterRequested k who f s) :=
  putOrder_kept fun _ => by simp [OrderRecord.coherent]

theorem askRecord_kept (k : OrderKind) (who : Origin) (f : Slot) (s : State) :
    RecordsKept free s (askRecord k who f s).state := by
  unfold askRecord
  dsimp only
  split
  · split
    · exact enterRequested_kept _ _ _ _
    · split
      · exact enterRequested_kept _ _ _ _
      · exact .setOrder id rfl rfl
  · split
    · exact .refl s
    · split
      · exact .refl s
      · exact enterRequested_kept _ _ _ _

theorem askOrder_kept (k : OrderKind) (who : Origin) (f : Slot) (s : State) :
    RecordsKept free s (askOrder k who f s).state := by
  unfold askOrder
  split
  · exact .refl s
  · split
    · cases k
      · exact .raise _ _ _ s
      · exact .refl s
    · split
      · exact .refl s
      · split
        · exact .refl s
        · exact askRecord_kept k who f s

theorem orderStarted_kept (f : Slot) (s : State) : RecordsKept free s (orderStarted f s) :=
  putOrder_kept fun _ => by simp [OrderRecord.coherent]

theorem withdrawOrder_kept (f : Slot) (s : State) : RecordsKept free s (withdrawOrder f s) :=
  putOrder_kept fun _ => idled_coherent _

theorem orderEcho_kept (f : Slot) (n : OrderNo) (s : State) : RecordsKept free s (orderEcho f n s) := by
  unfold orderEcho
  dsimp only
  split
  · refine .setOrder (fun c => ?_) rfl rfl
    next h => simpa [OrderRecord.coherent, h.1] using c
  · exact .refl s

theorem echoExpired_kept (f : Slot) (s : State) (h : (s.order f).state = .sent) :
    RecordsKept free s (echoExpired f s) := by
  have stopped : RecordsKept free s (s.setOrder f { s.order f with echoWatch := none }) := by
    refine .setOrder (fun c => ?_) rfl rfl
    simpa [OrderRecord.coherent, h] using c
  exact ⟨stopped.seqs, stopped.orders, stopped.resting, stopped.position, stopped.acting, stopped.reasons,
    stopped.owners⟩

theorem setHealth_kept (hf : free .switch) (h : Health) (f : Slot) (s : State) :
    RecordsKept free s (setHealth h f s) := by
  have changed : RecordsKept free s (s.setSwitch f { s.switch f with health := h }) :=
    setSwitch_kept id rfl rfl (absurd hf)
  exact changed.trans (alignReason_kept hf _ _ _)

theorem stateSupervisionExpired_kept (hf : free .switch) (f : Slot) (s : State) :
    RecordsKept free s (stateSupervisionExpired f s) := by
  have stopped : RecordsKept free s (s.setSwitch f { s.switch f with supervision := none }) :=
    setSwitch_kept id rfl rfl fun _ => rfl
  unfold stateSupervisionExpired
  exact .ite (stopped.trans (setHealth_kept hf _ _ _)) stopped

theorem countFailure_kept (hf : free .switch) (f : Slot) (s : State) :
    RecordsKept free s (countFailure f s) := by
  have counted : RecordsKept free s
      (s.setSwitch f { s.switch f with failCount := min 8 ((s.switch f).failCount + 1) }) :=
    setSwitch_kept id rfl rfl fun _ => rfl
  unfold countFailure
  exact .ite (counted.trans (setHealth_kept hf _ _ _)) counted

theorem resetSwitch_kept (hf : free .switch) (f : Slot) (s : State) :
    RecordsKept free s (resetSwitch f s) := by
  have cleared : RecordsKept free s (s.setSwitch f { s.switch f with failCount := 0 }) :=
    setSwitch_kept id rfl rfl fun _ => rfl
  unfold resetSwitch
  exact .ite (cleared.trans (setHealth_kept hf _ _ _)) cleared

theorem activateSwitch_kept (hf : free .switch) (f : Slot) (s : State) :
    RecordsKept free s (activateSwitch f s) := by
  unfold activateSwitch activatedSwitch
  split <;> exact setSwitch_kept id rfl rfl (absurd hf)

theorem orderFailed_kept (hf : free .switch) (f : Slot) (s : State) :
    RecordsKept free s (orderFailed f s) :=
  ((putOrder_kept fun _ => idled_coherent _).trans (countFailure_kept hf _ _)).trans (.raise _ _ _ _)

end

/-! ## EFS -/

theorem efsAsk_kept (k : OrderKind) (f : Slot) (s : State) : RecordsKept earthReason s (efsAsk k f s).2 :=
  (askOrder_kept k .earth f s).trans (.foldl (fun t p => rcsReport_kept p t) _ _)

theorem addEarth_kept (f : Slot) (s : State) : RecordsKept earthReason s (addReason .earth f s) :=
  addReason_kept (.inr rfl) f s

theorem removeHunt_kept (f : Slot) (s : State) : RecordsKept earthReason s (removeReason .hunt f s) :=
  removeReason_kept (.inl rfl) f s

theorem writeOutcome_kept (o : EarthOutcome) (g : Option Slot) (s : State) :
    RecordsKept earthReason s (writeOutcome o g s) := .of_same rfl rfl (fun _ => rfl) fun _ _ _ => rfl

theorem enterState_kept (x : EfsState) (s : State) : RecordsKept earthReason s (enterState x s) :=
  .setEfs _ s

theorem endEpisode_kept (o : EarthOutcome) (g : Option Slot) (s : State) :
    RecordsKept earthReason s (endEpisode o g s) :=
  (enterState_kept _ s).trans (writeOutcome_kept _ _ _)

theorem busTripFeeder_kept (a : State × SlotSet) (f : Slot) :
    RecordsKept earthReason a.1 (busTripFeeder a f).1 := by
  have h := (addEarth_kept f a.1).trans (efsAsk_kept .open f _)
  unfold busTripFeeder
  dsimp only
  split
  · split
    · exact h.trans (.setEfs _ _)
    · exact h.trans (.setEfs _ _)
    · exact h
  · exact .refl _

theorem busTrip_kept (s : State) : RecordsKept earthReason s (busTrip s) := by
  have feeders (l : List Slot) (a : State × SlotSet) :
      RecordsKept earthReason a.1 (l.foldl busTripFeeder a).1 := by
    induction l generalizing a with
    | nil => exact .refl _
    | cons f l ih => exact (busTripFeeder_kept a f).trans (ih _)
  exact ((feeders allSlots (s, SlotSet.empty)).trans (.raise _ _ _ _)).trans (enterState_kept _ _)

theorem clearStep_kept (s : State) : RecordsKept earthReason s (clearStep s) := .setHunt _ s

theorem nextIndex_kept (s : State) : RecordsKept earthReason s (nextIndex s) := .setHunt _ s

theorem huntExhausted_kept (s : State) : RecordsKept earthReason s (huntExhausted s) := by
  have h := (enterState_kept .persistent s).trans (writeOutcome_kept .persistent none _)
  unfold huntExhausted
  dsimp only
  split
  · exact h.trans (busTrip_kept _)
  · exact h

theorem beginStep_kept (f : Slot) (s : State) : RecordsKept earthReason s (beginStep f s) :=
  (RecordsKept.trans (.setHunt _ s) (addReason_kept (.inl rfl) _ _)).trans (.raise _ _ _ _)

theorem startSteps_kept (n : Nat) (s : State) : RecordsKept earthReason s (startSteps n s) := by
  induction n generalizing s with
  | zero => exact .refl s
  | succ n ih =>
    unfold startSteps
    split
    · exact huntExhausted_kept s
    · next f _ =>
      have h := (beginStep_kept f s).trans (efsAsk_kept .open f _)
      split
      · exact (RecordsKept.trans (.raise _ _ _ s) (nextIndex_kept _)).trans (ih _)
      · dsimp only
        split
        · exact h.trans (.setHunt _ _)
        · exact h.trans (.setHunt _ _)
        · exact (((h.trans (removeHunt_kept _ _)).trans (clearStep_kept _)).trans
            (nextIndex_kept _)).trans (ih _)

theorem endStep_kept (f : Slot) (s : State) : RecordsKept earthReason s (endStep f s) :=
  (((removeHunt_kept _ s).trans (clearStep_kept _)).trans (nextIndex_kept _)).trans
    (startSteps_kept _ _)

theorem startHunt_kept (o : HuntOrigin) (s : State) : RecordsKept earthReason s (startHunt o s) := by
  unfold startHunt startStep
  dsimp only
  refine RecordsKept.trans ?_ (startSteps_kept _ _)
  exact .of_same rfl rfl (fun _ => rfl) fun _ _ _ => rfl

theorem decide131_kept (s : State) : RecordsKept earthReason s (decide131 s) :=
  .ite (busTrip_kept s) (.ite (startHunt_kept _ s) (enterState_kept _ s))

theorem abortEnd_kept (s : State) : RecordsKept earthReason s (abortEnd s) := by
  have h := (writeOutcome_kept .aborted s.efs.hunt.underTest s).trans (clearStep_kept _)
  unfold abortEnd
  dsimp only
  refine .ite (h.trans (busTrip_kept _)) (.ite (h.trans (enterState_kept _ _))
    (.ite (h.trans (busTrip_kept _)) (.ite ?_ (h.trans (enterState_kept _ _)))))
  exact (h.trans (enterState_kept _ _)).trans (.setEfs _ _)

theorem restoreFailed_kept (f : Slot) (s : State) : RecordsKept earthReason s (restoreFailed f s) :=
  .ite ((demandLockout_kept f s).trans (endStep_kept _ _))
    (((demandLockout_kept f s).trans (removeHunt_kept _ _)).trans (abortEnd_kept _))

theorem askRestore_kept (f : Slot) (s : State) : RecordsKept earthReason s (askRestore f s) := by
  unfold askRestore
  dsimp only
  have h := RecordsKept.trans (.setHunt
    { s.efs.hunt with step := some .restoring, countdown := none, order := none } s)
      (efsAsk_kept .close f _)
  split
  · exact h.trans (.setHunt _ _)
  · exact h.trans (.setHunt _ _)
  · exact h.trans (restoreFailed_kept _ _)

theorem abortRestore_kept (s : State) : RecordsKept earthReason s (abortRestore s) := by
  unfold abortRestore
  split
  · exact .refl s
  · exact askRestore_kept _ s
  · exact .refl s
  · exact (removeHunt_kept _ s).trans (abortEnd_kept _)
  · exact abortEnd_kept s

theorem abortUnderBan_kept (s : State) : RecordsKept earthReason s (abortUnderBan s) := by
  unfold abortUnderBan
  dsimp only
  refine RecordsKept.trans ?_ (.trans (.setHunt _ _) (abortEnd_kept _))
  split
  · exact ((addEarth_kept _ s).trans (demandLockout_kept _ _)).trans (removeHunt_kept _ _)
  · exact .refl s

theorem abortHunt_kept (c : AbortCause) (s : State) : RecordsKept earthReason s (abortHunt c s) :=
  .ite
    (.ite (.trans (.setHunt _ s) (abortUnderBan_kept _)) (.trans (.setHunt _ s) (abortRestore_kept _)))
    (.refl s)

theorem reopen_kept (f : Slot) (s : State) : RecordsKept earthReason s (reopen f s) :=
  .ite (efsAsk_kept _ _ s) (.refl s)

theorem displacementPersists_kept (f : Slot) (s : State) :
    RecordsKept earthReason s (displacementPersists f s) :=
  ((((addEarth_kept _ s).trans (demandLockout_kept _ _)).trans (reopen_kept _ _)).trans
    (.setEfs _ _)).trans (decide131_kept _)

theorem tripIdentified_kept (f : Slot) (s : State) : RecordsKept earthReason s (tripIdentified f s) := by
  have h : RecordsKept earthReason s
      (if (s.setEfs { s.efs.record with recloseMark := recloseMarkOf s f }).feederMode f = .normal
        then s.setEfs { s.efs.record with recloseMark := recloseMarkOf s f }
        else addReason .earth f (s.setEfs { s.efs.record with recloseMark := recloseMarkOf s f })) :=
    .ite (.setEfs _ s) (.trans (.setEfs _ s) (addEarth_kept _ _))
  unfold tripIdentified
  dsimp only
  refine .ite (h.trans (.setEfs _ _)) (RecordsKept.trans ?_ (tripReport_kept _ _ _))
  have k := h.trans (efsAsk_kept .open f _)
  split
  · exact k.trans (.setEfs _ _)
  · exact k.trans (.setEfs _ _)
  · exact k.trans (displacementPersists_kept _ _)

theorem formPair_kept (f : Slot) (a b : CycleResult) (s : State) :
    RecordsKept earthReason s (formPair f a b s) := .ite (.setEfs _ s) (.refl s)

theorem efsFeederResult_kept (f : Slot) (r : CycleResult) (s : State) :
    RecordsKept earthReason s (efsFeederResult f r s) := by
  unfold efsFeederResult
  refine .ite ?_ (.refl s)
  split
  · exact formPair_kept _ _ _ s
  · exact .refl s

theorem formBusPairs_kept (b : CycleResult) (s : State) : RecordsKept earthReason s (formBusPairs b s) := by
  unfold formBusPairs
  refine .ite (.forSlots (fun f t => ?_) s) (.refl s)
  split
  · exact formPair_kept _ _ _ t
  · exact .refl t

theorem countDown_kept (s : State) : RecordsKept earthReason s (countDown s).2 := by
  unfold countDown
  split
  · exact .refl s
  · exact .setEfs _ s

theorem stepCountDown_kept (s : State) : RecordsKept earthReason s (stepCountDown s).2 := by
  unfold stepCountDown
  split
  · exact .refl s
  · exact .setHunt _ s

theorem quietCompletion_kept (r : CycleResult) (s : State) :
    RecordsKept earthReason s (quietCompletion r s) := .ite (.of_same rfl rfl (fun _ => rfl) fun _ _ _ => rfl) (.refl s)

theorem displacedCompletion_kept (r : CycleResult) (s : State) :
    RecordsKept earthReason s (displacedCompletion r s) :=
  .ite (endEpisode_kept _ _ s)
    (.ite (((countDown_kept s).trans (.setEfs _ _)).trans (.setEfs _ _)) (countDown_kept s))

theorem windowEnd_kept (s : State) : RecordsKept earthReason s (windowEnd s) := by
  unfold windowEnd
  dsimp only
  refine RecordsKept.trans (.setEfs { s.efs.record with candidates := candidateSet s, countdown := none } s) ?_
  split
  · exact .setEfs _ _
  · exact decide131_kept _

theorem identifyingCompletion_kept (s : State) : RecordsKept earthReason s (identifyingCompletion s) :=
  .ite (endEpisode_kept _ _ s)
    (.ite ((countDown_kept s).trans (windowEnd_kept _)) (countDown_kept s))

theorem delayCompletion_kept (f : Slot) (s : State) : RecordsKept earthReason s (delayCompletion f s) :=
  .ite (endEpisode_kept _ _ s)
    (.ite (.trans (.setEfs _ s) (tripIdentified_kept _ _)) (.setEfs _ s))

theorem observingCompletion_kept (f : Slot) (s : State) :
    RecordsKept earthReason s (observingCompletion f s) :=
  .ite
    (.trans (.ite (.refl s) ((addEarth_kept _ s).trans (demandLockout_kept _ _))) (endEpisode_kept _ _ _))
    (.ite ((countDown_kept s).trans (displacementPersists_kept _ _)) (countDown_kept s))

theorem identifiedCompletion_kept (s : State) : RecordsKept earthReason s (identifiedCompletion s) := by
  unfold identifiedCompletion
  split
  · exact delayCompletion_kept _ s
  · exact observingCompletion_kept _ s
  · exact .refl s

theorem huntFound_kept (f : Slot) (s : State) : RecordsKept earthReason s (huntFound f s) :=
  ((((addEarth_kept _ s).trans (demandLockout_kept _ _)).trans (removeHunt_kept _ _)).trans
    (clearStep_kept _)).trans (endEpisode_kept _ _ _)

theorem huntingCompletion_kept (s : State) : RecordsKept earthReason s (huntingCompletion s) := by
  unfold huntingCompletion
  split
  · exact .ite (huntFound_kept _ s)
      (.ite ((stepCountDown_kept s).trans (askRestore_kept _ _)) (stepCountDown_kept s))
  · exact .ite
      (((removeHunt_kept _ s).trans (clearStep_kept _)).trans (endEpisode_kept _ _ _))
      (.ite ((stepCountDown_kept s).trans (endStep_kept _ _)) (stepCountDown_kept s))
  · exact .refl s

theorem busTripCompletion_kept (s : State) : RecordsKept earthReason s (busTripCompletion s) :=
  .ite
    (.ite (endEpisode_kept _ _ s) ((enterState_kept _ s).trans (writeOutcome_kept _ _ _)))
    (.refl s)

theorem efsBusCompletion_kept (r : CycleResult) (s : State) :
    RecordsKept earthReason s (efsBusCompletion r s) := by
  unfold efsBusCompletion
  refine .ite ?_ (.refl s)
  refine RecordsKept.trans (.trans (.setEfs _ s) (formBusPairs_kept r (refreshVn r s))) ?_
  dsimp only
  split
  · exact quietCompletion_kept r _
  · exact displacedCompletion_kept r _
  · exact identifyingCompletion_kept _
  · exact identifiedCompletion_kept _
  · exact .ite (endEpisode_kept _ _ _) (.refl _)
  · exact .ite (endEpisode_kept _ _ _) (.refl _)
  · exact .ite (huntingCompletion_kept _) (.refl _)
  · exact busTripCompletion_kept _

theorem identifiedReport_kept (p : OrderReport) (s : State) :
    RecordsKept earthReason s (identifiedReport p s) := by
  unfold identifiedReport
  split
  · exact .setEfs _ s
  · exact displacementPersists_kept _ s
  · exact .refl s

theorem stepOpenReport_kept (p : OrderReport) (s : State) :
    RecordsKept earthReason s (stepOpenReport p s) := by
  unfold stepOpenReport
  split
  · exact .ite (.setHunt _ s) (askRestore_kept _ s)
  · exact .ite (endStep_kept _ s) ((removeHunt_kept _ s).trans (abortEnd_kept _))
  · exact .refl s

theorem stepRestoreReport_kept (p : OrderReport) (s : State) :
    RecordsKept earthReason s (stepRestoreReport p s) := by
  unfold stepRestoreReport
  split
  · exact .ite (.setHunt _ s) ((removeHunt_kept _ s).trans (abortEnd_kept _))
  · exact restoreFailed_kept _ s
  · exact restoreFailed_kept _ s
  · exact restoreFailed_kept _ s
  · exact .refl s

theorem efsReport_kept (p : OrderReport) (s : State) : RecordsKept earthReason s (efsReport p s) := by
  unfold efsReport
  refine .ite ?_ (.refl s)
  split
  · exact .ite (identifiedReport_kept p s) (.refl s)
  · refine .ite ?_ (.refl s)
    split
    · exact stepOpenReport_kept p s
    · exact stepRestoreReport_kept p s
    · exact .refl s
  · exact .ite (.setEfs _ s) (.refl s)
  · exact .refl s

theorem efsBecameBan_kept (s : State) : RecordsKept earthReason s (efsBecameBan s) := by
  unfold efsBecameBan
  refine .ite ?_ (.refl s)
  split
  · exact abortHunt_kept _ s
  · exact busTrip_kept s
  · exact busTrip_kept s
  · exact .refl s

theorem efsLeaveService_kept (s : State) : RecordsKept earthReason s (efsLeaveService s) := by
  have unrestored : RecordsKept earthReason s (endHuntUnrestored s) := by
    unfold endHuntUnrestored
    dsimp only
    refine RecordsKept.trans ?_ (.setHunt _ _)
    split
    · exact RecordsKept.trans
        (.ite ((addEarth_kept _ s).trans (demandLockout_kept _ _)) (.refl s)) (removeHunt_kept _ _)
    · exact .refl s
  have h : RecordsKept earthReason s
      (if s.efs.record.state = .hunting then endHuntUnrestored s else s) := .ite unrestored (.refl s)
  unfold efsLeaveService
  dsimp only
  refine RecordsKept.trans ?_ (((clearStep_kept _).trans (enterState_kept .quiet _)).trans (.setEfs _ _))
  split
  · exact h
  · exact h.trans (writeOutcome_kept _ _ _)

theorem efsRestart_kept (s : State) : RecordsKept earthReason s (efsRestart s) :=
  .trans (.setEfs _ s) (clearStep_kept _)

/-! ## Reports and requests for orders -/

theorem deliver_kept (p : OrderReport) (s : State) : RecordsKept earthReason s (deliver p s) :=
  (rcsReport_kept p s).trans (efsReport_kept p _)

theorem ask_kept (k : OrderKind) (who : Origin) (f : Slot) (s : State) :
    RecordsKept earthReason s (ask k who f s).2 :=
  (askOrder_kept k who f s).trans (.foldl (fun t p => deliver_kept p t) _ _)

theorem orderTrip_kept (i : Bool) (f : Slot) (s : State) : RecordsKept earthReason s (orderTrip i f s) :=
  ((ask_kept .open .protection f s).trans (tripReport_kept _ _ _)).trans (abortHunt_kept _ _)

end Sys2Proof.Machine
end

section
/-! PROOFS. The obligations on the coherence of the order and sequencer records, and on the block reasons that
follow their owners: the operations of GST, ELU, SIU, MDU and MGR, and the events made of them. -/

namespace Sys2Proof.Machine

/-! ## What is done for every feeder in turn -/

theorem foldl_read {ι β γ : Type} [DecidableEq ι] {g : State → ι → State} (read : State → ι → β)
    (kept : State → γ) (h : γ → ι → β → β) (own : ∀ s i, read (g s i) i = h (kept s) i (read s i))
    (other : ∀ s i j, i ≠ j → read (g s i) j = read s j) (keeps : ∀ s i, kept (g s i) = kept s)
    (l : List ι) (nodup : l.Nodup) (s : State) (j : ι) :
    read (l.foldl g s) j = if j ∈ l then h (kept s) j (read s j) else read s j := by
  induction l generalizing s with
  | nil => simp
  | cons i l ih =>
    obtain ⟨fresh, nodup⟩ := List.nodup_cons.mp nodup
    rw [List.foldl_cons, ih nodup, keeps]
    by_cases e : j = i
    · subst e; rw [if_neg fresh, if_pos List.mem_cons_self, own]
    · rw [other s i j (Ne.symm e)]; simp [e]

/-- What an operation makes of one feeder's data, when it leaves the other feeders' alone, is what it makes of
each feeder's when it is done for every feeder. -/
theorem forSlots_read {β γ : Type} {g : Slot → State → State} (read : State → Slot → β) (kept : State → γ)
    (h : γ → Slot → β → β) (own : ∀ s f, read (g f s) f = h (kept s) f (read s f))
    (other : ∀ s f k, f ≠ k → read (g f s) k = read s k) (keeps : ∀ s f, kept (g f s) = kept s)
    (s : State) (f : Slot) : read (forSlots g s) f = h (kept s) f (read s f) := by
  have all := foldl_read (g := fun s f => g f s) read kept h own other keeps allSlots (by decide) s f
  rwa [if_pos (mem_allSlots f)] at all

/-! ## The laws, reason by reason -/

/-- The block reason is where its owner says (R83, R86, R103, R161). -/
def Follows (r : Reason) (s : State) : Prop := ∀ f, s.holds f r = ownerSays s f r

theorem reasonsFollow_iff (s : State) : ReasonsFollow s ↔
    (Follows .fire s ∧ Follows .tag s ∧ Follows .local s ∧ Follows .stream s ∧ Follows .switch s) ∧
      ∀ f, PositionDerived s f := by
  constructor
  · intro h
    exact ⟨⟨fun f => (h f).1, fun f => (h f).2.1, fun f => (h f).2.2.1, fun f => (h f).2.2.2.1,
      fun f => (h f).2.2.2.2.1⟩, fun f => (h f).2.2.2.2.2⟩
  · rintro ⟨⟨fire, tag, loc, stream, switch⟩, position⟩ f
    exact ⟨fire f, tag f, loc f, stream f, switch f, position f⟩

section
variable {free : Reason → Prop} {s t : State}

theorem RecordsKept.coherent (a : RecordsKept free s t) (h : RecordsCoherent s) : RecordsCoherent t :=
  fun f => ⟨a.seqs f (h f).1, a.orders f (h f).2⟩

theorem RecordsKept.follows (a : RecordsKept free s t) {r : Reason} (hr : ¬ free r) (h : Follows r s) :
    Follows r t := fun f => by rw [a.reasons f r hr, a.owners f r hr]; exact h f

/-- What touches no reason that follows an owner keeps them all. -/
theorem RecordsKept.reasonsFollow (a : RecordsKept free s t)
    (none : ¬ free .fire ∧ ¬ free .tag ∧ ¬ free .local ∧ ¬ free .stream ∧ ¬ free .switch)
    (h : ReasonsFollow s) : ReasonsFollow t := by
  obtain ⟨⟨fire, tag, loc, stream, switch⟩, position⟩ := (reasonsFollow_iff s).mp h
  obtain ⟨nf, nt, nl, ns, nw⟩ := none
  exact (reasonsFollow_iff t).mpr ⟨⟨a.follows nf fire, a.follows nt tag, a.follows nl loc,
    a.follows ns stream, a.follows nw switch⟩, fun f => a.position f (position f)⟩

/-- The laws look at ORU and RCS, the reasons at what their owners say too. -/
theorem RecordsCoherent.of_same (oru : t.oru = s.oru) (rcs : t.rcs = s.rcs) (h : RecordsCoherent s) :
    RecordsCoherent t := by
  unfold RecordsCoherent State.seq State.order
  rw [oru, rcs]
  exact h

theorem feederMode_of_same (mdu : t.mdu = s.mdu) (feeders : t.gst.feeders = s.gst.feeders) (f : Slot) :
    t.feederMode f = s.feederMode f := by
  have feeder : t.feeder f = s.feeder f := by unfold State.feeder; rw [feeders]
  simp only [State.feederMode, mdu, feeder]

theorem ReasonsFollow.of_same (oru : t.oru = s.oru) (rcs : t.rcs = s.rcs) (siu : t.siu = s.siu)
    (mdu : t.mdu = s.mdu) (feeders : t.gst.feeders = s.gst.feeders) (h : ReasonsFollow s) :
    ReasonsFollow t := by
  intro f
  rw [feederMode_of_same mdu feeders]
  unfold State.holds State.seq State.switch State.stream State.order
  rw [oru, rcs, siu]
  exact h f

end

theorem earthReason_none : ¬ earthReason .fire ∧ ¬ earthReason .tag ∧ ¬ earthReason .local ∧
    ¬ earthReason .stream ∧ ¬ earthReason .switch := by
  simp [earthReason]

theorem only_none {r : Reason} (h : r = .hunt ∨ r = .earth ∨ r = .operator) :
    ¬ Reason.fire = r ∧ ¬ Reason.tag = r ∧ ¬ Reason.local = r ∧ ¬ Reason.stream = r ∧ ¬ Reason.switch = r := by
  rcases h with rfl | rfl | rfl <;> simp

/-! ## GST and ELU -/

section
variable {free : Reason → Prop}

theorem setGroups_kept (f : Slot) (a p : Option GroupNo) (s : State) :
    RecordsKept free s (s.setGroups f a p) := .of_same rfl rfl (fun _ => rfl) fun _ _ _ => rfl

theorem applyGroup_kept (w : GroupWay) (n : Option SampleNo) (g : GroupNo) (f : Slot) (s : State) :
    RecordsKept free s (applyGroup w n g f s) :=
  ((setGroups_kept f (some g) none s).trans (.raise _ _ _ _)).trans (groupNotify_kept _ _)

theorem requestGroup_kept (g : GroupNo) (f : Slot) (s : State) :
    RecordsKept free s (requestGroup g f s) := by
  unfold requestGroup
  split
  · exact .refl s
  · split
    · split
      · exact .refl s
      · exact (setGroups_kept _ _ _ s).trans (.raise _ _ _ _)
    · exact .ite (.refl s) (.ite ((setGroups_kept _ _ _ s).trans (.raise _ _ _ _))
        (applyGroup_kept _ _ _ _ s))

theorem applyPendingAtEntry_kept (f : Slot) (s : State) :
    RecordsKept free s (applyPendingAtEntry f s) := by
  unfold applyPendingAtEntry
  split
  · exact applyGroup_kept _ _ _ _ s
  · exact .refl s

theorem setElement_kept (f : Slot) (x : ElementState) (s : State) :
    RecordsKept free s (s.setElement f x) := .of_same rfl rfl (fun _ => rfl) fun _ _ _ => rfl

theorem applyPending_kept (n : SampleNo) (f : Slot) (s : State) :
    RecordsKept free s (applyPending n f s) := by
  unfold applyPending
  split
  · exact applyGroup_kept _ _ _ _ s
  · exact .refl s

theorem clearTurnedOn_kept (f : Slot) (left : Option GroupNo) (s : State) :
    RecordsKept free s (clearTurnedOn f left s) := by
  unfold clearTurnedOn
  split
  · exact setElement_kept _ _ s
  · exact .refl s

theorem applyAtCompletion_kept (f : Slot) (h : HandOver) (s : State) :
    RecordsKept free s (applyAtCompletion f h s) := by
  unfold applyAtCompletion
  split
  · exact .refl s
  · exact (applyPending_kept _ _ s).trans (clearTurnedOn_kept _ _ _)

theorem evaluated_kept (f : Slot) (e : ElementState) {s t : State} (h : RecordsKept free s t) :
    RecordsKept free s (t.setElement f e) := h.trans (setElement_kept f e t)

end

theorem tripFeeder_kept (f : Slot) (g : GroupNo) (gr : GroupRecord) (t : ElementSet) (h : HandOver)
    (s : State) : RecordsKept earthReason s (tripFeeder f g gr t h s) := by
  have recorded (b : NoticeBody) : RecordsKept earthReason s (raise (some f) (some h.sampleNo) b
      ((s.setElement f ((s.element f).act t)).setTrip f (tripRecordOf s f g gr t h))) :=
    .of_same rfl rfl (fun _ => rfl) fun _ _ _ => rfl
  unfold tripFeeder
  dsimp only
  exact .ite (recorded _) ((recorded _).trans (orderTrip_kept _ _ _))

theorem evaluate_kept (f : Slot) (h : HandOver) (s : State) :
    RecordsKept earthReason s (evaluate f h s) := by
  have applied : RecordsKept earthReason s _ := applyAtCompletion_kept f h s
  unfold evaluate decideFeederTrip
  refine .ite ?_ (.refl s)
  dsimp only
  split
  · exact applied
  · exact .ite ((evaluated_kept _ _ applied).trans (tripFeeder_kept _ _ _ _ _ _))
      (evaluated_kept _ _ applied)

/-! ## SIU -/

/-- The block reasons that a sample can give and take. -/
def sampleReason (r : Reason) : Prop := r = .stream ∨ earthReason r

theorem sampleReason_of_earth (r : Reason) (h : earthReason r) : sampleReason r := .inr h

theorem setPheStream_kept {free : Reason → Prop} (r : Role) (p : PheStream) (s : State) :
    RecordsKept free s (s.setPheStream r p) := .of_same rfl rfl (fun _ => rfl) fun _ _ _ => rfl

theorem hand_kept (r : Role) (x : Sample) (filled : Bool) (st : StreamState) (s : State) :
    RecordsKept earthReason s (hand r x filled st s) := by
  unfold hand
  split
  · unfold handFeeder
    dsimp only
    refine .ite ?_ (setPheStream_kept _ _ s)
    split
    · exact ((setPheStream_kept _ _ s).trans (evaluate_kept _ _ _)).trans (efsFeederResult_kept _ _ _)
    · exact (setPheStream_kept _ _ s).trans (evaluate_kept _ _ _)
  · exact .ite ((setPheStream_kept _ _ s).trans (efsBusCompletion_kept _ _)) (setPheStream_kept _ _ s)

/-- A new stream record, of a stream that delivers as before. -/
theorem setStream_kept {free : Reason → Prop} {r : Role} {q : StreamRecord} {s : State}
    (h : ¬ free .stream → q.state.delivers = (s.stream r).state.delivers) :
    RecordsKept free s (s.setStream r q) := by
  refine .of_same rfl rfl (fun _ => rfl) fun f x hx => ?_
  cases x with
  | stream =>
    simp only [ownerSays, State.stream_setStream]
    split
    · next e => subst e; rw [h hx]
    · rfl
  | _ => rfl

theorem streamEntered_kept (r : Role) (s : State) : RecordsKept earthReason s (streamEntered r s) := by
  unfold streamEntered
  split
  · exact applyPendingAtEntry_kept _ s
  · exact abortHunt_kept _ s

theorem addStreamReason_kept (r : Role) (s : State) :
    RecordsKept sampleReason s (addStreamReason r s) := by
  unfold addStreamReason
  split
  · exact addReason_kept (.inl rfl) _ s
  · exact .refl s

theorem streamStopped_kept (r : Role) (n : Option SampleNo) (left : StreamState) (s : State) :
    RecordsKept sampleReason s (streamStopped r n left s) :=
  ((addStreamReason_kept r s).trans (.raise _ _ _ _)).trans
    ((streamEntered_kept r _).mono sampleReason_of_earth)

theorem enterFilling_kept (r : Role) (x : Sample) (s : State) :
    RecordsKept sampleReason s (enterFilling r x s) :=
  .trans (.trans (setPheStream_kept _ _ s) (setStream_kept (absurd (.inl rfl))))
    ((hand_kept _ _ _ _ _).mono sampleReason_of_earth)

theorem countResync_kept {free : Reason → Prop} (r : Role) (s : State) :
    RecordsKept free s (countResync r s) := setStream_kept fun _ => rfl

theorem enterLocked_kept (r : Role) (n : SampleNo) (s : State) :
    RecordsKept sampleReason s (enterLocked r n s) := by
  unfold enterLocked
  dsimp only
  have locked : RecordsKept sampleReason s
      (s.setStream r { s.stream r with state := .locked, consecutive := 0 }) :=
    setStream_kept (absurd (.inl rfl))
  refine RecordsKept.trans ?_ (.raise _ _ _ _)
  split
  · exact locked.trans (removeReason_kept (.inl rfl) _ _)
  · exact locked

theorem acceptNext_kept (r : Role) (x : Sample) (s : State) :
    RecordsKept sampleReason s (acceptNext r x s) :=
  .trans (setStream_kept (absurd (.inl rfl))) ((hand_kept _ _ _ _ _).mono sampleReason_of_earth)

theorem takes_kept {r : Role} {x : Sample} {s u : State} (h : Takes r x s u) :
    RecordsKept sampleReason s u := by
  have entered (s : State) := (streamEntered_kept r s).mono sampleReason_of_earth
  have handed (x : Sample) (fl : Bool) (st : StreamState) (s : State) :=
    (hand_kept r x fl st s).mono sampleReason_of_earth
  cases h with
  | fresh _ => exact (enterFilling_kept r x s).trans (entered _)
  | resync _ => exact ((countResync_kept r s).trans (enterFilling_kept r x _)).trans (entered _)
  | discarded => exact setStream_kept fun _ => rfl
  | counted _ =>
    unfold fillNext
    dsimp only
    have counted : RecordsKept sampleReason s (s.setStream r { s.stream r with
        lastSample := x.number, supervision := some 20, consecutive := (s.stream r).consecutive + 1 }) :=
      setStream_kept fun _ => rfl
    exact .ite ((counted.trans (enterLocked_kept _ _ _)).trans (handed _ _ _ _))
      (counted.trans (handed _ _ _ _))
  | accepted _ => exact acceptNext_kept r x s
  | bridged k _ =>
    have patched : RecordsKept sampleReason s (s.setStream r { s.stream r with
        gaps := countUp (s.stream r).gaps, state := .patched, patch := 32 }) :=
      setStream_kept (absurd (.inl rfl))
    exact (patched.trans (.foldl (fun t i => handed _ _ _ t) _ _)).trans (acceptNext_kept r x _)
  | broken _ =>
    exact ((countResync_kept r s).trans (enterFilling_kept r x _)).trans (streamStopped_kept _ _ _ _)

end Sys2Proof.Machine
end

section
/-! PROOFS. The records and reasons through streams, STATE frames, modes and requests: STREAM, TAG, LOCAL, SWITCH and
FIRE where their owners change. -/

namespace Sys2Proof.Machine

/-! ## What RCS leaves of ORU -/

theorem RcsWork.switch_eq {s t : State} (a : RcsWork s t) (f : Slot) : t.switch f = s.switch f := by
  unfold State.switch; rw [a.oru]

theorem RcsWork.order_eq {s t : State} (a : RcsWork s t) (f : Slot) : t.order f = s.order f := by
  unfold State.order; rw [a.oru]

theorem holds_alignReason (r q : Reason) (b : Bool) (f g : Slot) (s : State) :
    (alignReason r b f s).holds g q = if f = g ∧ r = q then b else s.holds g q := by
  unfold alignReason
  cases b
  · exact holds_removeReason r q f g s
  · exact holds_addReason r q f g s

theorem role_inj {f g : Slot} (h : f.role = g.role) : f = g := by
  have v : f.role.val = g.role.val := by rw [h]
  exact Fin.ext v

/-! ## STREAM (R16) -/

/-- STREAM is right on every feeder but the one of role `r`. -/
def StreamFollowsBut (r : Role) (s : State) : Prop :=
  ∀ f : Slot, f.role ≠ r → s.holds f .stream = ownerSays s f .stream

theorem Follows.setStream {r : Role} {q : StreamRecord} {s : State} (h : Follows .stream s) :
    StreamFollowsBut r (s.setStream r q) := by
  intro f hf
  have same : ownerSays (s.setStream r q) f .stream = ownerSays s f .stream := by
    simp [ownerSays, Ne.symm hf]
  rw [same]
  exact h f

/-- What touches no STREAM keeps it right on every feeder but one. -/
theorem RecordsKept.streamFollowsBut {free : Reason → Prop} {r : Role} {s t : State}
    (a : RecordsKept free s t) (hf : ¬ free .stream) (h : StreamFollowsBut r s) : StreamFollowsBut r t :=
  fun f e => by rw [a.reasons f _ hf, a.owners f _ hf]; exact h f e

theorem earthReason_stream : ¬ earthReason .stream := by simp [earthReason]

/-- R16: STREAM is added when the stream no longer delivers. -/
theorem streamStopped_follows {r : Role} {n : Option SampleNo} {left : StreamState} {s : State}
    (h : StreamFollowsBut r s) (stopped : (s.stream r).state.delivers = false) :
    Follows .stream (streamStopped r n left s) := by
  have added : Follows .stream (addStreamReason r s) := by
    unfold addStreamReason
    split
    · next k hk =>
      obtain rfl := role_of_slotOf hk
      intro f
      have owner : ownerSays (addReason .stream k s) f .stream = ownerSays s f .stream := by
        simp only [ownerSays, (addReason_work .stream k s).feeder.stream]
      rw [holds_addReason, owner]
      split
      · next e => obtain ⟨rfl, -⟩ := e; simp [ownerSays, stopped]
      · next e => exact h f fun c => e ⟨(role_inj c).symm, rfl⟩
    · next hk =>
      obtain rfl := eq_busRole_of_slotOf hk
      exact fun f => h f (role_ne_busRole f)
  exact (RecordsKept.trans (.raise _ _ _ _) (streamEntered_kept r _)).follows earthReason_stream added

/-- A stream that did not deliver starts afresh: nothing but PHE, EFS's work and its own record changes. -/
theorem enterFilling_kept_notDelivering {r : Role} {x : Sample} {s : State}
    (h : (s.stream r).state.delivers = false) : RecordsKept earthReason s (enterFilling r x s) := by
  rw [enterFilling_eq]
  have own : RecordsKept earthReason s (s.setStream r ((s.stream r).filling x)) := setStream_kept fun _ => h.symm
  exact own.trans (setPheStream_kept _ _ _)

theorem enterFilling_followsBut {r : Role} {x : Sample} {s : State} (h : Follows .stream s) :
    StreamFollowsBut r (enterFilling r x s) := by
  rw [enterFilling_eq]
  exact (setPheStream_kept (free := earthReason) _ _ _).streamFollowsBut earthReason_stream h.setStream

/-- R13: STREAM is removed when the stream is LOCKED. -/
theorem enterLocked_follows {r : Role} {n : SampleNo} {s : State} (h : Follows .stream s) :
    Follows .stream (enterLocked r n s) := by
  have but := h.setStream (r := r) (q := { s.stream r with state := .locked, consecutive := 0 })
  unfold enterLocked
  dsimp only
  refine (RecordsKept.raise (free := earthReason) _ _ _ _).follows earthReason_stream ?_
  split
  · next k hk =>
    obtain rfl := role_of_slotOf hk
    intro f
    rw [holds_removeReason]
    split
    · next e => obtain ⟨rfl, -⟩ := e; simp [ownerSays, removeReason, StreamState.delivers]
    · next e => exact but f fun c => e ⟨(role_inj c).symm, rfl⟩
  · next hk =>
    obtain rfl := eq_busRole_of_slotOf hk
    exact fun f => but f (role_ne_busRole f)

/-- R14: a next sample in LOCKED or PATCHED leaves the stream delivering. -/
theorem acceptNext_kept_delivering {r : Role} {x : Sample} {s : State}
    (h : (s.stream r).state.delivers = true) : RecordsKept earthReason s (acceptNext r x s) := by
  unfold acceptNext
  dsimp only
  refine .trans (setStream_kept fun _ => ?_) (hand_kept _ _ _ _ _)
  rw [h]
  dsimp only
  split
  · rfl
  · exact h

theorem fillGap_siu (r : Role) (x : Sample) (l : List Nat) (s : State) : (fillGap r x l s).siu = s.siu :=
  foldl_keeps (P := fun t => t.siu = s.siu) (fun t _ h => (hand_siu _ _ _ _ t).trans h) l s rfl

theorem fillGap_kept (r : Role) (x : Sample) (l : List Nat) (s : State) :
    RecordsKept earthReason s (fillGap r x l s) :=
  .foldl (fun t _ => hand_kept _ _ _ _ t) l s

theorem takes_follows {r : Role} {x : Sample} {s u : State} (h : Takes r x s u) (f : Follows .stream s) :
    Follows .stream u := by
  cases h with
  | fresh h =>
    exact ((enterFilling_kept_notDelivering h).trans (streamEntered_kept _ _)).follows earthReason_stream f
  | resync h =>
    have h' : ((countResync r s).stream r).state.delivers = false := by simpa [countResync] using h
    exact (((countResync_kept r s).trans (enterFilling_kept_notDelivering h')).trans
      (streamEntered_kept _ _)).follows earthReason_stream f
  | discarded =>
    exact (setStream_kept (free := earthReason) (r := r) (s := s)
      (q := { s.stream r with duplicates := countUp (s.stream r).duplicates }) fun _ => rfl).follows
      earthReason_stream f
  | counted _ =>
    have counted : RecordsKept earthReason s (s.setStream r { s.stream r with
        lastSample := x.number, supervision := some 20, consecutive := (s.stream r).consecutive + 1 }) :=
      setStream_kept fun _ => rfl
    unfold fillNext
    dsimp only
    split
    · exact (hand_kept _ _ _ _ _).follows earthReason_stream
        (enterLocked_follows (counted.follows earthReason_stream f))
    · exact (counted.trans (hand_kept _ _ _ _ _)).follows earthReason_stream f
  | accepted h => exact (acceptNext_kept_delivering h).follows earthReason_stream f
  | bridged k h =>
    have patched : RecordsKept earthReason s (s.setStream r { s.stream r with
        gaps := countUp (s.stream r).gaps, state := .patched, patch := 32 }) :=
      setStream_kept fun _ => h.symm
    unfold bridgeGap
    refine ((patched.trans (fillGap_kept _ _ _ _)).trans (acceptNext_kept_delivering ?_)).follows
      earthReason_stream f
    have stream (t : State) : (fillGap r ((s.pheStream r).window.sampleAt (s.stream r).lastSample)
        (List.range k) t).stream r = t.stream r := by
      unfold State.stream; rw [fillGap_siu]
    rw [stream, State.stream_setStream, if_pos rfl]
    rfl
  | broken _ =>
    refine streamStopped_follows (enterFilling_followsBut ?_) ?_
    · exact (countResync_kept (free := earthReason) r s).follows earthReason_stream f
    · rw [enterFilling_eq, stream_refilled, if_pos rfl]; rfl

theorem streamLost_kept (r : Role) (s : State) : RecordsKept sampleReason s (streamLost r s) :=
  .trans (setStream_kept (absurd (.inl rfl))) (streamStopped_kept _ _ _ _)

theorem streamLost_follows {r : Role} {s : State} (f : Follows .stream s) :
    Follows .stream (streamLost r s) := by
  refine streamStopped_follows f.setStream ?_
  simp [StreamState.delivers]

/-! ## STATE frames (R80 to R83) -/

/-- A switch record after steps 1 and 2 of R80, its reasons apart. -/
def SwitchRecord.copied (r : StateReport) (w : SwitchRecord) : SwitchRecord :=
  { w with
    supervision := some 1000
    reported := some r.reported
    tag := r.tag
    loc := r.loc
    lastExecuted := r.executed
    health := if w.health = .unreachable then .reachable else w.health }

theorem setHealth_switch (h : Health) (f g : Slot) (s : State) :
    (setHealth h f s).switch g = if f = g then { s.switch f with health := h } else s.switch g := by
  rw [setHealth, alignSwitch, (alignReason_work _ _ _ _).switch_eq, State.switch_setSwitch]

theorem setHealth_order (h : Health) (f g : Slot) (s : State) : (setHealth h f s).order g = s.order g := by
  rw [setHealth, alignSwitch, (alignReason_work _ _ _ _).order_eq, State.order_setSwitch]

theorem holds_setHealth (h : Health) (f g : Slot) (q : Reason) (s : State) :
    (setHealth h f s).holds g q = if f = g ∧ .switch = q then h != .reachable else s.holds g q := by
  rw [setHealth, alignSwitch, holds_alignReason, State.switch_setSwitch, if_pos rfl, State.holds_setSwitch]

theorem stateCopied_switch (r : StateReport) (f g : Slot) (s : State) :
    (stateCopied r f s).switch g = if f = g then (s.switch f).copied r else s.switch g := by
  unfold stateCopied
  dsimp only
  rw [(alignReason_work _ _ _ _).switch_eq, (alignReason_work _ _ _ _).switch_eq]
  by_cases e : f = g
  · subst e
    split
    · next h => simp [setHealth_switch, SwitchRecord.copied, h]
    · next h => simp [SwitchRecord.copied, h]
  · split
    · simp [setHealth_switch, e]
    · simp [e]

theorem stateCopied_order (r : StateReport) (f g : Slot) (s : State) :
    (stateCopied r f s).order g = s.order g := by
  unfold stateCopied
  dsimp only
  rw [(alignReason_work _ _ _ _).order_eq, (alignReason_work _ _ _ _).order_eq]
  split
  · rw [setHealth_order, State.order_setSwitch]
  · rfl

theorem holds_stateCopied (r : StateReport) (f g : Slot) (q : Reason) (s : State) :
    (stateCopied r f s).holds g q =
      if f = g ∧ .local = q then r.loc else if f = g ∧ .tag = q then r.tag
      else if f = g ∧ .switch = q ∧ (s.switch f).health = .unreachable then false else s.holds g q := by
  unfold stateCopied
  dsimp only
  rw [holds_alignReason, holds_alignReason]
  congr 2
  split
  · next h => simp [holds_setHealth, h]
  · next h => simp [h]

/-- The order record of feeder `f` after a STATE frame's report (R95). -/
def orderAfter (r : StateReport) (o : OrderRecord) : OrderRecord := if confirms o r then o.idled else o

/-- The switch record of a feeder after a STATE frame's report (R80, R82, R95); `o` is its order record. -/
def SwitchRecord.after (r : StateReport) (o : OrderRecord) (w : SwitchRecord) : SwitchRecord :=
  { w.copied r with
    failCount := if confirms o r then 0 else w.failCount
    settled := match r.reported.settled with
      | some x => some x
      | none => w.settled
    position := derivePosition (some r.reported) (orderAfter r o) }

theorem orderConfirmed_order (f g : Slot) (s : State) :
    (orderConfirmed f s).order g = if f = g then (s.order f).idled else s.order g := by
  simp [orderConfirmed, putOrder, refreshPosition]

theorem orderConfirmed_switch (f g : Slot) (s : State) :
    (orderConfirmed f s).switch g = if f = g then { s.switch f with
      failCount := 0, position := derivePosition (s.switch f).reported (s.order f).idled }
    else s.switch g := by
  by_cases e : f = g
  · subst e; simp [orderConfirmed, putOrder, refreshPosition]
  · simp [orderConfirmed, putOrder, refreshPosition, e]

theorem takeStateReport_order (r : StateReport) (f g : Slot) (s : State) :
    (takeStateReport r f s).order g = if f = g then orderAfter r (s.order f) else s.order g := by
  unfold takeStateReport settle refreshPosition orderAfter
  dsimp only
  rw [State.order_setSwitch, State.order_setSwitch]
  split
  · next c =>
    rw [stateCopied_order] at c
    rw [orderConfirmed_order, stateCopied_order, stateCopied_order, if_pos c]
  · next c =>
    rw [stateCopied_order] at c
    rw [stateCopied_order, if_neg c]
    split
    · next e => rw [e]
    · rfl

theorem takeStateReport_switch (r : StateReport) (f g : Slot) (s : State) :
    (takeStateReport r f s).switch g =
      if f = g then (s.switch f).after r (s.order f) else s.switch g := by
  by_cases e : f = g
  · subst e
    unfold takeStateReport settle refreshPosition SwitchRecord.after orderAfter
    by_cases c : confirms (s.order f) r = true
    · simp [stateCopied_order, orderConfirmed_order, orderConfirmed_switch, stateCopied_switch, c]
      exact ⟨rfl, rfl⟩
    · rw [Bool.not_eq_true] at c
      simp only [stateCopied_order, stateCopied_switch, State.order_setSwitch, State.switch_setSwitch, c,
        if_true, Bool.false_eq_true, if_false]
      rfl
  · unfold takeStateReport settle refreshPosition
    by_cases c : confirms (s.order f) r = true
    · simp [stateCopied_order, orderConfirmed_switch, stateCopied_switch, c, e]
    · simp [stateCopied_order, stateCopied_switch, c, e]

theorem takeStateReport_rcs (r : StateReport) (f : Slot) (s : State) :
    (takeStateReport r f s).rcs = (stateCopied r f s).rcs := by
  unfold takeStateReport settle refreshPosition orderConfirmed putOrder refreshPosition
  dsimp only
  split <;> rfl

theorem holds_takeStateReport (r : StateReport) (f g : Slot) (q : Reason) (s : State) :
    (takeStateReport r f s).holds g q = (stateCopied r f s).holds g q := by
  unfold State.holds State.seq
  rw [takeStateReport_rcs]

/-- The block reasons that a STATE frame can give and take. -/
def stateReason (r : Reason) : Prop := r = .tag ∨ r = .local ∨ r = .switch ∨ earthReason r

theorem stateReason_of_earth (r : Reason) (h : earthReason r) : stateReason r := .inr (.inr (.inr h))

theorem OrderWork.acting {s t : State} (a : OrderWork s t) (f : Slot) : t.acting f = s.acting f := by
  simp only [State.acting, State.feeder, a.mgr, a.gst]

/-- What a STATE frame writes of RCS. -/
theorem stateCopied_seqs (r : StateReport) (f : Slot) (s : State) :
    (∀ g, (s.seq g).coherent → ((stateCopied r f s).seq g).coherent) ∧
      ∀ g, s.acting g = false → (s.seq g).resting → ((stateCopied r f s).seq g).resting := by
  have aligned (t : State) (h : t.rcs = s.rcs) (ha : ∀ g, t.acting g = s.acting g) (u : State)
      (k : RecordsKept (fun _ => True) t u) :
      (∀ g, (s.seq g).coherent → (u.seq g).coherent) ∧
        ∀ g, s.acting g = false → (s.seq g).resting → (u.seq g).resting := by
    have seq (g : Slot) : t.seq g = s.seq g := by unfold State.seq; rw [h]
    refine ⟨fun g c => k.seqs g (by rwa [seq]), fun g n c => k.resting g ((ha g).trans n) (by rwa [seq])⟩
  have moved (t : State) : RecordsKept (fun _ => True) t (alignReason .local r.loc f (alignReason .tag r.tag f
      (if (s.switch f).health = .unreachable then setHealth .reachable f t else t))) :=
    .trans (.trans (.ite (setHealth_kept trivial _ _ t) (.refl _)) (alignReason_kept trivial _ _ _))
      (alignReason_kept trivial _ _ _)
  unfold stateCopied
  dsimp only
  exact aligned (s.setSwitch f _) rfl (fun _ => rfl) _ (moved _)

theorem takeStateReport_kept (r : StateReport) (f : Slot) (s : State) :
    RecordsKept stateReason s (takeStateReport r f s) := by
  have work := takeStateReport_work r f s
  have seq (g : Slot) : (takeStateReport r f s).seq g = (stateCopied r f s).seq g := by
    unfold State.seq; rw [takeStateReport_rcs]
  obtain ⟨coherent, resting⟩ := stateCopied_seqs r f s
  refine ⟨fun g h => ?_, fun g h => ?_, fun g n h => ?_, fun g h => ?_, work.acting, fun g q hq => ?_,
    fun g q hq => ?_⟩
  · rw [seq]; exact coherent g h
  · rw [takeStateReport_order]
    split
    · next e =>
      subst e
      unfold orderAfter
      split
      · exact idled_coherent _
      · exact h
    · exact h
  · rw [seq]; exact resting g n h
  · unfold PositionDerived
    rw [takeStateReport_order, takeStateReport_switch]
    split
    · rfl
    · exact h
  · unfold stateReason at hq
    rw [holds_takeStateReport, holds_stateCopied, if_neg, if_neg, if_neg]
    · rintro ⟨-, rfl, -⟩; simp at hq
    · rintro ⟨-, rfl⟩; simp at hq
    · rintro ⟨-, rfl⟩; simp at hq
  · have feederMode : (takeStateReport r f s).feederMode g = s.feederMode g :=
      feederMode_of_same work.mdu (by rw [work.gst]) g
    cases q with
    | fire => simp only [ownerSays, feederMode]
    | stream => simp only [ownerSays, work.feeder.stream]
    | hunt | earth | operator => rfl
    | _ => simp [stateReason] at hq

theorem takeStateReport_follows {r : StateReport} {f : Slot} {s : State}
    (h : Follows .tag s ∧ Follows .local s ∧ Follows .switch s) :
    Follows .tag (takeStateReport r f s) ∧ Follows .local (takeStateReport r f s) ∧
      Follows .switch (takeStateReport r f s) := by
  obtain ⟨tag, loc, switch⟩ := h
  refine ⟨fun g => ?_, fun g => ?_, fun g => ?_⟩
  · have before := tag g
    simp only [ownerSays] at before ⊢
    rw [holds_takeStateReport, holds_stateCopied, takeStateReport_switch]
    by_cases e : f = g
    · simp [e, SwitchRecord.after, SwitchRecord.copied]
    · simp [e, before]
  · have before := loc g
    simp only [ownerSays] at before ⊢
    rw [holds_takeStateReport, holds_stateCopied, takeStateReport_switch]
    by_cases e : f = g
    · simp [e, SwitchRecord.after, SwitchRecord.copied]
    · simp [e, before]
  · have before := switch g
    simp only [ownerSays] at before ⊢
    rw [holds_takeStateReport, holds_stateCopied, takeStateReport_switch]
    by_cases e : f = g
    · subst e
      by_cases u : (s.switch f).health = .unreachable
      · simp [SwitchRecord.after, SwitchRecord.copied, u]
      · simp [SwitchRecord.after, SwitchRecord.copied, u, before]
    · simp [e, before]

theorem takeState_kept (r : StateReport) (f : Slot) (s : State) :
    RecordsKept earthReason (takeStateReport r f s) (takeState r f s) := by
  have reported : RecordsKept earthReason (takeStateReport r f s)
      (match stateOrderReport r f s with
        | some p => deliver p (takeStateReport r f s)
        | none => takeStateReport r f s) := by
    split
    · exact deliver_kept _ _
    · exact .refl _
  unfold takeState
  dsimp only
  split
  · exact reported.trans (rcsPosition_kept _ _ _)
  · exact reported

end Sys2Proof.Machine
end

section
/-! PROOFS. The laws of the records and of the reasons that follow their owners, through every event and its end:
the obligations O6 and O7. -/

namespace Sys2Proof.Machine

/-! ## Both laws -/

/-- What keeps the coherence of the records, and keeps the reasons following. -/
structure LawsKept (s t : State) : Prop where
  coherent : RecordsCoherent s → RecordsCoherent t
  follows : ReasonsFollow s → ReasonsFollow t

namespace LawsKept

theorem refl (s : State) : LawsKept s s := ⟨id, id⟩

theorem trans {s t u : State} (a : LawsKept s t) (b : LawsKept t u) : LawsKept s u :=
  ⟨fun h => b.coherent (a.coherent h), fun h => b.follows (a.follows h)⟩

theorem ite {c : Prop} [Decidable c] {s t u : State} (a : LawsKept s t) (b : LawsKept s u) :
    LawsKept s (if c then t else u) := by
  split <;> assumption

theorem foldl {α : Type} {g : State → α → State} (h : ∀ s a, LawsKept s (g s a)) (l : List α) (s : State) :
    LawsKept s (l.foldl g s) :=
  foldl_keeps (P := LawsKept s) (fun t a k => k.trans (h t a)) l s (.refl s)

theorem forSlots {g : Slot → State → State} (h : ∀ f s, LawsKept s (g f s)) (s : State) :
    LawsKept s (Machine.forSlots g s) := foldl (fun s f => h f s) _ s

/-- The laws look at the order, switch and sequencer records, the stream states and the district modes alone. -/
theorem of_readers {s t : State} (order : ∀ f, t.order f = s.order f) (switch : ∀ f, t.switch f = s.switch f)
    (seq : ∀ f, t.seq f = s.seq f) (stream : ∀ r, (t.stream r).state = (s.stream r).state)
    (mode : ∀ f, t.feederMode f = s.feederMode f) : LawsKept s t := by
  refine ⟨fun h f => ?_, fun h f => ?_⟩
  · rw [seq, order]; exact h f
  · rw [State.holds, State.holds, State.holds, State.holds, State.holds, seq, mode, switch, stream, order]
    exact h f

end LawsKept

/-- What touches none of the reasons that follow an owner. -/
theorem RecordsKept.laws {free : Reason → Prop} {s t : State} (a : RecordsKept free s t)
    (none : ¬ free .fire ∧ ¬ free .tag ∧ ¬ free .local ∧ ¬ free .stream ∧ ¬ free .switch) : LawsKept s t :=
  ⟨a.coherent, a.reasonsFollow none⟩

theorem RecordsKept.earthLaws {s t : State} (a : RecordsKept earthReason s t) : LawsKept s t :=
  a.laws earthReason_none

theorem RecordsKept.positions {free : Reason → Prop} {s t : State} (a : RecordsKept free s t)
    (h : ∀ f, PositionDerived s f) : ∀ f, PositionDerived t f := fun f => a.position f (h f)

/-! ## FIRE and the district modes (R159 to R165) -/

/-- The block reasons that a change of mode can give and take. -/
def fireReason (r : Reason) : Prop := r = .fire ∨ earthReason r

theorem fireReason_of_earth (r : Reason) (h : earthReason r) : fireReason r := .inr h

theorem addFire_kept (f : Slot) (s : State) : RecordsKept fireReason s (addFire f s) := by
  unfold addFire
  dsimp only
  have added : RecordsKept fireReason s (addReason .fire f s) := addReason_kept (.inl rfl) f s
  exact .ite (.refl s) (.ite ((added.trans (withdrawOrder_kept _ _)).trans
    ((deliver_kept _ _).mono fireReason_of_earth)) added)

theorem removeFire_kept (f : Slot) (s : State) : RecordsKept fireReason s (removeReason .fire f s) :=
  removeReason_kept (.inl rfl) f s

theorem alignFire_kept (f : Slot) (s : State) : RecordsKept fireReason s (alignFire f s) :=
  .ite (addFire_kept f s) (removeFire_kept f s)

theorem fireFollows_kept (d : District) (l m : Mode) (f : Slot) (s : State) :
    RecordsKept fireReason s (fireFollows d l m f s) :=
  .ite (.ite (addFire_kept f s) (.ite (removeFire_kept f s) (.refl s))) (.refl s)

theorem askGroup_kept (d : District) (m : Mode) (f : Slot) (s : State) :
    RecordsKept earthReason s (askGroup d m f s) := by
  unfold askGroup
  split
  · dsimp only
    split
    · exact .refl s
    · exact .ite (requestGroup_kept _ _ s) (.refl s)
  · exact .refl s

theorem holds_addFire (f g : Slot) (s : State) :
    (addFire f s).holds g .fire = if f = g then true else s.holds g .fire := by
  unfold addFire
  dsimp only
  split
  · next held =>
    split
    · next e => exact e ▸ held
    · rfl
  · have added : (addReason .fire f s).holds g .fire = if f = g then true else s.holds g .fire := by
      rw [holds_addReason]; simp
    split
    · rw [(deliver_kept _ _).reasons g .fire earthReason_none.1]
      exact added
    · exact added

theorem holds_alignFire (f g : Slot) (s : State) :
    (alignFire f s).holds g .fire = if f = g then s.feederMode f == .ban else s.holds g .fire := by
  unfold alignFire
  split
  · next ban => rw [holds_addFire, ban]; rfl
  · next ban =>
    rw [holds_removeReason, beq_false_of_ne ban]
    by_cases e : f = g <;> simp [e]

theorem fireFollows_gst (d : District) (l m : Mode) (f : Slot) (s : State) :
    (fireFollows d l m f s).gst = s.gst := (fireFollows_work d l m f s).gst

/-- What R162 makes of FIRE of one feeder; `mine` says whether its district is the one whose mode changed. -/
def fireAfter (left new : Mode) (mine held : Bool) : Bool :=
  if mine then (if new = .ban then true else if left = .ban then false else held) else held

theorem fireAfter_eq {left new : Mode} {mine held : Bool} {now : Mode}
    (before : held = (if mine then left == .ban else now == .ban)) :
    fireAfter left new mine held = (if mine then new == .ban else now == .ban) := by
  unfold fireAfter
  cases mine
  · simpa using before
  · subst before
    by_cases n : new = .ban
    · simp [n]
    · by_cases l : left = .ban <;> simp [n, l]

theorem holds_fireFollows_own (d : District) (l m : Mode) (f : Slot) (s : State) :
    (fireFollows d l m f s).holds f .fire =
      fireAfter l m (decide ((s.feeder f).district = d)) (s.holds f .fire) := by
  unfold fireFollows fireAfter
  split
  · next h =>
    rw [decide_eq_true h]
    simp only [if_true]
    split
    · rw [holds_addFire, if_pos rfl]
    · split
      · rw [holds_removeReason]; simp
      · rfl
  · next h => rw [decide_eq_false h]; rfl

theorem holds_fireFollows_other (d : District) (l m : Mode) {f g : Slot} (e : f ≠ g) (s : State) :
    (fireFollows d l m f s).holds g .fire = s.holds g .fire := by
  unfold fireFollows
  split
  · split
    · rw [holds_addFire, if_neg e]
    · split
      · rw [holds_removeReason]; simp [e]
      · rfl
  · rfl

theorem feederMode_of_district {d : District} {f : Slot} {s : State} (h : (s.feeder f).district = d) :
    s.feederMode f = s.mdu.modes[d] := by
  subst h; rfl

theorem feederMode_setMode (d : District) (m : Mode) (src : ModeSource) (f : Slot) (s : State) :
    (setMode d m src s).feederMode f = if (s.feeder f).district = d then m else s.feederMode f := by
  have get : (setMode d m src s).feederMode f = (upd s.mdu.modes d m)[(s.feeder f).district] := rfl
  rw [get, upd_get]
  by_cases e : (s.feeder f).district = d
  · rw [if_pos e, if_pos e.symm]
  · rw [if_neg e, if_neg (Ne.symm e)]; rfl

theorem setMode_kept (d : District) (m : Mode) (src : ModeSource) (s : State) :
    RecordsKept fireReason s (setMode d m src s) := by
  refine .of_same rfl rfl (fun _ => rfl) fun f r h => ?_
  cases r with
  | fire => exact absurd (.inl rfl) h
  | _ => rfl

/-- R162: a district's mode has changed; FIRE of its feeders follows. -/
theorem changeMode_follows {d : District} {m : Mode} {src : ModeSource} {s : State} (h : Follows .fire s) :
    Follows .fire (changeMode d m src s) := by
  unfold changeMode
  dsimp only
  refine (RecordsKept.forSlots (askGroup_kept d m) _).follows earthReason_none.1 fun f => ?_
  have mode : ownerSays (forSlots (fireFollows d s.mdu.modes[d] m)
      (raise none none (.modeChange d s.mdu.modes[d] m src) (setMode d m src s))) f .fire =
      ((setMode d m src s).feederMode f == .ban) := by
    have work := EfsWork.forSlots (fun g t => fireFollows_work d s.mdu.modes[d] m g t)
      (raise none none (.modeChange d s.mdu.modes[d] m src) (setMode d m src s))
    simp only [ownerSays]
    rw [feederMode_of_same work.mdu (by rw [work.gst]), feederMode_raise]
  rw [mode, feederMode_setMode]
  rw [forSlots_read (fun t f => t.holds f .fire) (fun t => t.gst)
    (fun gst f => fireAfter s.mdu.modes[d] m (decide ((gst.feeders[f]).district = d)))
    (fun t f => holds_fireFollows_own _ _ _ f t) (fun t f k e => holds_fireFollows_other _ _ _ e t)
    (fun t f => fireFollows_gst _ _ _ f t)]
  have before : s.holds f .fire = (s.feederMode f == .ban) := h f
  rw [apply_ite (· == Mode.ban)]
  refine (fireAfter_eq (now := s.feederMode f) ?_).trans ?_
  · show s.holds f .fire = _
    rw [before]
    split
    · next e => rw [feederMode_of_district (s := s) (of_decide_eq_true e)]
    · rfl
  · show (if decide ((s.feeder f).district = d) = true then m == .ban else s.feederMode f == .ban) = _
    simp

theorem changeMode_kept (d : District) (m : Mode) (src : ModeSource) (s : State) :
    RecordsKept fireReason s (changeMode d m src s) :=
  (((setMode_kept d m src s).trans (.raise _ _ _ _)).trans (.forSlots (fireFollows_kept _ _ _) _)).trans
    ((RecordsKept.forSlots (askGroup_kept d m) _).mono fireReason_of_earth)

theorem evaluateDistrict_laws (s : State) (d : District) : LawsKept s (evaluateDistrict s d) := by
  unfold evaluateDistrict
  dsimp only
  split
  · next same =>
    refine .of_readers (fun _ => rfl) (fun _ => rfl) (fun _ => rfl) (fun _ => rfl) fun f => ?_
    rw [feederMode_setMode]
    split
    · next e => rw [same, feederMode_of_district e]
    · rfl
  · have kept := changeMode_kept d (districtMode s d).1 (districtMode s d).2 s
    refine ⟨kept.coherent, fun h => ?_⟩
    obtain ⟨⟨fire, tag, loc, stream, switch⟩, position⟩ := (reasonsFollow_iff s).mp h
    exact (reasonsFollow_iff _).mpr ⟨⟨changeMode_follows fire, kept.follows (by simp [fireReason, earthReason]) tag,
      kept.follows (by simp [fireReason, earthReason]) loc,
      kept.follows (by simp [fireReason, earthReason]) stream,
      kept.follows (by simp [fireReason, earthReason]) switch⟩, kept.positions position⟩

theorem updateBusMode_kept (s : State) : RecordsKept earthReason s (updateBusMode s) := by
  unfold updateBusMode
  dsimp only
  have set : RecordsKept earthReason s { s with mdu := { s.mdu with busMode := derivedBusMode s } } :=
    .of_same rfl rfl (fun _ => rfl) fun _ r _ => by cases r <;> rfl
  exact .ite (.refl s) (.ite (set.trans (efsBecameBan_kept _)) set)

theorem evaluateModes_laws (s : State) : LawsKept s (evaluateModes s) :=
  (LawsKept.foldl evaluateDistrict_laws _ s).trans (updateBusMode_kept _).earthLaws

/-! ## The clock -/

theorem purge_laws (s : State) : LawsKept s (purge s) :=
  .of_readers (fun _ => rfl) (fun _ => rfl) (fun _ => rfl) (fun _ => rfl) fun _ => rfl

theorem checkOverrides_laws (s : State) : LawsKept s (checkOverrides s) :=
  .ite (.of_readers (fun _ => rfl) (fun _ => rfl) (fun _ => rfl) (fun _ => rfl) fun _ => rfl) (.refl s)

theorem dayWork_laws (s : State) : LawsKept s (dayWork s) :=
  .of_readers (fun _ => rfl) (fun _ => rfl) (fun _ => rfl) (fun _ => rfl) fun _ => rfl

theorem minuteWork_laws (s : State) : LawsKept s (minuteWork s) := by
  unfold minuteWork
  dsimp only
  refine .trans ?_ (evaluateModes_laws _)
  refine .trans ?_ (checkOverrides_laws _)
  have purged : LawsKept s (if s.due.day = true then dayWork s else s) := .ite (dayWork_laws s) (.refl s)
  refine purged.trans ?_
  exact .of_readers (fun _ => rfl) (fun _ => rfl) (fun _ => rfl) (fun _ => rfl) fun _ => rfl

theorem fall_none_iff (t : Option Nat) : fall t = none ↔ t = none := by cases t <;> simp [fall]

theorem tick_seq_coherent {q : SeqRecord} (h : q.coherent) : q.tick.coherent := by
  obtain ⟨dead, reclaim, rest⟩ := h
  exact ⟨fun n => (fall_none_iff _).mpr (dead n), fun n => (fall_none_iff _).mpr (reclaim n), rest⟩

theorem tick_order_coherent {o : OrderRecord} (h : o.coherent) : o.tick.coherent := by
  obtain ⟨stopped, runs⟩ := h
  refine ⟨fun n => ?_, fun n => ?_⟩
  · obtain ⟨echo, confirm⟩ := stopped n
    exact ⟨(fall_none_iff _).mpr echo, (fall_none_iff _).mpr confirm⟩
  · have started := runs n
    rw [Option.isSome_iff_ne_none] at started ⊢
    exact mt (fall_none_iff _).mp started

theorem tickTimers_laws (s : State) : LawsKept s (tickTimers s) := by
  have seq (f : Slot) : (tickTimers s).seq f = (s.seq f).tick := mapV_get _ _ f
  have order (f : Slot) : (tickTimers s).order f = (s.order f).tick := mapV_get _ _ f
  have switch (f : Slot) : (tickTimers s).switch f = (s.switch f).tick := mapV_get _ _ f
  have stream (r : Role) : (tickTimers s).stream r = (s.stream r).tick := mapV_get _ _ r
  refine ⟨fun h f => ?_, fun h f => ?_⟩
  · rw [seq, order]
    exact ⟨tick_seq_coherent (h f).1, tick_order_coherent (h f).2⟩
  · unfold State.holds
    rw [seq, switch, stream, order]
    exact h f

theorem tick_laws (s : State) : LawsKept s (tick s) := by
  have clock : LawsKept s (tickClock s) := by
    unfold tickClock
    refine .ite (.ite ?_ ?_) (.refl s) <;>
    exact .of_readers (fun _ => rfl) (fun _ => rfl) (fun _ => rfl) (fun _ => rfl) fun _ => rfl
  refine (clock.trans (tickTimers_laws _)).trans (.ite ?_ ?_) <;>
  exact .of_readers (fun _ => rfl) (fun _ => rfl) (fun _ => rfl) (fun _ => rfl) fun _ => rfl

theorem takeTime_laws (n : Tod) (s : State) : LawsKept s (takeTime n s) := by
  unfold takeTime
  dsimp only
  refine .ite (.of_readers (fun _ => rfl) (fun _ => rfl) (fun _ => rfl) (fun _ => rfl) fun _ => rfl) ?_
  refine .trans ?_ (evaluateModes_laws _)
  refine .trans ?_ (checkOverrides_laws _)
  refine .trans ?_ (purge_laws _)
  unfold raiseClockSet
  split
  · exact .of_readers (fun _ => rfl) (fun _ => rfl) (fun _ => rfl) (fun _ => rfl) fun _ => rfl
  · refine .ite ?_ ?_ <;>
    exact .of_readers (fun _ => rfl) (fun _ => rfl) (fun _ => rfl) (fun _ => rfl) fun _ => rfl

end Sys2Proof.Machine
end

section
/-! PROOFS. The laws of the records and of the reasons through switches, expiries, requests and the end of an event:
the obligations O6 and O7. -/

namespace Sys2Proof.Machine

/-! ## The health of a switch (R84 to R86) -/

/-- The block reasons that an event of a switch can give and take. -/
def switchReason (r : Reason) : Prop := r = .switch ∨ earthReason r

theorem switchReason_of_earth (r : Reason) (h : earthReason r) : switchReason r := .inr h

theorem Follows.setSwitch {f : Slot} {w : SwitchRecord} {s : State} (h : Follows .switch s)
    (same : w.health = (s.switch f).health) : Follows .switch (s.setSwitch f w) := by
  intro g
  have before := h g
  simp only [ownerSays] at before ⊢
  rw [State.holds_setSwitch, before, State.switch_setSwitch]
  split
  · next e => subst e; rw [same]
  · rfl

theorem setHealth_follows {x : Health} {f : Slot} {s : State} (h : Follows .switch s) :
    Follows .switch (setHealth x f s) := by
  intro g
  have before := h g
  simp only [ownerSays] at before ⊢
  rw [holds_setHealth, setHealth_switch]
  by_cases e : f = g <;> simp [e, before]

/-- What gives and takes SWITCH alone, and leaves it where the health says. -/
theorem RecordsKept.switchLaws {s t : State} (a : RecordsKept switchReason s t)
    (switch : Follows .switch s → Follows .switch t) : LawsKept s t := by
  refine ⟨a.coherent, fun h => ?_⟩
  obtain ⟨⟨fire, tag, loc, stream, health⟩, position⟩ := (reasonsFollow_iff s).mp h
  exact (reasonsFollow_iff _).mpr ⟨⟨a.follows (by simp [switchReason, earthReason]) fire,
    a.follows (by simp [switchReason, earthReason]) tag, a.follows (by simp [switchReason, earthReason]) loc,
    a.follows (by simp [switchReason, earthReason]) stream, switch health⟩, a.positions position⟩

theorem stateSupervisionExpired_laws (f : Slot) (s : State) : LawsKept s (stateSupervisionExpired f s) := by
  refine (stateSupervisionExpired_kept (.inl rfl) f s).switchLaws fun h => ?_
  have stopped : Follows .switch (s.setSwitch f { s.switch f with supervision := none }) := h.setSwitch rfl
  unfold stateSupervisionExpired
  dsimp only
  split
  · exact setHealth_follows stopped
  · exact stopped

theorem resetSwitch_laws (f : Slot) (s : State) : LawsKept s (resetSwitch f s) := by
  refine (resetSwitch_kept (.inl rfl) f s).switchLaws fun h => ?_
  have cleared : Follows .switch (s.setSwitch f { s.switch f with failCount := 0 }) := h.setSwitch rfl
  unfold resetSwitch
  dsimp only
  split
  · exact setHealth_follows cleared
  · exact cleared

theorem countFailure_follows {f : Slot} {s : State} (h : Follows .switch s) :
    Follows .switch (countFailure f s) := by
  have counted : Follows .switch
      (s.setSwitch f { s.switch f with failCount := min 8 ((s.switch f).failCount + 1) }) := h.setSwitch rfl
  unfold countFailure
  dsimp only
  split
  · exact setHealth_follows counted
  · exact counted

theorem confirmExpired_laws (f : Slot) (s : State) : LawsKept s (confirmExpired f s) := by
  have reported : RecordsKept switchReason (orderFailed f s) (confirmExpired f s) :=
    ((deliver_kept _ _).mono switchReason_of_earth).trans (refreshPosition_kept _ _)
  refine ((orderFailed_kept (.inl rfl) f s).trans reported).switchLaws fun h => ?_
  have idled : RecordsKept earthReason s (putOrder f (s.order f).idled s) :=
    putOrder_kept fun _ => idled_coherent _
  have counted : Follows .switch (orderFailed f s) :=
    (RecordsKept.raise (free := earthReason) _ _ _ _).follows (by simp [earthReason])
      (countFailure_follows (idled.follows (by simp [earthReason]) h))
  have after : RecordsKept earthReason (orderFailed f s) (confirmExpired f s) :=
    (deliver_kept _ _).trans (refreshPosition_kept _ _)
  exact after.follows (by simp [earthReason]) counted

/-! ## Streams and STATE frames -/

/-- What gives and takes STREAM and EFS's reasons alone, and leaves STREAM where the stream says. -/
theorem RecordsKept.streamLaws {s t : State} (a : RecordsKept sampleReason s t)
    (stream : Follows .stream s → Follows .stream t) : LawsKept s t := by
  refine ⟨a.coherent, fun h => ?_⟩
  obtain ⟨⟨fire, tag, loc, before, switch⟩, position⟩ := (reasonsFollow_iff s).mp h
  exact (reasonsFollow_iff _).mpr ⟨⟨a.follows (by simp [sampleReason, earthReason]) fire,
    a.follows (by simp [sampleReason, earthReason]) tag, a.follows (by simp [sampleReason, earthReason]) loc,
    stream before, a.follows (by simp [sampleReason, earthReason]) switch⟩, a.positions position⟩

theorem takeState_laws (r : StateReport) (f : Slot) (s : State) : LawsKept s (takeState r f s) := by
  refine .trans ⟨(takeStateReport_kept r f s).coherent, fun h => ?_⟩ (takeState_kept r f s).earthLaws
  have kept := takeStateReport_kept r f s
  obtain ⟨⟨fire, tag, loc, stream, switch⟩, position⟩ := (reasonsFollow_iff s).mp h
  obtain ⟨tag, loc, switch⟩ := takeStateReport_follows (r := r) (f := f) ⟨tag, loc, switch⟩
  exact (reasonsFollow_iff _).mpr ⟨⟨kept.follows (by simp [stateReason, earthReason]) fire, tag, loc,
    kept.follows (by simp [stateReason, earthReason]) stream, switch⟩, kept.positions position⟩

theorem copied_laws {s u : State} (h : Copied s u) : LawsKept s u := by
  cases h with
  | nothing => exact .refl s
  | foreign => exact .of_readers (fun _ => rfl) (fun _ => rfl) (fun _ => rfl) (fun _ => rfl) fun _ => rfl
  | sample r x u h => exact (takes_kept h).streamLaws (takes_follows h)
  | state r f => exact takeState_laws r f s
  | time n => exact takeTime_laws n s

theorem received_laws {s u : State} (h : Received s u) : LawsKept s u := by
  cases h with
  | formatError | crcError =>
    exact .of_readers (fun _ => rfl) (fun _ => rfl) (fun _ => rfl) (fun _ => rfl) fun _ => rfl
  | nothing => exact .refl s
  | echo f n => exact (orderEcho_kept (free := earthReason) f n s).earthLaws
  | consumed src p =>
    refine .ite ?_ ?_ <;>
    exact .of_readers (fun _ => rfl) (fun _ => rfl) (fun _ => rfl) (fun _ => rfl) fun _ => rfl
  | forwarded bs u h =>
    refine (copied_laws h).trans (.ite ?_ ?_) <;>
    exact .of_readers (fun _ => rfl) (fun _ => rfl) (fun _ => rfl) (fun _ => rfl) fun _ => rfl

/-! ## The dead timer (R111) -/

theorem ask_close_rcs {f : Slot} {s : State} : (ask .close .reclose f s).2.rcs = s.rcs := by
  have answers : ∀ p ∈ (askOrder .close .reclose f s).reports,
      (p.happened = .taken ∨ p.happened = .merged ∨ p.happened = .refused) ∧ p.origin ≠ .operator := by
    unfold askOrder refuseNoSwitch askRecord refuse take
    dsimp only
    split_ifs <;> simp
  have delivered (l : List OrderReport) (t : State) (h : ∀ p ∈ l,
      (p.happened = .taken ∨ p.happened = .merged ∨ p.happened = .refused) ∧ p.origin ≠ .operator) :
      deliverAll l t = t := by
    induction l with
    | nil => rfl
    | cons p l ih =>
      obtain ⟨answer, origin⟩ := h p List.mem_cons_self
      show deliverAll l (deliver p t) = t
      rw [deliver_answer p t answer origin]
      exact ih fun q hq => h q (List.mem_cons_of_mem _ hq)
  show (deliverAll _ _).rcs = s.rcs
  rw [delivered _ _ answers]
  exact (askOrder_rcs_efs .close .reclose f s).1

theorem deadStopped_kept {free : Reason → Prop} (f : Slot) (s : State) :
    RecordsKept free s (s.setSeq f { s.seq f with dead := none }) := by
  refine .setSeq_sameReasons (fun c => ?_) (fun _ => id) rfl
  obtain ⟨_, rest⟩ := c
  exact ⟨fun _ => rfl, rest⟩

/-- A sequencer in DEAD whose dead timer has stopped takes up CLOSING. -/
theorem closing_coherent {q : SeqRecord} {n : OrderNo} (state : q.state = .dead) (timer : q.dead = none)
    (c : q.coherent) : SeqRecord.coherent { q with state := .closing, awaited := some n } := by
  simp only [SeqRecord.coherent, state] at c
  simp [SeqRecord.coherent, timer, c]

theorem askReclose_kept {f : Slot} {s : State} (acts : s.acting f = true) (state : (s.seq f).state = .dead)
    (timer : (s.seq f).dead = none) : RecordsKept earthReason s (askReclose f s) := by
  have asked := ask_kept .close .reclose f s
  have seq : (ask .close .reclose f s).2.seq f = s.seq f := by unfold State.seq; rw [ask_close_rcs]
  have closing (n : OrderNo) : RecordsKept earthReason s ((ask .close .reclose f s).2.setSeq f
      { (ask .close .reclose f s).2.seq f with state := .closing, awaited := some n }) := by
    refine asked.trans (.setSeq_sameReasons (fun c => ?_) (fun n => ?_) rfl)
    · rw [seq] at c ⊢; exact closing_coherent state timer c
    · rw [asked.acting, acts] at n; cases n
  unfold askReclose
  dsimp only
  split
  · exact closing _
  · exact closing _
  · exact asked.trans (enterLockout_kept _ _ _)
  · exact asked.trans (enterLockout_kept _ _ _)

theorem deadExpired_kept {f : Slot} {s : State} (acts : s.acting f = true) (state : (s.seq f).state = .dead) :
    RecordsKept earthReason s (deadExpired f s) := by
  have stopped := deadStopped_kept (free := earthReason) f s
  unfold deadExpired
  dsimp only
  refine .ite (stopped.trans (enterLockout_kept _ _ _)) (.ite (stopped.trans (enterLockout_kept _ _ _))
    (stopped.trans (askReclose_kept acts ?_ ?_)))
  · simpa using state
  · simp

/-! ## Written entries (R152 to R154, R161, R185) -/

/-- A stored feeder record's service takes effect (R70): the feeder leaves service, joins it, or stays. -/
def serviceFollows (f : Slot) (old : FeederRecord) (s : State) : State :=
  if old.inService = true ∧ (s.feeder f).inService = false then feederLeaves f s
  else if old.inService = false ∧ (s.feeder f).inService = true then feederJoins f s
  else s

/-- FIRE follows the new district of a stored feeder record (R161). -/
def districtFollows (f : Slot) (old new : FeederRecord) (s : State) : State :=
  if old.district = new.district then s else alignFire f s

theorem feederStored_eq (f : Slot) (old : FeederRecord) (s : State) : feederStored f old s =
    if old.inService = (s.feeder f).inService ∧ old.district = (s.feeder f).district then
      districtFollows f old (s.feeder f) (serviceFollows f old s)
    else updateBusMode (districtFollows f old (s.feeder f) (serviceFollows f old s)) := rfl

theorem serviceFollows_kept (f : Slot) (old : FeederRecord) (s : State) :
    RecordsKept earthReason s (serviceFollows f old s) := by
  have cleared : RecordsKept earthReason s (s.setElement f .cleared) := setElement_kept _ _ _
  exact .ite (.ite ((cleared.trans (setGroups_kept f none none _)).trans (leaveSequencer_kept _ _)) cleared)
    (.ite (.ite (applyGroup_kept _ _ _ _ _) (.refl s)) (.refl s))

theorem districtFollows_kept (f : Slot) (old new : FeederRecord) (s : State) :
    RecordsKept fireReason s (districtFollows f old new s) := .ite (.refl s) (alignFire_kept f s)

theorem Follows.setFeeder_sameDistrict {f : Slot} {r : FeederRecord} {s : State} {q : Reason}
    (same : (s.feeder f).district = r.district) (h : Follows q s) : Follows q (s.setFeeder f r) := by
  intro g
  have mode : (s.setFeeder f r).feederMode g = s.feederMode g := by
    by_cases e : f = g
    · subst e
      have d : ((s.setFeeder f r).feeder f).district = (s.feeder f).district := by simp [same]
      rw [feederMode_of_district d]; rfl
    · have d : ((s.setFeeder f r).feeder g).district = (s.feeder g).district := by simp [e]
      rw [feederMode_of_district d]; rfl
  have owner : ownerSays (s.setFeeder f r) g q = ownerSays s g q := by
    cases q with
    | fire => simp only [ownerSays, mode]
    | _ => rfl
  rw [owner]
  exact h g

theorem Follows.setFeeder_otherReason {f : Slot} {r : FeederRecord} {s : State} {q : Reason}
    (other : q ≠ .fire) (h : Follows q s) : Follows q (s.setFeeder f r) := by
  intro g
  have owner : ownerSays (s.setFeeder f r) g q = ownerSays s g q := by
    cases q with
    | fire => exact absurd rfl other
    | _ => rfl
  rw [owner]
  exact h g

/-- FIRE of the feeder whose district a write changes follows the new district's mode (R161). -/
theorem districtFollows_follows {f : Slot} {r : FeederRecord} {s t : State}
    (moved : RecordsKept earthReason (s.setFeeder f r) t) (h : Follows .fire s) :
    Follows .fire (districtFollows f (s.feeder f) r t) := by
  unfold districtFollows
  split
  · next same => exact moved.follows earthReason_none.1 (h.setFeeder_sameDistrict same)
  · intro g
    have mode : (alignFire f t).feederMode g = t.feederMode g := by
      have work := alignFire_work f t
      exact feederMode_of_same work.mdu (by rw [work.gst]) g
    rw [holds_alignFire, ownerSays, mode]
    split
    · next e => rw [e]
    · next e =>
      have d : ((s.setFeeder f r).feeder g).district = (s.feeder g).district := by simp [e]
      have owner := moved.owners g .fire earthReason_none.1
      simp only [ownerSays] at owner
      rw [moved.reasons g _ earthReason_none.1, owner, feederMode_of_district d]
      exact h g

theorem feederStored_laws (f : Slot) (r : FeederRecord) (s : State) :
    LawsKept s (feederStored f (s.feeder f) (s.setFeeder f r)) := by
  have moved := serviceFollows_kept f (s.feeder f) (s.setFeeder f r)
  have kept := (moved.mono fireReason_of_earth).trans (districtFollows_kept f (s.feeder f) r _)
  have other {q : Reason} (n : ¬ fireReason q) (h : Follows q s) := kept.follows n
    (h.setFeeder_otherReason (f := f) (r := r) fun e => n (.inl e))
  rw [feederStored_eq, State.feeder_setFeeder, if_pos rfl]
  refine .trans ⟨fun h => kept.coherent h, fun h => ?_⟩ (.ite (.refl _) (updateBusMode_kept _).earthLaws)
  obtain ⟨⟨fire, tag, loc, stream, switch⟩, position⟩ := (reasonsFollow_iff s).mp h
  exact (reasonsFollow_iff _).mpr ⟨⟨districtFollows_follows moved fire, other (by simp [fireReason, earthReason]) tag,
    other (by simp [fireReason, earthReason]) loc, other (by simp [fireReason, earthReason]) stream,
    other (by simp [fireReason, earthReason]) switch⟩, kept.positions position⟩

theorem stores_laws {s u : State} (h : Stores s u) : LawsKept s u := by
  cases h with
  | feeder f r _ _ => exact feederStored_laws f r s
  | _ => exact .of_readers (fun _ => rfl) (fun _ => rfl) (fun _ => rfl) (fun _ => rfl) fun _ => rfl

end Sys2Proof.Machine
end

section
/-! PROOFS. The laws of the records and of the reasons through changes of service and the end of an event: the
obligations O6 and O7. -/

namespace Sys2Proof.Machine

/-! ## The activation of the unit map (R3, R84, R86, R192) -/

/-- The block reasons that an activation of the unit map can give and take. -/
def activationReason (r : Reason) : Prop := r = .stream ∨ switchReason r

/-- The stream of one role at the activation of the unit map (R3). -/
def activateStream (r : Role) (s : State) : State :=
  s.setStream r ((s.stream r).activated (s.samplingAddress r))

theorem activateMap_eq (s : State) : activateMap s = forSlots activateSwitch
    (allRoles.foldl (fun v r => activateStream r v)
      { s with siu := { s.siu with active := s.siu.staged, activated := true }, phe := Phe.powerOn }) := rfl

theorem activateStream_stream (q r : Role) (s : State) : (activateStream q s).stream r =
    if q = r then (s.stream q).activated (s.samplingAddress q) else s.stream r := by
  simp [activateStream]

theorem activateStreams_stream (s : State) (r : Role) :
    (allRoles.foldl (fun v r => activateStream r v) s).stream r =
      (s.stream r).activated (s.samplingAddress r) := by
  have all := foldl_read (g := fun v r => activateStream r v) (fun s r => s.stream r) (fun s => s.siu.active)
    (fun active (r : Role) (q : StreamRecord) => q.activated active[r.val])
    (fun s r => by rw [activateStream_stream, if_pos rfl]; rfl)
    (fun s r q e => by rw [activateStream_stream, if_neg e]) (fun _ _ => rfl) allRoles (by decide) s r
  rw [if_pos (by clear all; revert r; decide)] at all
  exact all

theorem activateMap_stream (s : State) (r : Role) :
    (activateMap s).stream r = (s.stream r).activated s.siu.staged[r.val] := by
  have after (t : State) : (forSlots activateSwitch t).stream r = t.stream r :=
    forSlots_keeps (P := fun u => u.stream r = t.stream r) (g := activateSwitch) (fun f u h => h) t rfl
  rw [activateMap_eq, after, activateStreams_stream]
  rfl

theorem activateMap_kept (s : State) : RecordsKept activationReason s (activateMap s) := by
  have mapped : RecordsKept activationReason s
      { s with siu := { s.siu with active := s.siu.staged, activated := true }, phe := Phe.powerOn } :=
    .of_same rfl rfl (fun _ => rfl) fun f r _ => by cases r <;> rfl
  rw [activateMap_eq]
  exact (mapped.trans (.foldl (fun t r => setStream_kept (absurd (.inl rfl))) _ _)).trans
    (.forSlots (activateSwitch_kept (.inr (.inl rfl))) _)

/-- R16 and R86 at the activation: STREAM is added, and SWITCH follows the health. -/
def enterReasons (f : Slot) (s : State) : State := addReason .stream f (alignSwitch f s)

theorem activateAtEntry_eq (s : State) :
    activateAtEntry s = if s.siu.activated then s else forSlots enterReasons (activateMap s) := rfl

theorem enterReasons_kept (f : Slot) (s : State) : RecordsKept activationReason s (enterReasons f s) :=
  RecordsKept.trans (alignReason_kept (.inr (.inl rfl)) _ _ _) (addReason_kept (.inl rfl) _ _)

theorem holds_enterReasons (f g : Slot) (q : Reason) (s : State) :
    (enterReasons f s).holds g q = if f = g ∧ .stream = q then true
      else if f = g ∧ .switch = q then (s.switch f).health != .reachable else s.holds g q := by
  rw [enterReasons, holds_addReason, alignSwitch, holds_alignReason]

theorem enterReasons_work (f : Slot) (s : State) : RcsWork s (enterReasons f s) :=
  (alignReason_work _ _ _ _).trans (addReason_work _ _ _)

theorem forSlots_enterReasons_work (s : State) : RcsWork s (forSlots enterReasons s) :=
  forSlots_keeps (fun f t h => h.trans (enterReasons_work f t)) s (.refl s)

theorem enterReasons_stream {s : State} (absent : ∀ r, (s.stream r).state = .absent) :
    Follows .stream (forSlots enterReasons s) := by
  intro f
  have held := forSlots_read (fun t f => t.holds f .stream) (fun _ => ()) (fun _ _ _ => true)
    (fun s f => by rw [holds_enterReasons, if_pos ⟨rfl, rfl⟩])
    (fun s f g e => by rw [holds_enterReasons, if_neg (fun c => e c.1), if_neg (fun c => e c.1)])
    (fun _ _ => rfl) s f
  rw [show (forSlots enterReasons s).holds f .stream = true from held, ownerSays, State.stream,
    (forSlots_enterReasons_work s).siu]
  rw [show s.siu.streams[f.role] = s.stream f.role from rfl, absent]
  rfl

theorem enterReasons_switch (s : State) : Follows .switch (forSlots enterReasons s) := by
  intro f
  have held := forSlots_read (fun t f => t.holds f .switch) (fun t => t.oru)
    (fun oru f _ => (oru.switches[f]).health != .reachable)
    (fun s f => by rw [holds_enterReasons, if_neg (by simp), if_pos ⟨rfl, rfl⟩]; rfl)
    (fun s f g e => by rw [holds_enterReasons, if_neg (fun c => e c.1), if_neg (fun c => e c.1)])
    (fun s f => (enterReasons_work f s).oru) s f
  rw [show (forSlots enterReasons s).holds f .switch = ((s.switch f).health != .reachable) from held,
    ownerSays, (forSlots_enterReasons_work s).switch_eq]

theorem activateAtEntry_laws (s : State) : LawsKept s (activateAtEntry s) := by
  rw [activateAtEntry_eq]
  refine .ite (.refl s) ?_
  have kept := (activateMap_kept s).trans (.forSlots enterReasons_kept _)
  refine ⟨kept.coherent, fun h => ?_⟩
  obtain ⟨⟨fire, tag, loc, -, -⟩, position⟩ := (reasonsFollow_iff s).mp h
  refine (reasonsFollow_iff _).mpr ⟨⟨kept.follows ?_ fire, kept.follows ?_ tag, kept.follows ?_ loc,
    enterReasons_stream fun r => by rw [activateMap_stream]; rfl, enterReasons_switch _⟩,
    kept.positions position⟩
  all_goals simp [activationReason, switchReason, earthReason]

/-! ## Service (R192 to R194) -/

theorem LawsKept.setMgr (m : Mgr) (s : State) : LawsKept s { s with mgr := m } :=
  .of_readers (fun _ => rfl) (fun _ => rfl) (fun _ => rfl) (fun _ => rfl) fun _ => rfl

theorem cleared_laws (s : State) : LawsKept s (clearGroups (clearElements s)) :=
  .of_readers (fun _ => rfl) (fun _ => rfl) (fun _ => rfl) (fun _ => rfl) fun _ => rfl

theorem enterService_laws (src : RingAddr) (s : State) : LawsKept s (enterService src s) := by
  have served (f : Slot) (t : State) : LawsKept t (setActiveAtEntry f t) :=
    .ite (setGroups_kept (free := earthReason) f _ _ t).earthLaws (.refl t)
  have evaluated := (activateAtEntry_laws s).trans (evaluateModes_laws _)
  unfold enterService
  exact (evaluated.trans (.setMgr _ _)).trans (.forSlots served _)

theorem leaveService_laws (s : State) : LawsKept s (leaveService s) := by
  have left : LawsKept s (forSlots leaveSequencer (efsLeaveService s)) :=
    ((efsLeaveService_kept s).trans (.forSlots leaveSequencer_kept _)).earthLaws
  unfold leaveService
  exact (left.trans (.setMgr _ _)).trans (cleared_laws _)

/-- R104: at RESTART a feeder's set is as its owners say. -/
theorem holds_setRestartReasons (f g : Slot) (r : Reason) (s : State) :
    (setRestartReasons f s).holds g r = if f = g then (restartReasons s f).has r else s.holds g r := by
  unfold setRestartReasons State.holds
  rw [State.seq_setSeq]
  split <;> rfl

theorem setRestartReasons_kept (f : Slot) (s : State) :
    RecordsKept (fun _ => True) s (setRestartReasons f s) :=
  .setSeq id (fun _ => id) fun _ h => absurd trivial h

theorem setRestartReasons_work (f : Slot) (s : State) : RcsWork s (setRestartReasons f s) := .setSeq _ _ _

theorem forSlots_setRestartReasons_work (s : State) : RcsWork s (forSlots setRestartReasons s) :=
  forSlots_keeps (fun f t h => h.trans (setRestartReasons_work f t)) s (.refl s)

/-- What R104 gives a feeder at RESTART does not depend on what it has given the others. -/
theorem restartReasons_setRestartReasons (f g : Slot) (s : State) :
    restartReasons (setRestartReasons f s) g = restartReasons s g := by
  have earth : ((setRestartReasons f s).seq g).reasons.earth = (s.seq g).reasons.earth := by
    unfold setRestartReasons
    rw [State.seq_setSeq]
    split
    · next e => subst e; rfl
    · rfl
  have operator : ((setRestartReasons f s).seq g).reasons.operator = (s.seq g).reasons.operator := by
    unfold setRestartReasons
    rw [State.seq_setSeq]
    split
    · next e => subst e; rfl
    · rfl
  unfold restartReasons
  rw [earth, operator]
  rfl

theorem holds_forSlots_setRestartReasons (f : Slot) (r : Reason) (s : State) :
    (forSlots setRestartReasons s).holds f r = (restartReasons s f).has r :=
  forSlots_read (g := setRestartReasons) (fun t f => t.holds f r) restartReasons (fun after f _ => (after f).has r)
    (fun s f => by rw [holds_setRestartReasons, if_pos rfl])
    (fun s f g e => by rw [holds_setRestartReasons, if_neg e])
    (fun s f => funext fun g => restartReasons_setRestartReasons f g s) s f

/-- R104: after RESTART every reason that follows an owner is where the owner says; every stream is ABSENT. -/
theorem restartReasons_follow {r : Reason} {s : State} (h : r ≠ .hunt ∧ r ≠ .earth ∧ r ≠ .operator)
    (absent : ∀ r, (s.stream r).state = .absent) : Follows r (forSlots setRestartReasons s) := by
  intro f
  have work := forSlots_setRestartReasons_work s
  have mode := feederMode_of_same work.mdu (by rw [work.gst]) f
  have stream : ((forSlots setRestartReasons s).stream f.role).state = .absent := by
    rw [State.stream, work.siu]; exact absent _
  rw [holds_forSlots_setRestartReasons]
  obtain ⟨hunt, earth, operator⟩ := h
  cases r with
  | hunt => exact absurd rfl hunt
  | earth => exact absurd rfl earth
  | operator => exact absurd rfl operator
  | stream => simp only [ownerSays, stream]; rfl
  | fire => simp only [ownerSays, mode]; rfl
  | _ => simp only [ownerSays, work.switch_eq]; rfl

theorem abandonOrder_kept {free : Reason → Prop} (f : Slot) (s : State) :
    RecordsKept free s (abandonOrder f s) := putOrder_kept fun _ => idled_coherent _

theorem restart_laws (s : State) : LawsKept s (restart s) := by
  have emptied : LawsKept s (emptyQueues s) :=
    .of_readers (fun _ => rfl) (fun _ => rfl) (fun _ => rfl) (fun _ => rfl) fun _ => rfl
  have abandoned := (activateMap_kept (emptyQueues s)).trans (.forSlots abandonOrder_kept _)
  have absent (r : Role) :
      ((forSlots abandonOrder (activateMap (emptyQueues s))).stream r).state = .absent := by
    have after (t : State) : (forSlots abandonOrder t).stream r = t.stream r :=
      forSlots_keeps (P := fun u => u.stream r = t.stream r) (g := abandonOrder) (fun f u h => h) t rfl
    rw [after, activateMap_stream]; rfl
  have cleared (t : State) : RecordsKept (fun _ => True) t
      (efsRestart (forSlots restartSequencer (forSlots setRestartReasons t))) :=
    ((RecordsKept.forSlots setRestartReasons_kept _).trans (.forSlots restartSequencer_kept _)).trans
      ((efsRestart_kept _).mono fun _ _ => trivial)
  have reasons (t : State) (h : ∀ r, (t.stream r).state = .absent) (hp : ∀ f, PositionDerived t f) :
      ReasonsFollow (efsRestart (forSlots restartSequencer (forSlots setRestartReasons t))) := by
    have after : RecordsKept earthReason (forSlots setRestartReasons t)
        (efsRestart (forSlots restartSequencer (forSlots setRestartReasons t))) :=
      (RecordsKept.forSlots restartSequencer_kept _).trans (efsRestart_kept _)
    have follow {r : Reason} (n : r ≠ .hunt ∧ r ≠ .earth ∧ r ≠ .operator) : Follows r _ :=
      after.follows (by simp [earthReason, n]) (restartReasons_follow n h)
    exact (reasonsFollow_iff _).mpr ⟨⟨follow (by simp), follow (by simp), follow (by simp), follow (by simp),
      follow (by simp)⟩, (cleared t).positions hp⟩
  unfold restart
  refine ⟨fun h => (cleared _).coherent ((cleared_laws _).coherent ((LawsKept.setMgr _ _).coherent
    (abandoned.coherent (emptied.coherent h)))), fun h => reasons _ absent ?_⟩
  exact abandoned.positions ((reasonsFollow_iff _).mp (emptied.follows h)).2

end Sys2Proof.Machine
end

section
/-! PROOFS. The laws of the records and of the reasons through every event and its end: the obligations O6 and O7. -/

namespace Sys2Proof.Machine

theorem operator_none : ¬ Reason.fire = .operator ∧ ¬ Reason.tag = .operator ∧ ¬ Reason.local = .operator ∧
    ¬ Reason.stream = .operator ∧ ¬ Reason.switch = .operator := only_none (.inr (.inr rfl))

theorem earth_none : ¬ Reason.fire = .earth ∧ ¬ Reason.tag = .earth ∧ ¬ Reason.local = .earth ∧
    ¬ Reason.stream = .earth ∧ ¬ Reason.switch = .earth := only_none (.inr (.inl rfl))

theorem clearLatches_laws (s : State) : LawsKept s (clearLatches s) := by
  refine .of_readers (fun _ => rfl) (fun _ => rfl) (fun _ => rfl) (fun r => ?_) fun _ => rfl
  have stream : (clearLatches s).stream r = { s.stream r with notDropped := true } := mapV_get _ _ r
  rw [stream]

theorem executes_laws {s u : State} (h : Executes s u) : LawsKept s u := by
  cases h with
  | nothing => exact .refl s
  | write t size i count bs =>
    exact writeTable_keeps (P := LawsKept s) (fun t u h k => k.trans (stores_laws h))
      (fun t k => k.trans (evaluateModes_laws t)) t size i count bs s (.refl s)
  | latches => exact clearLatches_laws s
  | operate k f => exact (ask_kept k .operator f s).earthLaws
  | block f => exact (addReason_kept (free := (· = .operator)) rfl f s).laws operator_none
  | unblock f => exact (removeReason_kept (free := (· = .operator)) rfl f s).laws operator_none
  | resetLockout f => exact (resetLockout_kept (free := (· = .earth)) rfl f s).laws earth_none
  | resetSwitch f => exact resetSwitch_laws f s
  | override d o =>
    unfold setOverride
    refine .trans ?_ (evaluateModes_laws _)
    exact .of_readers (fun _ => rfl) (fun _ => rfl) (fun _ => rfl) (fun _ => rfl) fun _ => rfl
  | startHunt _ => exact (startHunt_kept .manual s).earthLaws
  | abortHunt => exact (abortHunt_kept .request s).earthLaws
  | enterService src _ _ => exact enterService_laws src s
  | leaveService _ => exact leaveService_laws s
  | restart => exact restart_laws s

theorem dayTick_laws (s : State) : LawsKept s (dayTick s) := .ite (tick_laws s) (.refl s)

theorem minuteTick_laws (s : State) : LawsKept s (minuteTick s) := .ite (tick_laws s) (.refl s)

theorem event_laws {s u : State} (h : Event s u) : LawsKept s u := by
  cases h with
  | tick => exact tick_laws s
  | day => exact (dayTick_laws s).trans (dayWork_laws _)
  | minute => exact (minuteTick_laws s).trans (minuteWork_laws _)
  | frame u h => exact received_laws h
  | frameEnd => exact .of_readers (fun _ => rfl) (fun _ => rfl) (fun _ => rfl) (fun _ => rfl) fun _ => rfl
  | streamLost r => exact (streamLost_kept r s).streamLaws streamLost_follows
  | switchSilent f => exact stateSupervisionExpired_laws f s
  | echoMissing f h => exact (echoExpired_kept f s h).earthLaws
  | orderFailed f _ => exact confirmExpired_laws f s
  | deadTimer f acts dead => exact (deadExpired_kept acts dead).earthLaws
  | reclaimTimer f reclaim => exact (reclaimExpired_kept (free := earthReason) f s reclaim).earthLaws
  | huntLimit =>
    have unmarked : LawsKept s { s with due := { s.due with huntLimit := false } } :=
      .of_readers (fun _ => rfl) (fun _ => rfl) (fun _ => rfl) (fun _ => rfl) fun _ => rfl
    exact unmarked.trans (abortHunt_kept _ _).earthLaws
  | request q rest c content v _ _ h =>
    have popped : LawsKept s (popRequest rest s) :=
      .of_readers (fun _ => rfl) (fun _ => rfl) (fun _ => rfl) (fun _ => rfl) fun _ => rfl
    refine (popped.trans (executes_laws h)).trans ?_
    exact .of_readers (fun _ => rfl) (fun _ => rfl) (fun _ => rfl) (fun _ => rfl) fun _ => rfl

theorem startOrder_laws (f : Slot) (s : State) : LawsKept s (startOrder f s) := by
  refine (orderStarted_kept (free := earthReason) f s).earthLaws.trans ?_
  exact .of_readers (fun _ => rfl) (fun _ => rfl) (fun _ => rfl) (fun _ => rfl) fun _ => rfl

theorem chooseOwn_laws (s : State) : LawsKept s (chooseOwn s) := by
  unfold chooseOwn
  split
  · exact .of_readers (fun _ => rfl) (fun _ => rfl) (fun _ => rfl) (fun _ => rfl) fun _ => rfl
  · split
    · exact .of_readers (fun _ => rfl) (fun _ => rfl) (fun _ => rfl) (fun _ => rfl) fun _ => rfl
    · exact .refl s

theorem chooseForward_laws (s : State) : LawsKept s (chooseForward s) := by
  unfold chooseForward
  split
  · exact .of_readers (fun _ => rfl) (fun _ => rfl) (fun _ => rfl) (fun _ => rfl) fun _ => rfl
  · exact .ite (chooseOwn_laws s) (.refl s)

theorem arbitrate_laws (s : State) : LawsKept s (arbitrate s) := by
  unfold arbitrate chooseFrame
  split
  · split
    · split
      · exact startOrder_laws _ s
      · exact chooseForward_laws s
    · exact chooseForward_laws s
  · exact .refl s

theorem finish_laws (s : State) : LawsKept s (finish s) := by
  have flushed : LawsKept s (flushNotices s) :=
    .of_readers (fun _ => rfl) (fun _ => rfl) (fun _ => rfl) (fun _ => rfl) fun _ => rfl
  exact flushed.trans (arbitrate_laws _)

/-! ## The obligations -/

section
variable (straps : RingAddr) (f : Slot) (r : Role)

@[simp] theorem powerOn_stream : (State.powerOn straps).stream r = .powerOn := Vector.getElem_replicate _

@[simp] theorem powerOn_pheStream : (State.powerOn straps).pheStream r = .empty := Vector.getElem_replicate _

@[simp] theorem powerOn_element : (State.powerOn straps).element f = .cleared := Vector.getElem_replicate _

@[simp] theorem powerOn_trip : (State.powerOn straps).trip f = .absent := Vector.getElem_replicate _

@[simp] theorem powerOn_feeder : (State.powerOn straps).feeder f = .powerOn := Vector.getElem_replicate _

@[simp] theorem powerOn_activeGroup : (State.powerOn straps).activeGroup f = none := Vector.getElem_replicate _

@[simp] theorem powerOn_pendingGroup : (State.powerOn straps).pendingGroup f = none := Vector.getElem_replicate _

@[simp] theorem powerOn_switch : (State.powerOn straps).switch f = .powerOn := Vector.getElem_replicate _

@[simp] theorem powerOn_order : (State.powerOn straps).order f = .powerOn := Vector.getElem_replicate _

@[simp] theorem powerOn_seq : (State.powerOn straps).seq f = .powerOn := Vector.getElem_replicate _

@[simp] theorem powerOn_feederMode : (State.powerOn straps).feederMode f = .season := Vector.getElem_replicate _

@[simp] theorem powerOn_acting : (State.powerOn straps).acting f = false := rfl

end

theorem powerOn_recordsCoherent (straps : RingAddr) : RecordsCoherent (State.powerOn straps) := by
  intro f
  rw [powerOn_seq, powerOn_order]
  simp [SeqRecord.coherent, OrderRecord.coherent, SeqRecord.powerOn, OrderRecord.powerOn]

theorem powerOn_reasonsFollow (straps : RingAddr) : ReasonsFollow (State.powerOn straps) := by
  intro f
  simp only [State.holds, powerOn_seq, powerOn_feederMode, powerOn_switch, powerOn_stream, powerOn_order]
  exact ⟨rfl, rfl, rfl, rfl, rfl, rfl⟩

/-- Settles O6: the records are coherent at power-on, and every event and its end keep them so. -/
theorem recordsStayCoherent : Obligations.RecordsStayCoherent := fun s t =>
  step_keeps (P := RecordsCoherent) (fun _ _ h => h) powerOn_recordsCoherent
    (fun _ u h event => (finish_laws u).coherent ((event_laws event).coherent h)) s t

/-- Settles O7: the reasons follow their owners at power-on, and every event and its end keep them so. -/
theorem reasonsKeepFollowing : Obligations.ReasonsKeepFollowing := fun s t =>
  step_keeps (P := ReasonsFollow) (fun _ _ h => h) powerOn_reasonsFollow
    (fun _ u h event => (finish_laws u).follows ((event_laws event).follows h)) s t

end Sys2Proof.Machine
end

section
/-! PROOFS. The law of the hunt (R136): the feeder under test alone holds HUNT, while HUNTING alone. EFS's
operations first. -/

namespace Sys2Proof.Machine

/-! ## What the law looks at -/

/-- No feeder has gained or lost HUNT, and the feeder under test and its step state are as they were. -/
structure HuntStill (s t : State) : Prop where
  holds : ∀ f, t.holds f .hunt = s.holds f .hunt
  underTest : t.efs.hunt.underTest = s.efs.hunt.underTest
  step : t.efs.hunt.step = s.efs.hunt.step

/-- No feeder holds HUNT. -/
def HuntLifted (s : State) : Prop := ∀ f, s.holds f .hunt = false

/-- No feeder holds HUNT and none is under test. -/
structure HuntIdle (s : State) : Prop where
  lifted : HuntLifted s
  underTest : s.efs.hunt.underTest = none
  step : s.efs.hunt.step = none

theorem HuntIdle.coherent {s : State} (h : HuntIdle s) : HuntCoherent s := by
  obtain ⟨lifted, underTest, step⟩ := h
  refine ⟨fun f => ?_, fun some => ?_, ?_⟩
  · rw [lifted, underTest]; rfl
  · rw [underTest] at some; cases some
  · rw [underTest, step]; rfl

theorem HuntCoherent.idle_of_noTest {s : State} (h : HuntCoherent s) (none : s.efs.hunt.underTest = none) :
    HuntIdle s := by
  obtain ⟨held, -, step⟩ := h
  refine ⟨fun f => ?_, none, ?_⟩
  · rw [held, none]; rfl
  · rw [none] at step; simpa using step.symm

theorem HuntCoherent.idle {s : State} (h : HuntCoherent s) (n : s.efs.record.state ≠ .hunting) :
    HuntIdle s := by
  refine h.idle_of_noTest ?_
  by_contra some
  exact n (h.2.1 (Option.isSome_iff_ne_none.mpr some))

namespace HuntStill

theorem refl (s : State) : HuntStill s s := ⟨fun _ => rfl, rfl, rfl⟩

theorem trans {s t u : State} (a : HuntStill s t) (b : HuntStill t u) : HuntStill s u :=
  ⟨fun f => (b.holds f).trans (a.holds f), b.underTest.trans a.underTest, b.step.trans a.step⟩

theorem ite {c : Prop} [Decidable c] {s t u : State} (a : HuntStill s t) (b : HuntStill s u) :
    HuntStill s (if c then t else u) := by
  split <;> assumption

theorem foldl {α : Type} {g : State → α → State} (h : ∀ s a, HuntStill s (g s a)) (l : List α) (s : State) :
    HuntStill s (l.foldl g s) :=
  foldl_keeps (P := HuntStill s) (fun t a k => k.trans (h t a)) l s (.refl s)

theorem forSlots {g : Slot → State → State} (h : ∀ f s, HuntStill s (g f s)) (s : State) :
    HuntStill s (Machine.forSlots g s) := foldl (fun s f => h f s) _ s

/-- The law looks at RCS and EFS alone. -/
theorem of_same {s t : State} (rcs : t.rcs = s.rcs) (efs : t.efs = s.efs) : HuntStill s t := by
  refine ⟨fun f => ?_, by rw [efs], by rw [efs]⟩
  unfold State.holds State.seq
  rw [rcs]

/-- What gives and takes other block reasons alone, and leaves EFS as it is. -/
theorem of_kept {s t : State} (a : RecordsKept (· ≠ .hunt) s t) (efs : t.efs = s.efs) : HuntStill s t :=
  ⟨fun f => a.reasons f .hunt (fun h => h rfl), by rw [efs], by rw [efs]⟩

theorem setEfs (x : EfsRecord) (s : State) : HuntStill s (s.setEfs x) := ⟨fun _ => rfl, rfl, rfl⟩

theorem setHunt {x : HuntRecord} {s : State} (underTest : x.underTest = s.efs.hunt.underTest)
    (step : x.step = s.efs.hunt.step) : HuntStill s (s.setHunt x) := ⟨fun _ => rfl, underTest, step⟩

theorem raise (o : Option Slot) (n : Option SampleNo) (b : NoticeBody) (s : State) :
    HuntStill s (Machine.raise o n b s) := of_same rfl rfl

theorem lifted {s t : State} (a : HuntStill s t) (h : HuntLifted s) : HuntLifted t :=
  fun f => (a.holds f).trans (h f)

theorem idle {s t : State} (a : HuntStill s t) (h : HuntIdle s) : HuntIdle t :=
  ⟨a.lifted h.lifted, a.underTest.trans h.underTest, a.step.trans h.step⟩

/-- Where EFS's state stays too, the law stays. -/
theorem coherent {s t : State} (a : HuntStill s t) (state : t.efs.record.state = s.efs.record.state)
    (h : HuntCoherent s) : HuntCoherent t := by
  obtain ⟨held, hunting, step⟩ := h
  refine ⟨fun f => ?_, fun some => ?_, ?_⟩
  · rw [a.holds, a.underTest]; exact held f
  · rw [a.underTest] at some; rw [state]; exact hunting some
  · rw [a.underTest, a.step]; exact step

end HuntStill

/-- The number of the order in flight is none of the law's. -/
theorem HuntCoherent.setOrderNumber {s : State} (h : HuntCoherent s) (n : Option OrderNo) :
    HuntCoherent (s.setHunt { s.efs.hunt with order := n }) := (HuntStill.setHunt rfl rfl).coherent rfl h

/-! ## RCS and ORU under EFS -/

theorem addReason_still {r : Reason} (h : r ≠ .hunt) (f : Slot) (s : State) : HuntStill s (addReason r f s) :=
  .of_kept (addReason_kept (free := (· ≠ .hunt)) h f s) (addReason_work r f s).efs

theorem demandLockout_still (f : Slot) (s : State) : HuntStill s (demandLockout f s) :=
  .of_kept (demandLockout_kept f s) (demandLockout_work f s).efs

theorem tripReport_still (i : Bool) (f : Slot) (s : State) : HuntStill s (tripReport i f s) :=
  .of_kept (tripReport_kept i f s) (tripReport_work i f s).efs

theorem efsAsk_still (k : OrderKind) (f : Slot) (s : State) : HuntStill s (efsAsk k f s).2 :=
  .of_same (efsAsk_rcs k f s) (efsAsk_efs k f s)

theorem leftOpen_still (f : Slot) (s : State) : HuntStill s (demandLockout f (addReason .earth f s)) :=
  (addReason_still (by simp) f s).trans (demandLockout_still f _)

/-! ## Outcomes and the bus trip -/

theorem writeOutcome_still (o : EarthOutcome) (g : Option Slot) (s : State) :
    HuntStill s (writeOutcome o g s) := ⟨fun _ => rfl, rfl, rfl⟩

theorem enterState_still (x : EfsState) (s : State) : HuntStill s (enterState x s) := .setEfs _ s

theorem endEpisode_still (o : EarthOutcome) (g : Option Slot) (s : State) : HuntStill s (endEpisode o g s) :=
  (enterState_still .quiet s).trans (writeOutcome_still _ _ _)

theorem busTripFeeder_still (a : State × SlotSet) (f : Slot) : HuntStill a.1 (busTripFeeder a f).1 := by
  have h := (addReason_still (r := .earth) (by simp) f a.1).trans (efsAsk_still .open f _)
  unfold busTripFeeder
  dsimp only
  split
  · split
    · exact h.trans (.setEfs _ _)
    · exact h.trans (.setEfs _ _)
    · exact h
  · exact .refl _

theorem busTrip_still (s : State) : HuntStill s (busTrip s) := by
  have feeders (l : List Slot) (a : State × SlotSet) : HuntStill a.1 (l.foldl busTripFeeder a).1 := by
    induction l generalizing a with
    | nil => exact .refl _
    | cons f l ih => exact (busTripFeeder_still a f).trans (ih _)
  exact ((feeders allSlots (s, SlotSet.empty)).trans (.raise _ _ _ _)).trans (enterState_still _ _)

theorem huntExhausted_still (s : State) : HuntStill s (huntExhausted s) := by
  have h := (enterState_still .persistent s).trans (writeOutcome_still .persistent none _)
  unfold huntExhausted
  dsimp only
  split
  · exact h.trans (busTrip_still _)
  · exact h

/-! ## The feeder under test -/

theorem nextIndex_still (s : State) : HuntStill s (nextIndex s) := .setHunt rfl rfl

theorem clearStep_idle {s : State} (h : HuntLifted s) : HuntIdle (clearStep s) := ⟨h, rfl, rfl⟩

/-- Taken from the feeder under test, HUNT is held by none. -/
theorem removeHunt_lifted {f : Slot} {s : State} (h : HuntCoherent s) (test : s.efs.hunt.underTest = some f) :
    HuntLifted (removeReason .hunt f s) := by
  intro g
  rw [holds_removeReason, h.1 g, test]
  by_cases e : f = g <;> simp [e]

theorem removeHunt_efs (f : Slot) (s : State) : (removeReason .hunt f s).efs = s.efs :=
  (removeReason_work .hunt f s).efs

theorem hunting_of_test {f : Slot} {s : State} (h : HuntCoherent s) (test : s.efs.hunt.underTest = some f) :
    s.efs.record.state = .hunting := h.2.1 (by rw [test]; rfl)

/-- A step that has ended leaves the hunt HUNTING, with no feeder under test (R137, R139). -/
theorem stepEnded_idle {f : Slot} {s : State} (h : HuntCoherent s) (test : s.efs.hunt.underTest = some f) :
    HuntIdle (nextIndex (clearStep (removeReason .hunt f s))) ∧
      (nextIndex (clearStep (removeReason .hunt f s))).efs.record.state = .hunting := by
  have hunting := hunting_of_test h test
  exact ⟨(nextIndex_still _).idle (clearStep_idle (removeHunt_lifted h test)), hunting⟩

theorem beginStep_coherent {f : Slot} {s : State} (h : HuntIdle s) (state : s.efs.record.state = .hunting) :
    HuntCoherent (beginStep f s) := by
  have efs : (beginStep f s).efs = { s.efs with hunt := { s.efs.hunt with
      underTest := some f, step := some .opening, countdown := none, order := none } } :=
    (addReason_work .hunt f _).efs
  refine ⟨fun g => ?_, fun _ => ?_, ?_⟩
  · have held : (beginStep f s).holds g .hunt = if f = g ∧ Reason.hunt = .hunt then true else s.holds g .hunt :=
      holds_addReason .hunt .hunt f g _
    rw [held, h.lifted, efs]
    by_cases e : f = g <;> simp [e]
  · rw [efs]; exact state
  · rw [efs]; rfl

/-- The law where the steps of a hunt start: no feeder is under test, and the state is HUNTING. -/
theorem startSteps_coherent (n : Nat) (s : State) (h : HuntIdle s) (state : s.efs.record.state = .hunting) :
    HuntCoherent (startSteps n s) := by
  induction n generalizing s with
  | zero => exact h.coherent
  | succ n ih =>
    unfold startSteps
    split
    · exact ((huntExhausted_still s).idle h).coherent
    · next f _ =>
      split
      · have skipped : HuntStill s (nextIndex (raiseStep false f s)) :=
          .trans (.raise _ _ _ _) (nextIndex_still _)
        exact ih _ (skipped.idle h) state
      · have began := beginStep_coherent (f := f) h state
        have asked := (efsAsk_still .open f (beginStep f s)).coherent (by rw [efsAsk_efs]) began
        have test : (efsAsk .open f (beginStep f s)).2.efs.hunt.underTest = some f := by
          rw [efsAsk_efs]
          exact congrArg (fun e : Efs => e.hunt.underTest) (addReason_work .hunt f _).efs
        dsimp only
        split
        · exact asked.setOrderNumber _
        · exact asked.setOrderNumber _
        · obtain ⟨idle, hunting⟩ := stepEnded_idle asked test
          exact ih _ idle hunting

theorem endStep_coherent {f : Slot} {s : State} (h : HuntCoherent s) (test : s.efs.hunt.underTest = some f) :
    HuntCoherent (endStep f s) := by
  obtain ⟨idle, hunting⟩ := stepEnded_idle h test
  exact startSteps_coherent _ _ idle hunting

theorem startHunt_coherent {o : HuntOrigin} {s : State} (h : HuntIdle s) : HuntCoherent (startHunt o s) :=
  startSteps_coherent _ _ ⟨h.lifted, rfl, rfl⟩ rfl

theorem decide131_coherent {s : State} (h : HuntIdle s) : HuntCoherent (decide131 s) := by
  unfold decide131
  split
  · exact ((busTrip_still s).idle h).coherent
  · split
    · exact startHunt_coherent h
    · exact ((enterState_still _ s).idle h).coherent

/-! ## Aborts -/

theorem abortEnd_coherent {s : State} (h : HuntLifted s) : HuntCoherent (abortEnd s) := by
  have idle : HuntIdle (clearStep (writeOutcome .aborted s.efs.hunt.underTest s)) :=
    clearStep_idle ((writeOutcome_still _ _ s).lifted h)
  refine HuntIdle.coherent ?_
  unfold abortEnd
  dsimp only
  split
  · exact (busTrip_still _).idle idle
  · split
    · exact (enterState_still _ _).idle idle
    · split
      · exact (busTrip_still _).idle idle
      · split
        · exact ((enterState_still _ _).trans (.setEfs _ _)).idle idle
        · exact (enterState_still _ _).idle idle

theorem restoreFailed_coherent {f : Slot} {s : State} (h : HuntCoherent s)
    (test : s.efs.hunt.underTest = some f) : HuntCoherent (restoreFailed f s) := by
  have demanded := demandLockout_still f s
  have efs : (demandLockout f s).efs = s.efs := (demandLockout_work f s).efs
  have kept := demanded.coherent (by rw [efs]) h
  have still : (demandLockout f s).efs.hunt.underTest = some f := by rw [efs]; exact test
  unfold restoreFailed
  dsimp only
  split
  · exact endStep_coherent kept still
  · exact abortEnd_coherent (removeHunt_lifted kept still)

theorem askRestore_coherent {f : Slot} {s : State} (h : HuntCoherent s) (test : s.efs.hunt.underTest = some f) :
    HuntCoherent (askRestore f s) := by
  obtain ⟨held, hunting, step⟩ := h
  have restoring : HuntCoherent
      (s.setHunt { s.efs.hunt with step := some .restoring, countdown := none, order := none }) :=
    ⟨held, hunting, by rw [State.setHunt]; simp [test]⟩
  have asked := (efsAsk_still .close f _).coherent (by rw [efsAsk_efs]) restoring
  unfold askRestore
  dsimp only
  split
  · exact asked.setOrderNumber _
  · exact asked.setOrderNumber _
  · exact restoreFailed_coherent asked (by rw [efsAsk_efs]; exact test)

theorem abortRestore_coherent {s : State} (h : HuntCoherent s) : HuntCoherent (abortRestore s) := by
  unfold abortRestore
  split
  · exact h
  · next test _ => exact askRestore_coherent h test
  · exact h
  · next test _ => exact abortEnd_coherent (removeHunt_lifted h test)
  · next a b c d =>
    refine abortEnd_coherent (h.idle_of_noTest ?_).lifted
    obtain ⟨-, -, step⟩ := h
    cases test : s.efs.hunt.underTest with
    | none => rfl
    | some f =>
      rw [test] at step
      obtain ⟨x, hx⟩ := Option.isSome_iff_exists.mp step.symm
      cases x
      · exact absurd hx (a f test)
      · exact absurd hx (b f test)
      · exact absurd hx (c f test)
      · exact absurd hx (d f test)

theorem abortUnderBan_coherent {s : State} (h : HuntCoherent s) : HuntCoherent (abortUnderBan s) := by
  unfold abortUnderBan
  dsimp only
  refine abortEnd_coherent ((HuntStill.setHunt rfl rfl).lifted ?_)
  split
  · next f test =>
    have left := leftOpen_still f s
    have work := (addReason_work .earth f s).trans (demandLockout_work f _)
    exact removeHunt_lifted (left.coherent (by rw [work.efs]) h) (left.underTest.trans test)
  · next none => exact (h.idle_of_noTest none).lifted

theorem abortHunt_coherent {c : AbortCause} {s : State} (h : HuntCoherent s) : HuntCoherent (abortHunt c s) := by
  have caused : HuntCoherent (s.setHunt { s.efs.hunt with abortCause := c }) :=
    (HuntStill.setHunt rfl rfl).coherent rfl h
  unfold abortHunt
  dsimp only
  split
  · split
    · exact abortUnderBan_coherent caused
    · exact abortRestore_coherent caused
  · exact h

end Sys2Proof.Machine
end

section
/-! PROOFS. The law of the hunt (R136) through EFS's completions and reports, and through every event: the
obligation O8. -/

namespace Sys2Proof.Machine

/-! ## What keeps the law -/

/-- What keeps the law of the hunt. -/
def HuntKept (s t : State) : Prop := HuntCoherent s → HuntCoherent t

namespace HuntKept

theorem refl (s : State) : HuntKept s s := id

theorem trans {s t u : State} (a : HuntKept s t) (b : HuntKept t u) : HuntKept s u := fun h => b (a h)

theorem ite {c : Prop} [Decidable c] {s t u : State} (a : HuntKept s t) (b : HuntKept s u) :
    HuntKept s (if c then t else u) := by
  split <;> assumption

theorem foldl {α : Type} {g : State → α → State} (h : ∀ s a, HuntKept s (g s a)) (l : List α) (s : State) :
    HuntKept s (l.foldl g s) :=
  foldl_keeps (P := HuntKept s) (fun t a k => k.trans (h t a)) l s (.refl s)

theorem forSlots {g : Slot → State → State} (h : ∀ f s, HuntKept s (g f s)) (s : State) :
    HuntKept s (Machine.forSlots g s) := foldl (fun s f => h f s) _ s

theorem of_same {s t : State} (rcs : t.rcs = s.rcs) (efs : t.efs = s.efs) : HuntKept s t :=
  (HuntStill.of_same rcs efs).coherent (by rw [efs])

/-- What gives and takes other block reasons alone, and leaves EFS as it is. -/
theorem of_kept {s t : State} (a : RecordsKept (· ≠ .hunt) s t) (efs : t.efs = s.efs) : HuntKept s t :=
  (HuntStill.of_kept a efs).coherent (by rw [efs])

end HuntKept

/-! ## EFS's completions (R127 to R145) -/

theorem HuntCoherent.ite {c : Prop} [Decidable c] {s t : State} (h : HuntCoherent s) (k : HuntCoherent t) :
    HuntCoherent (if c then s else t) := by
  split <;> assumption

theorem HuntIdle.setEfs {s : State} (h : HuntIdle s) (x : EfsRecord) : HuntIdle (s.setEfs x) :=
  (HuntStill.setEfs x s).idle h

theorem setEfs_huntKept {x : EfsRecord} {s : State} (state : x.state = s.efs.record.state) :
    HuntKept s (s.setEfs x) := (HuntStill.setEfs x s).coherent state

theorem setHunt_huntKept {x : HuntRecord} {s : State} (underTest : x.underTest = s.efs.hunt.underTest)
    (step : x.step = s.efs.hunt.step) : HuntKept s (s.setHunt x) := (HuntStill.setHunt underTest step).coherent rfl

theorem formPair_huntKept (f : Slot) (a b : CycleResult) (s : State) : HuntKept s (formPair f a b s) :=
  .ite (setEfs_huntKept rfl) (.refl s)

theorem efsFeederResult_huntKept (f : Slot) (r : CycleResult) (s : State) :
    HuntKept s (efsFeederResult f r s) := by
  refine .ite ?_ (.refl s)
  split
  · exact formPair_huntKept _ _ _ s
  · exact .refl s

theorem formBusPairs_huntKept (r : CycleResult) (s : State) : HuntKept s (formBusPairs r s) := by
  refine .ite (.forSlots (fun f t => ?_) s) (.refl s)
  split
  · exact formPair_huntKept _ _ _ t
  · exact .refl t

theorem reopen_still (f : Slot) (s : State) : HuntStill s (reopen f s) := .ite (efsAsk_still .open f s) (.refl s)

theorem displacementPersists_coherent {f : Slot} {s : State} (h : HuntIdle s) :
    HuntCoherent (displacementPersists f s) := by
  unfold displacementPersists
  exact decide131_coherent ((HuntStill.setEfs _ _).idle ((reopen_still f _).idle ((leftOpen_still f s).idle h)))

theorem tripIdentified_coherent {f : Slot} {s : State} (h : HuntIdle s) :
    HuntCoherent (tripIdentified f s) := by
  unfold tripIdentified
  extract_lets mark _ t u a _ v
  have reasoned : HuntIdle u :=
    (HuntStill.ite (.refl t) (addReason_still (by simp) f t)).idle (h.setEfs _)
  have asked : HuntIdle a.2 := (efsAsk_still .open f u).idle reasoned
  have answered : HuntCoherent v := by
    unfold v
    clear_value a
    split
    · exact (asked.setEfs _).coherent
    · exact (asked.setEfs _).coherent
    · exact displacementPersists_coherent asked
  exact HuntCoherent.ite (reasoned.setEfs _).coherent
    (HuntKept.of_kept (tripReport_kept _ f v) (tripReport_work _ f v).efs answered)

theorem countDown_still (s : State) : HuntStill s (countDown s).2 := by
  unfold countDown
  split
  · exact .refl s
  · exact .setEfs _ s

theorem clearVotes_still (s : State) : HuntStill s (clearVotes s) := .setEfs _ s

theorem quietCompletion_still (r : CycleResult) (s : State) : HuntStill s (quietCompletion r s) := by
  unfold quietCompletion
  dsimp only
  exact .ite ((((HuntStill.setEfs _ s).trans (clearVotes_still _)).trans (.setEfs _ _)).trans
    (.raise _ _ _ _)) (.refl s)

theorem displacedCompletion_still (r : CycleResult) (s : State) : HuntStill s (displacedCompletion r s) := by
  unfold displacedCompletion
  dsimp only
  exact .ite (endEpisode_still _ _ s)
    (.ite (((countDown_still s).trans (clearVotes_still _)).trans (.setEfs _ _)) (countDown_still s))

theorem windowEnd_coherent {s : State} (h : HuntIdle s) : HuntCoherent (windowEnd s) := by
  have counted (x : EfsRecord) : HuntIdle (s.setEfs x) := (HuntStill.setEfs x s).idle h
  unfold windowEnd
  dsimp only
  split
  · exact ((HuntStill.setEfs _ _).idle (counted _)).coherent
  · exact decide131_coherent (counted _)

theorem identifyingCompletion_coherent {s : State} (h : HuntIdle s) :
    HuntCoherent (identifyingCompletion s) := by
  have counted := (countDown_still s).idle h
  unfold identifyingCompletion
  dsimp only
  split
  · exact ((endEpisode_still _ _ s).idle h).coherent
  · split
    · exact windowEnd_coherent counted
    · exact counted.coherent

theorem delayCompletion_coherent {f : Slot} {s : State} (h : HuntIdle s) :
    HuntCoherent (delayCompletion f s) := by
  have counted (x : EfsRecord) : HuntIdle (s.setEfs x) := (HuntStill.setEfs x s).idle h
  unfold delayCompletion
  dsimp only
  split
  · exact ((endEpisode_still _ _ s).idle h).coherent
  · split
    · exact tripIdentified_coherent (counted _)
    · exact (counted _).coherent

theorem observingCompletion_coherent {f : Slot} {s : State} (h : HuntIdle s) :
    HuntCoherent (observingCompletion f s) := by
  have counted := (countDown_still s).idle h
  unfold observingCompletion
  dsimp only
  split
  · refine ((endEpisode_still _ _ _).idle ?_).coherent
    split
    · exact h
    · exact (leftOpen_still f s).idle h
  · split
    · exact displacementPersists_coherent counted
    · exact counted.coherent

theorem identifiedCompletion_coherent {s : State} (h : HuntIdle s) : HuntCoherent (identifiedCompletion s) := by
  unfold identifiedCompletion
  split
  · exact delayCompletion_coherent h
  · exact observingCompletion_coherent h
  · exact h.coherent

theorem huntFound_coherent {f : Slot} {s : State} (h : HuntCoherent s) (test : s.efs.hunt.underTest = some f) :
    HuntCoherent (huntFound f s) := by
  have left := leftOpen_still f s
  have work := (addReason_work .earth f s).trans (demandLockout_work f _)
  have lifted := removeHunt_lifted (left.coherent (by rw [work.efs]) h) (left.underTest.trans test)
  exact ((endEpisode_still _ _ _).idle (clearStep_idle lifted)).coherent

theorem stepCountDown_huntKept (s : State) : HuntKept s (stepCountDown s).2 := by
  unfold stepCountDown
  split
  · exact .refl s
  · exact setHunt_huntKept rfl rfl

theorem stepCountDown_underTest (s : State) :
    (stepCountDown s).2.efs.hunt.underTest = s.efs.hunt.underTest := by
  unfold stepCountDown; split <;> rfl

theorem huntingCompletion_huntKept (s : State) : HuntKept s (huntingCompletion s) := by
  intro h
  have counted := stepCountDown_huntKept s h
  unfold huntingCompletion
  split
  · next f test _ =>
    split
    · exact huntFound_coherent h test
    · dsimp only
      split
      · exact askRestore_coherent counted ((stepCountDown_underTest s).trans test)
      · exact counted
  · next f test _ =>
    split
    · exact ((endEpisode_still _ _ _).idle (clearStep_idle (removeHunt_lifted h test))).coherent
    · dsimp only
      split
      · exact endStep_coherent counted ((stepCountDown_underTest s).trans test)
      · exact counted
  · exact h

theorem busTripCompletion_still (s : State) : HuntStill s (busTripCompletion s) :=
  .ite (.ite (endEpisode_still _ _ s) ((enterState_still _ s).trans (writeOutcome_still _ _ _))) (.refl s)

theorem efsBusCompletion_huntKept (r : CycleResult) (s : State) : HuntKept s (efsBusCompletion r s) := by
  unfold efsBusCompletion
  refine .ite (.trans (.trans (setEfs_huntKept rfl) (formBusPairs_huntKept r (refreshVn r s))) ?_) (.refl s)
  intro h
  dsimp only
  have ended (x : State) (k : HuntIdle x) (o : EarthOutcome) :
      HuntCoherent (if x.efs.record.vnDropped = true then endEpisode o none x else x) := by
    split
    · exact ((endEpisode_still _ _ x).idle k).coherent
    · exact k.coherent
  split
  · next q => exact ((quietCompletion_still r _).idle (h.idle (by simp [q]))).coherent
  · next q => exact ((displacedCompletion_still r _).idle (h.idle (by simp [q]))).coherent
  · next q => exact identifyingCompletion_coherent (h.idle (by simp [q]))
  · next q => exact identifiedCompletion_coherent (h.idle (by simp [q]))
  · next q => exact ended _ (h.idle (by simp [q])) _
  · next q => exact ended _ (h.idle (by simp [q])) _
  · split
    · exact huntingCompletion_huntKept _ h
    · exact h
  · next q => exact ((busTripCompletion_still _).idle (h.idle (by simp [q]))).coherent

/-! ## Reports, and the events of other blocks -/

theorem identifiedReport_coherent {p : OrderReport} {s : State} (h : HuntIdle s) :
    HuntCoherent (identifiedReport p s) := by
  unfold identifiedReport
  split
  · exact ((HuntStill.setEfs _ s).idle h).coherent
  · exact displacementPersists_coherent h
  · exact h.coherent

theorem stepOpenReport_coherent {p : OrderReport} {s : State} (h : HuntCoherent s)
    (test : s.efs.hunt.underTest = some p.slot) : HuntCoherent (stepOpenReport p s) := by
  unfold stepOpenReport
  split
  · split
    · obtain ⟨held, hunting, step⟩ := h
      exact ⟨held, hunting, by rw [State.setHunt]; simp [test]⟩
    · exact askRestore_coherent h test
  · split
    · exact endStep_coherent h test
    · exact abortEnd_coherent (removeHunt_lifted h test)
  · exact h

theorem stepRestoreReport_coherent {p : OrderReport} {s : State} (h : HuntCoherent s)
    (test : s.efs.hunt.underTest = some p.slot) : HuntCoherent (stepRestoreReport p s) := by
  unfold stepRestoreReport
  split
  · split
    · obtain ⟨held, hunting, step⟩ := h
      exact ⟨held, hunting, by rw [State.setHunt]; simp [test]⟩
    · exact abortEnd_coherent (removeHunt_lifted h test)
  · exact restoreFailed_coherent h test
  · exact restoreFailed_coherent h test
  · exact restoreFailed_coherent h test
  · exact h

theorem efsReport_huntKept (p : OrderReport) (s : State) : HuntKept s (efsReport p s) := by
  intro h
  unfold efsReport
  split
  · split
    · next state =>
      split
      · exact identifiedReport_coherent (h.idle (by simp [state]))
      · exact h
    · split
      · next test =>
        split
        · exact stepOpenReport_coherent h test.1
        · exact stepRestoreReport_coherent h test.1
        · exact h
      · exact h
    · exact HuntKept.ite (setEfs_huntKept rfl) (.refl s) h
    · exact h
  · exact h

theorem efsBecameBan_huntKept (s : State) : HuntKept s (efsBecameBan s) := by
  intro h
  unfold efsBecameBan
  split
  · split
    · exact abortHunt_coherent h
    · next state => exact ((busTrip_still s).idle (h.idle (by simp [state]))).coherent
    · next state => exact ((busTrip_still s).idle (h.idle (by simp [state]))).coherent
    · exact h
  · exact h

theorem endHuntUnrestored_lifted {s : State} (h : HuntCoherent s) : HuntLifted (endHuntUnrestored s) := by
  unfold endHuntUnrestored
  dsimp only
  refine (HuntStill.setHunt rfl rfl).lifted ?_
  split
  · next f test =>
    have work := (addReason_work .earth f s).trans (demandLockout_work f _)
    have left := leftOpen_still f s
    split
    · exact removeHunt_lifted (left.coherent (by rw [work.efs]) h) (left.underTest.trans test)
    · exact removeHunt_lifted h test
  · next none => exact (h.idle_of_noTest none).lifted

theorem efsLeaveService_huntKept (s : State) : HuntKept s (efsLeaveService s) := by
  intro h
  have ended : HuntLifted (if s.efs.record.state = .hunting then endHuntUnrestored s else s) := by
    split
    · exact endHuntUnrestored_lifted h
    · next n => exact (h.idle n).lifted
  have written (t : State) (k : HuntLifted t) (g : Option Slot) :
      HuntLifted (if s.efs.record.state = .quiet then t else writeOutcome .aborted g t) := by
    split
    · exact k
    · exact (writeOutcome_still _ _ t).lifted k
  unfold efsLeaveService
  dsimp only
  exact ((HuntStill.setEfs _ _).idle ((enterState_still _ _).idle (clearStep_idle (written _ ended _)))).coherent

/-- At RESTART no feeder holds HUNT, whatever was before (R104, R148). -/
theorem efsRestart_coherent {s : State} (h : HuntLifted s) : HuntCoherent (efsRestart s) :=
  (clearStep_idle ((HuntStill.setEfs _ s).lifted h)).coherent

end Sys2Proof.Machine
end

section
/-! PROOFS. The law of the hunt (R136) through every event and its end: the obligation O8. -/

namespace Sys2Proof.Machine

/-! ## Orders and sequencers -/

theorem deliver_huntKept (p : OrderReport) (s : State) : HuntKept s (deliver p s) :=
  (HuntKept.of_kept (rcsReport_kept p s) (rcsReport_work p s).efs).trans (efsReport_huntKept p _)

theorem ask_huntKept (k : OrderKind) (who : Origin) (f : Slot) (s : State) : HuntKept s (ask k who f s).2 := by
  obtain ⟨rcs, efs⟩ := askOrder_rcs_efs k who f s
  exact (HuntKept.of_same rcs efs).trans (.foldl (fun t p => deliver_huntKept p t) _ _)

theorem enterLockout_huntKept (c : LockoutCause) (f : Slot) (s : State) : HuntKept s (enterLockout c f s) :=
  .of_kept (enterLockout_kept c f s) (enterLockout_work c f s).efs

theorem addReason_huntKept {r : Reason} (h : r ≠ .hunt) (f : Slot) (s : State) :
    HuntKept s (addReason r f s) :=
  .of_kept (addReason_kept (free := (· ≠ .hunt)) h f s) (addReason_work r f s).efs

theorem removeReason_huntKept {r : Reason} (h : r ≠ .hunt) (f : Slot) (s : State) :
    HuntKept s (removeReason r f s) :=
  .of_kept (removeReason_kept (free := (· ≠ .hunt)) h f s) (removeReason_work r f s).efs

theorem alignReason_huntKept {r : Reason} (h : r ≠ .hunt) (b : Bool) (f : Slot) (s : State) :
    HuntKept s (alignReason r b f s) := .ite (addReason_huntKept h f s) (removeReason_huntKept h f s)

theorem setSwitch_huntKept (f : Slot) (w : SwitchRecord) (s : State) : HuntKept s (s.setSwitch f w) :=
  .of_same rfl rfl

theorem setHealth_huntKept (x : Health) (f : Slot) (s : State) : HuntKept s (setHealth x f s) :=
  (setSwitch_huntKept f _ s).trans (alignReason_huntKept (by simp) _ _ _)

theorem stateSupervisionExpired_huntKept (f : Slot) (s : State) :
    HuntKept s (stateSupervisionExpired f s) := by
  have stopped := setSwitch_huntKept f { s.switch f with supervision := none } s
  unfold stateSupervisionExpired
  exact .ite (stopped.trans (setHealth_huntKept _ _ _)) stopped

theorem resetSwitch_huntKept (f : Slot) (s : State) : HuntKept s (resetSwitch f s) := by
  have cleared := setSwitch_huntKept f { s.switch f with failCount := 0 } s
  unfold resetSwitch
  exact .ite (cleared.trans (setHealth_huntKept _ _ _)) cleared

theorem countFailure_huntKept (f : Slot) (s : State) : HuntKept s (countFailure f s) := by
  have counted := setSwitch_huntKept f { s.switch f with failCount := min 8 ((s.switch f).failCount + 1) } s
  unfold countFailure
  exact .ite (counted.trans (setHealth_huntKept _ _ _)) counted

theorem putOrder_huntKept (f : Slot) (o : OrderRecord) (s : State) : HuntKept s (putOrder f o s) :=
  .of_same rfl rfl

theorem confirmExpired_huntKept (f : Slot) (s : State) : HuntKept s (confirmExpired f s) := by
  have failed : HuntKept s (orderFailed f s) :=
    ((putOrder_huntKept f _ s).trans (countFailure_huntKept f _)).trans (.of_same rfl rfl)
  unfold confirmExpired
  exact (failed.trans (deliver_huntKept _ _)).trans (.of_same rfl rfl)

theorem deadExpired_huntKept (f : Slot) (s : State) : HuntKept s (deadExpired f s) := by
  have stopped : HuntKept s (s.setSeq f { s.seq f with dead := none }) :=
    .of_kept (deadStopped_kept f s) rfl
  have closing (n : OrderNo) (t : State) :
      HuntKept t (t.setSeq f { t.seq f with state := .closing, awaited := some n }) := by
    have still : HuntStill t (t.setSeq f { t.seq f with state := .closing, awaited := some n }) := by
      refine ⟨fun g => ?_, rfl, rfl⟩
      simp only [State.holds, State.seq_setSeq]
      split
      · next e => rw [e]
      · rfl
    exact still.coherent rfl
  have asked (t : State) : HuntKept t (askReclose f t) := by
    unfold askReclose
    dsimp only
    refine (ask_huntKept .close .reclose f t).trans ?_
    split
    · exact closing _ _
    · exact closing _ _
    · exact enterLockout_huntKept _ _ _
    · exact enterLockout_huntKept _ _ _
  unfold deadExpired
  exact .ite (stopped.trans (enterLockout_huntKept _ _ _)) (.ite (stopped.trans (enterLockout_huntKept _ _ _))
    (stopped.trans (asked _)))

theorem stateCopied_huntKept (r : StateReport) (f : Slot) (s : State) : HuntKept s (stateCopied r f s) := by
  have copied (t : State) : HuntKept t (alignReason .local r.loc f (alignReason .tag r.tag f
      (if (s.switch f).health = .unreachable then setHealth .reachable f t else t))) :=
    .trans (.trans (.ite (setHealth_huntKept _ _ t) (.refl t)) (alignReason_huntKept (by simp) _ _ _))
      (alignReason_huntKept (by simp) _ _ _)
  unfold stateCopied
  dsimp only
  exact (setSwitch_huntKept f _ s).trans (copied _)

theorem stateCopied_efs (r : StateReport) (f : Slot) (s : State) : (stateCopied r f s).efs = s.efs := by
  unfold stateCopied
  dsimp only
  rw [(alignReason_work _ _ _ _).efs, (alignReason_work _ _ _ _).efs]
  split
  · rw [setHealth, alignSwitch, (alignReason_work _ _ _ _).efs]; rfl
  · rfl

theorem takeStateReport_efs (r : StateReport) (f : Slot) (s : State) :
    (takeStateReport r f s).efs = s.efs := by
  unfold takeStateReport settle refreshPosition orderConfirmed putOrder refreshPosition
  dsimp only
  split <;> exact stateCopied_efs r f s

theorem takeState_huntKept (r : StateReport) (f : Slot) (s : State) : HuntKept s (takeState r f s) := by
  have reported : HuntKept s (takeStateReport r f s) :=
    (stateCopied_huntKept r f s).trans (.of_same (takeStateReport_rcs r f s)
      ((takeStateReport_efs r f s).trans (stateCopied_efs r f s).symm))
  have positioned (p : PositionReport) (t : State) : HuntKept t (rcsPosition p f t) :=
    .of_kept (rcsPosition_kept p f t) (rcsPosition_work p f t).efs
  have delivered : HuntKept s (match stateOrderReport r f s with
      | some p => deliver p (takeStateReport r f s)
      | none => takeStateReport r f s) := by
    split
    · exact reported.trans (deliver_huntKept _ _)
    · exact reported
  unfold takeState
  dsimp only
  split
  · exact delivered.trans (positioned _ _)
  · exact delivered

/-! ## Groups, elements and streams -/

theorem applyGroup_huntKept (w : GroupWay) (n : Option SampleNo) (g : GroupNo) (f : Slot) (s : State) :
    HuntKept s (applyGroup w n g f s) := .of_kept (applyGroup_kept w n g f s) (groupNotify_work f _).efs

theorem applyPendingAtEntry_huntKept (f : Slot) (s : State) : HuntKept s (applyPendingAtEntry f s) := by
  unfold applyPendingAtEntry
  split
  · exact applyGroup_huntKept _ _ _ _ s
  · exact .refl s

theorem requestGroup_huntKept (g : GroupNo) (f : Slot) (s : State) : HuntKept s (requestGroup g f s) := by
  unfold requestGroup
  split
  · exact .refl s
  · refine .ite ?_ (.ite (.refl s) (.ite (.of_same rfl rfl) (applyGroup_huntKept _ _ _ _ s)))
    split
    · exact .refl s
    · exact .of_same rfl rfl

theorem setElement_huntKept (f : Slot) (x : ElementState) (s : State) : HuntKept s (s.setElement f x) :=
  .of_same rfl rfl

theorem applyAtCompletion_huntKept (f : Slot) (h : HandOver) (s : State) :
    HuntKept s (applyAtCompletion f h s) := by
  have applied (n : SampleNo) : HuntKept s (applyPending n f s) := by
    unfold applyPending
    split
    · exact applyGroup_huntKept _ _ _ _ s
    · exact .refl s
  have cleared (left : Option GroupNo) (t : State) : HuntKept t (clearTurnedOn f left t) := by
    unfold clearTurnedOn
    split
    · exact setElement_huntKept _ _ t
    · exact .refl t
  unfold applyAtCompletion
  split
  · exact .refl s
  · exact (applied _).trans (cleared _ _)

theorem orderTrip_huntKept (i : Bool) (f : Slot) (s : State) : HuntKept s (orderTrip i f s) := by
  unfold orderTrip efsProtectionTrip
  exact ((ask_huntKept _ _ _ _).trans (.of_kept (tripReport_kept i f _) (tripReport_work i f _).efs)).trans
    abortHunt_coherent

theorem tripFeeder_huntKept (f : Slot) (g : GroupNo) (gr : GroupRecord) (t : ElementSet) (h : HandOver)
    (s : State) : HuntKept s (tripFeeder f g gr t h s) := by
  have recorded (b : NoticeBody) : HuntKept s (raise (some f) (some h.sampleNo) b
      ((s.setElement f ((s.element f).act t)).setTrip f (tripRecordOf s f g gr t h))) := .of_same rfl rfl
  unfold tripFeeder
  dsimp only
  exact .ite (recorded _) ((recorded _).trans (orderTrip_huntKept _ _ _))

theorem evaluate_huntKept (f : Slot) (h : HandOver) (s : State) : HuntKept s (evaluate f h s) := by
  have applied := applyAtCompletion_huntKept f h s
  unfold evaluate decideFeederTrip
  refine .ite ?_ (.refl s)
  dsimp only
  split
  · exact applied
  · exact .ite ((applied.trans (setElement_huntKept _ _ _)).trans (tripFeeder_huntKept _ _ _ _ _ _))
      (applied.trans (setElement_huntKept _ _ _))

theorem setPheStream_huntKept (r : Role) (p : PheStream) (s : State) : HuntKept s (s.setPheStream r p) :=
  .of_same rfl rfl

theorem setStream_huntKept (r : Role) (q : StreamRecord) (s : State) : HuntKept s (s.setStream r q) :=
  .of_same rfl rfl

theorem hand_huntKept (r : Role) (x : Sample) (filled : Bool) (st : StreamState) (s : State) :
    HuntKept s (hand r x filled st s) := by
  unfold hand
  split
  · unfold handFeeder
    dsimp only
    refine .ite ?_ (setPheStream_huntKept _ _ s)
    split
    · exact ((setPheStream_huntKept _ _ s).trans (evaluate_huntKept _ _ _)).trans
        (efsFeederResult_huntKept _ _ _)
    · exact (setPheStream_huntKept _ _ s).trans (evaluate_huntKept _ _ _)
  · exact .ite ((setPheStream_huntKept _ _ s).trans (efsBusCompletion_huntKept _ _))
      (setPheStream_huntKept _ _ s)

theorem streamEntered_huntKept (r : Role) (s : State) : HuntKept s (streamEntered r s) := by
  unfold streamEntered
  split
  · exact applyPendingAtEntry_huntKept _ s
  · exact abortHunt_coherent

theorem streamStopped_huntKept (r : Role) (n : Option SampleNo) (left : StreamState) (s : State) :
    HuntKept s (streamStopped r n left s) := by
  have added : HuntKept s (addStreamReason r s) := by
    unfold addStreamReason
    split
    · exact addReason_huntKept (by simp) _ s
    · exact .refl s
  have raised (t : State) : HuntKept t (raiseStream r n left t) := .of_same rfl rfl
  exact (added.trans (raised _)).trans (streamEntered_huntKept r _)

theorem enterFilling_huntKept (r : Role) (x : Sample) (s : State) : HuntKept s (enterFilling r x s) := by
  rw [enterFilling_eq]
  exact (setStream_huntKept _ _ s).trans (setPheStream_huntKept _ _ _)

theorem enterLocked_huntKept (r : Role) (n : SampleNo) (s : State) : HuntKept s (enterLocked r n s) := by
  have locked := setStream_huntKept r { s.stream r with state := .locked, consecutive := 0 } s
  unfold enterLocked raiseStream
  dsimp only
  refine HuntKept.trans ?_ (.of_same rfl rfl)
  split
  · exact locked.trans (removeReason_huntKept (by simp) _ _)
  · exact locked

theorem acceptNext_huntKept (r : Role) (x : Sample) (s : State) : HuntKept s (acceptNext r x s) :=
  (setStream_huntKept _ _ _).trans (hand_huntKept _ _ _ _ _)

theorem fillGap_huntKept (r : Role) (x : Sample) (l : List Nat) (s : State) : HuntKept s (fillGap r x l s) :=
  .foldl (fun t _ => hand_huntKept _ _ _ _ t) l s

theorem takes_huntKept {r : Role} {x : Sample} {s u : State} (h : Takes r x s u) : HuntKept s u := by
  have resynced := setStream_huntKept r { s.stream r with resyncs := countUp (s.stream r).resyncs } s
  cases h with
  | fresh _ => exact (enterFilling_huntKept r x s).trans (streamEntered_huntKept r _)
  | resync _ => exact (resynced.trans (enterFilling_huntKept r x _)).trans (streamEntered_huntKept r _)
  | discarded => exact setStream_huntKept _ _ s
  | counted _ =>
    have counted := setStream_huntKept r { s.stream r with
        lastSample := x.number, supervision := some 20, consecutive := (s.stream r).consecutive + 1 } s
    unfold fillNext
    exact .ite ((counted.trans (enterLocked_huntKept _ _ _)).trans (hand_huntKept _ _ _ _ _))
      (counted.trans (hand_huntKept _ _ _ _ _))
  | accepted _ => exact acceptNext_huntKept r x s
  | bridged k _ =>
    unfold bridgeGap
    exact ((setStream_huntKept _ _ s).trans (fillGap_huntKept _ _ _ _)).trans (acceptNext_huntKept r x _)
  | broken _ =>
    unfold breakStream
    exact (resynced.trans (enterFilling_huntKept r x _)).trans (streamStopped_huntKept _ _ _ _)

theorem streamLost_huntKept (r : Role) (s : State) : HuntKept s (streamLost r s) := by
  unfold streamLost
  exact (setStream_huntKept r _ s).trans (streamStopped_huntKept _ _ _ _)

/-! ## Modes and the clock -/

theorem addFire_huntKept (f : Slot) (s : State) : HuntKept s (addFire f s) := by
  have added := addReason_huntKept (r := .fire) (by simp) f s
  unfold addFire
  exact .ite (.refl s) (.ite ((added.trans (putOrder_huntKept _ _ _)).trans (deliver_huntKept _ _)) added)

theorem removeFire_huntKept (f : Slot) (s : State) : HuntKept s (removeReason .fire f s) :=
  removeReason_huntKept (by simp) f s

theorem alignFire_huntKept (f : Slot) (s : State) : HuntKept s (alignFire f s) :=
  .ite (addFire_huntKept f s) (removeFire_huntKept f s)

theorem changeMode_huntKept (d : District) (m : Mode) (src : ModeSource) (s : State) :
    HuntKept s (changeMode d m src s) := by
  have fire (l m : Mode) (f : Slot) (t : State) : HuntKept t (fireFollows d l m f t) :=
    .ite (.ite (addFire_huntKept f t) (.ite (removeFire_huntKept f t) (.refl t))) (.refl t)
  have group (f : Slot) (t : State) : HuntKept t (askGroup d m f t) := by
    unfold askGroup
    split
    · dsimp only
      split
      · exact .refl t
      · exact .ite (requestGroup_huntKept _ _ t) (.refl t)
    · exact .refl t
  have set : HuntKept s (raise none none (.modeChange d s.mdu.modes[d] m src) (setMode d m src s)) :=
    .of_same rfl rfl
  unfold changeMode
  exact (set.trans (.forSlots (fire _ _) _)).trans (.forSlots group _)

theorem updateBusMode_huntKept (s : State) : HuntKept s (updateBusMode s) := by
  have set : HuntKept s { s with mdu := { s.mdu with busMode := derivedBusMode s } } := .of_same rfl rfl
  unfold updateBusMode
  exact .ite (.refl s) (.ite (set.trans (efsBecameBan_huntKept _)) set)

theorem evaluateModes_huntKept (s : State) : HuntKept s (evaluateModes s) := by
  have district (t : State) (d : District) : HuntKept t (evaluateDistrict t d) :=
    .ite (.of_same rfl rfl) (changeMode_huntKept _ _ _ t)
  exact (HuntKept.foldl district _ s).trans (updateBusMode_huntKept _)

theorem checkOverrides_huntKept (s : State) : HuntKept s (checkOverrides s) := .ite (.of_same rfl rfl) (.refl s)

theorem minuteWork_huntKept (s : State) : HuntKept s (minuteWork s) := by
  have purged : HuntKept s (if s.due.day = true then dayWork s else s) := .ite (.of_same rfl rfl) (.refl s)
  have taken (t : State) : HuntKept t { t with due := { t.due with minute := false } } := .of_same rfl rfl
  exact ((purged.trans (taken _)).trans (checkOverrides_huntKept _)).trans (evaluateModes_huntKept _)

theorem tick_huntKept (s : State) : HuntKept s (tick s) := by
  have clock : HuntKept s (tickClock s) := .ite (.ite (.of_same rfl rfl) (.of_same rfl rfl)) (.refl s)
  have timers (t : State) : HuntKept t (tickTimers t) := by
    have still : HuntStill t (tickTimers t) := ⟨fun f => ?_, rfl, rfl⟩
    · exact still.coherent rfl
    have seq : (tickTimers t).seq f = (t.seq f).tick := mapV_get _ _ f
    rw [State.holds, seq]; rfl
  have hunted (t : State) : HuntKept t (tickHunt t) := by
    have still : HuntStill t (tickHunt t) := .ite ⟨fun _ => rfl, rfl, rfl⟩ ⟨fun _ => rfl, rfl, rfl⟩
    have record : (tickHunt t).efs.record = t.efs.record := by unfold tickHunt; split <;> rfl
    exact still.coherent (by rw [record])
  exact (clock.trans (timers _)).trans (hunted _)

theorem takeTime_huntKept (n : Tod) (s : State) : HuntKept s (takeTime n s) := by
  have marked (old : Option Tod) (t : State) : HuntKept t (raiseClockSet old n t) := by
    unfold raiseClockSet
    split
    · exact .of_same rfl rfl
    · exact .ite (.of_same rfl rfl) (.refl t)
  have set : HuntKept s { s with
      mdu := { s.mdu with running := true, day := n.day, ms := n.ms }
      due := { s.due with minute := false, day := false } } := .of_same rfl rfl
  have purged (t : State) : HuntKept t (purge t) := .of_same rfl rfl
  unfold takeTime
  exact .ite (.of_same rfl rfl) ((((set.trans (marked _ _)).trans (purged _)).trans
    (checkOverrides_huntKept _)).trans (evaluateModes_huntKept _))

end Sys2Proof.Machine
end

section
/-! PROOFS. The law of the hunt (R136) through frames, requests, changes of service and the end of an event: the
obligation O8. -/

namespace Sys2Proof.Machine

theorem leaveSequencer_huntKept (f : Slot) (s : State) : HuntKept s (leaveSequencer f s) :=
  .of_kept (leaveSequencer_kept f s) (leaveSequencer_work f s).efs

theorem feederStored_huntKept (f : Slot) (old : FeederRecord) (s : State) :
    HuntKept s (feederStored f old s) := by
  have left (t : State) : HuntKept t (feederLeaves f t) := by
    have cleared := setElement_huntKept f .cleared t
    have grouped (u : State) : HuntKept u (u.setGroups f none none) := .of_same rfl rfl
    unfold feederLeaves
    exact .ite ((cleared.trans (grouped _)).trans (leaveSequencer_huntKept _ _)) cleared
  have joined (t : State) : HuntKept t (feederJoins f t) := .ite (applyGroup_huntKept _ _ _ _ t) (.refl t)
  have served : HuntKept s (serviceFollows f old s) := .ite (left s) (.ite (joined s) (.refl s))
  have fired (t : State) : HuntKept t (districtFollows f old (s.feeder f) t) :=
    .ite (.refl t) (alignFire_huntKept f t)
  rw [feederStored_eq]
  exact (served.trans (fired _)).trans (.ite (.refl _) (updateBusMode_huntKept _))

theorem stores_huntKept {s u : State} (h : Stores s u) : HuntKept s u := by
  cases h with
  | feeder f r _ _ =>
    have set : HuntKept s (s.setFeeder f r) := .of_same rfl rfl
    exact set.trans (feederStored_huntKept f _ _)
  | earthSettings _ => exact (HuntStill.mk (fun _ => rfl) rfl rfl).coherent rfl
  | huntOrder _ => exact (HuntStill.mk (fun _ => rfl) rfl rfl).coherent rfl
  | _ => exact .of_same rfl rfl

/-! ## Service -/

theorem activateMap_huntKept (s : State) : HuntKept s (activateMap s) := by
  have mapped : HuntKept s
      { s with siu := { s.siu with active := s.siu.staged, activated := true }, phe := Phe.powerOn } :=
    .of_same rfl rfl
  have switched (f : Slot) (t : State) : HuntKept t (activateSwitch f t) := setSwitch_huntKept _ _ t
  rw [activateMap_eq]
  exact (mapped.trans (.foldl (fun t r => setStream_huntKept r _ t) _ _)).trans (.forSlots switched _)

theorem activateAtEntry_huntKept (s : State) : HuntKept s (activateAtEntry s) := by
  have entered (f : Slot) (t : State) : HuntKept t (enterReasons f t) :=
    (alignReason_huntKept (by simp) _ _ _).trans (addReason_huntKept (by simp) _ _)
  rw [activateAtEntry_eq]
  exact .ite (.refl s) ((activateMap_huntKept s).trans (.forSlots entered _))

theorem HuntKept.setMgr (m : Mgr) (s : State) : HuntKept s { s with mgr := m } := .of_same rfl rfl

theorem enterService_huntKept (src : RingAddr) (s : State) : HuntKept s (enterService src s) := by
  have served (f : Slot) (t : State) : HuntKept t (setActiveAtEntry f t) := .ite (.of_same rfl rfl) (.refl t)
  have evaluated := (activateAtEntry_huntKept s).trans (evaluateModes_huntKept _)
  unfold enterService
  exact (evaluated.trans (.setMgr _ _)).trans (.forSlots served _)

theorem leaveService_huntKept (s : State) : HuntKept s (leaveService s) := by
  have left : HuntKept s (forSlots leaveSequencer (efsLeaveService s)) :=
    (efsLeaveService_huntKept s).trans (.forSlots leaveSequencer_huntKept _)
  have cleared (t : State) : HuntKept t (clearGroups (clearElements t)) := .of_same rfl rfl
  unfold leaveService
  exact (left.trans (.setMgr _ _)).trans (cleared _)

theorem restart_huntCoherent (s : State) : HuntCoherent (restart s) := by
  have lifted (t : State) : HuntLifted (forSlots restartSequencer (forSlots setRestartReasons t)) := by
    intro f
    have after : RecordsKept (fun _ => False) (forSlots setRestartReasons t)
        (forSlots restartSequencer (forSlots setRestartReasons t)) := .forSlots restartSequencer_kept _
    rw [after.reasons f .hunt id, holds_forSlots_setRestartReasons]
    rfl
  unfold restart
  exact efsRestart_coherent (lifted _)

/-! ## Requests, frames and events -/

theorem executes_huntKept {s u : State} (h : Executes s u) : HuntKept s u := by
  cases h with
  | nothing => exact .refl s
  | write t size i count bs =>
    exact writeTable_keeps (P := HuntKept s) (fun t u h k => k.trans (stores_huntKept h))
      (fun t k => k.trans (evaluateModes_huntKept t)) t size i count bs s (.refl s)
  | latches => exact .of_same rfl rfl
  | operate k f => exact ask_huntKept k .operator f s
  | block f => exact addReason_huntKept (by simp) f s
  | unblock f => exact removeReason_huntKept (by simp) f s
  | resetLockout f =>
    have work : (resetLockout f s).efs = s.efs := (resetLockout_work f s).efs
    exact .of_kept (resetLockout_kept (by simp) f s) work
  | resetSwitch f => exact resetSwitch_huntKept f s
  | override d o =>
    have set : HuntKept s { s with mdu := { s.mdu with overrides := upd s.mdu.overrides d o } } :=
      .of_same rfl rfl
    unfold setOverride
    exact set.trans (evaluateModes_huntKept _)
  | startHunt may =>
    intro h
    refine startHunt_coherent (h.idle fun hunting => ?_)
    simp [mayStartHunt, hunting] at may
  | abortHunt => exact abortHunt_coherent
  | enterService src _ _ => exact enterService_huntKept src s
  | leaveService _ => exact leaveService_huntKept s
  | restart => exact fun _ => restart_huntCoherent s

theorem received_huntKept {s u : State} (h : Received s u) : HuntKept s u := by
  cases h with
  | formatError | crcError => exact .of_same rfl rfl
  | nothing => exact .refl s
  | echo f n => exact .ite (.of_same rfl rfl) (.refl s)
  | consumed src p => exact .ite (.of_same rfl rfl) (.of_same rfl rfl)
  | forwarded bs u h =>
    have copied : HuntKept s u := by
      cases h with
      | nothing => exact .refl s
      | foreign => exact .of_same rfl rfl
      | sample r x u h => exact takes_huntKept h
      | state r f => exact takeState_huntKept r f s
      | time n => exact takeTime_huntKept n s
    exact copied.trans (.ite (.of_same rfl rfl) (.of_same rfl rfl))

theorem event_huntKept {s u : State} (h : Event s u) : HuntKept s u := by
  cases h with
  | tick => exact tick_huntKept s
  | day =>
    have ticked : HuntKept s (dayTick s) := .ite (tick_huntKept s) (.refl s)
    exact ticked.trans (.of_same rfl rfl)
  | minute =>
    have ticked : HuntKept s (minuteTick s) := .ite (tick_huntKept s) (.refl s)
    exact ticked.trans (minuteWork_huntKept _)
  | frame u h => exact received_huntKept h
  | frameEnd => exact .of_same rfl rfl
  | streamLost r => exact streamLost_huntKept r s
  | switchSilent f => exact stateSupervisionExpired_huntKept f s
  | echoMissing f _ => exact .of_same rfl rfl
  | orderFailed f _ => exact confirmExpired_huntKept f s
  | deadTimer f _ _ => exact deadExpired_huntKept f s
  | reclaimTimer f h => exact .of_kept (reclaimExpired_kept f s h) rfl
  | huntLimit =>
    have unmarked : HuntKept s { s with due := { s.due with huntLimit := false } } := .of_same rfl rfl
    exact unmarked.trans abortHunt_coherent
  | request q rest c content v _ _ h =>
    have popped : HuntKept s (popRequest rest s) := .of_same rfl rfl
    exact (popped.trans (executes_huntKept h)).trans (.of_same rfl rfl)

/-! ## The obligation -/

theorem powerOn_huntCoherent (straps : RingAddr) : HuntCoherent (State.powerOn straps) := by
  refine HuntIdle.coherent ⟨fun f => ?_, rfl, rfl⟩
  rw [State.holds, powerOn_seq]
  rfl

/-- Settles O8: no feeder holds HUNT at power-on, every event keeps HUNT with the feeder under test, and the end of
an event touches neither RCS nor EFS. -/
theorem huntStaysCoherent : Obligations.HuntStaysCoherent := fun s t =>
  step_keeps (P := HuntCoherent) (fun _ _ h => h) powerOn_huntCoherent
    (fun _ u h event => HuntKept.of_same (finish_work u).rcs (finish_work u).efs (event_huntKept event h)) s t

end Sys2Proof.Machine
end

section
/-! PROOFS. What depends on service (R38, R70, R72, R120, R125), through every event: the obligation O9. -/

namespace Sys2Proof.Machine

/-! ## What the law looks at -/

/-- A feeder has an active group exactly while it acts, and a pending one only beside a different active one
(R72). -/
def GroupsSound (s : State) (f : Slot) : Prop :=
  (s.activeGroup f).isSome = s.acting f ∧
    (s.pendingGroup f ≠ none → s.activeGroup f ≠ none ∧ s.pendingGroup f ≠ s.activeGroup f)

/-- The law of service, part by part. -/
structure ServiceLaw (s : State) : Prop where
  groups : ∀ f, GroupsSound s f
  resting : ∀ f, s.acting f = false → (s.seq f).resting
  quiet : s.mgr.device = .configuring → s.efs.record.state = .quiet
  elements : s.mgr.device = .configuring → ∀ f, s.element f = .cleared

theorem serviceCoherent_iff (s : State) : ServiceCoherent s ↔ ServiceLaw s := by
  constructor
  · rintro ⟨feeders, configuring⟩
    exact ⟨fun f => ⟨(feeders f).1, (feeders f).2.1⟩, fun f => (feeders f).2.2, fun c => (configuring c).1,
      fun c => (configuring c).2⟩
  · rintro ⟨groups, resting, quiet, elements⟩
    exact ⟨fun f => ⟨(groups f).1, (groups f).2, resting f⟩, fun c => ⟨quiet c, elements c⟩⟩

theorem acting_configuring {s : State} (h : s.mgr.device = .configuring) (f : Slot) : s.acting f = false := by
  simp [State.acting, h]

theorem inService_of_acting {s : State} {f : Slot} (h : s.acting f = true) : s.mgr.device = .inService := by
  simp only [State.acting, Bool.and_eq_true, beq_iff_eq] at h
  exact h.1

theorem not_configuring_of_acting {s : State} {f : Slot} (h : s.acting f = true) :
    s.mgr.device ≠ .configuring := by
  rw [inService_of_acting h]; simp

/-- The device state and who acts are as they were, the groups stay sound, the sequencers that do not act rest,
and in CONFIGURING EFS keeps its state and the elements stay cleared. -/
structure ServiceKept (s t : State) : Prop where
  device : t.mgr.device = s.mgr.device
  acting : ∀ f, t.acting f = s.acting f
  groups : ∀ f, GroupsSound s f → GroupsSound t f
  resting : ∀ f, s.acting f = false → (s.seq f).resting → (t.seq f).resting
  quiet : s.mgr.device = .configuring → t.efs.record.state = s.efs.record.state
  elements : s.mgr.device = .configuring → ∀ f, s.element f = .cleared → t.element f = .cleared

namespace ServiceKept

theorem refl (s : State) : ServiceKept s s :=
  ⟨rfl, fun _ => rfl, fun _ => id, fun _ _ => id, fun _ => rfl, fun _ _ => id⟩

theorem trans {s t u : State} (a : ServiceKept s t) (b : ServiceKept t u) : ServiceKept s u :=
  ⟨b.device.trans a.device, fun f => (b.acting f).trans (a.acting f), fun f h => b.groups f (a.groups f h),
    fun f n h => b.resting f ((a.acting f).trans n) (a.resting f n h),
    fun c => (b.quiet (a.device.trans c)).trans (a.quiet c),
    fun c f h => b.elements (a.device.trans c) f (a.elements c f h)⟩

theorem ite {c : Prop} [Decidable c] {s t u : State} (a : ServiceKept s t) (b : ServiceKept s u) :
    ServiceKept s (if c then t else u) := by
  split <;> assumption

theorem foldl {α : Type} {g : State → α → State} (h : ∀ s a, ServiceKept s (g s a)) (l : List α) (s : State) :
    ServiceKept s (l.foldl g s) :=
  foldl_keeps (P := ServiceKept s) (fun t a k => k.trans (h t a)) l s (.refl s)

theorem forSlots {g : Slot → State → State} (h : ∀ f s, ServiceKept s (g f s)) (s : State) :
    ServiceKept s (Machine.forSlots g s) := foldl (fun s f => h f s) _ s

/-- The law is kept. -/
theorem law {s t : State} (a : ServiceKept s t) (h : ServiceLaw s) : ServiceLaw t := by
  obtain ⟨groups, resting, quiet, elements⟩ := h
  refine ⟨fun f => a.groups f (groups f), fun f n => ?_, fun c => ?_, fun c f => ?_⟩
  · rw [a.acting] at n; exact a.resting f n (resting f n)
  · rw [a.device] at c; exact (a.quiet c).trans (quiet c)
  · rw [a.device] at c; exact a.elements c f (elements c f)

/-- What leaves the elements, the groups, MGR, RCS and the EFS record as they are. -/
theorem of_same {s t : State} (elu : t.elu = s.elu) (gst : t.gst = s.gst) (rcs : t.rcs = s.rcs)
    (record : t.efs.record = s.efs.record) (device : t.mgr.device = s.mgr.device) : ServiceKept s t := by
  have acting (f : Slot) : t.acting f = s.acting f := by simp only [State.acting, State.feeder, device, gst]
  refine ⟨device, acting, fun f h => ?_, fun f _ => ?_, fun _ => by rw [record], fun _ f => ?_⟩
  · unfold GroupsSound State.activeGroup State.pendingGroup
    rw [gst, acting]; exact h
  · unfold State.seq; rw [rcs]; exact id
  · unfold State.element; rw [elu]; exact id

/-- What orders, sequencers and earth faults can do, where EFS does nothing in CONFIGURING. -/
theorem of_work {free : Reason → Prop} {s t : State} (work : OrderWork s t) (k : RecordsKept free s t)
    (quiet : s.mgr.device = .configuring → t.efs.record.state = s.efs.record.state) : ServiceKept s t := by
  refine ⟨by rw [work.mgr], k.acting, fun f h => ?_, k.resting, quiet, fun _ f => ?_⟩
  · unfold GroupsSound State.activeGroup State.pendingGroup
    rw [work.gst, k.acting]; exact h
  · unfold State.element; rw [work.elu]; exact id

theorem of_rcs {free : Reason → Prop} {s t : State} (work : RcsWork s t) (k : RecordsKept free s t) :
    ServiceKept s t := of_work work.order k fun _ => by rw [work.efs]

/-- What EFS does while IN SERVICE alone. -/
theorem of_efs {free : Reason → Prop} {s t : State} (work : EfsWork s t) (k : RecordsKept free s t)
    (guarded : s.mgr.device ≠ .inService → t = s) : ServiceKept s t :=
  of_work work.order k fun c => by rw [guarded (by simp [c])]

end ServiceKept

theorem raise_service (o : Option Slot) (n : Option SampleNo) (b : NoticeBody) (s : State) :
    ServiceKept s (raise o n b s) := .of_same rfl rfl rfl rfl rfl

theorem raiseStream_service (r : Role) (n : Option SampleNo) (left : StreamState) (s : State) :
    ServiceKept s (raiseStream r n left s) := raise_service _ _ _ s

theorem groupNotify_service (f : Slot) (s : State) : ServiceKept s (groupNotify f s) :=
  .of_rcs (groupNotify_work f s) (groupNotify_kept (free := earthReason) f s)

/-! ## Orders, sequencers and earth faults -/

theorem efsReport_guarded (p : OrderReport) (s : State) (h : s.mgr.device ≠ .inService) : efsReport p s = s :=
  if_neg fun c => h c.1

theorem efsBusCompletion_guarded (r : CycleResult) (s : State) (h : s.mgr.device ≠ .inService) :
    efsBusCompletion r s = s := if_neg h

theorem efsFeederResult_guarded (f : Slot) (r : CycleResult) (s : State) (h : s.mgr.device ≠ .inService) :
    efsFeederResult f r s = s := if_neg fun c => h c.1

theorem abortHunt_guarded (c : AbortCause) (s : State) (h : s.mgr.device ≠ .inService) : abortHunt c s = s :=
  if_neg fun k => h k.1

theorem efsBecameBan_guarded (s : State) (h : s.mgr.device ≠ .inService) : efsBecameBan s = s := if_neg h

theorem abortHunt_service (c : AbortCause) (s : State) : ServiceKept s (abortHunt c s) :=
  .of_efs (abortHunt_work c s) (abortHunt_kept c s) (abortHunt_guarded c s)

theorem deliver_service (p : OrderReport) (s : State) : ServiceKept s (deliver p s) :=
  (ServiceKept.of_rcs (rcsReport_work p s) (rcsReport_kept (free := earthReason) p s)).trans
    (.of_efs (efsReport_work p _) (efsReport_kept p _) (efsReport_guarded p _))

theorem askOrder_service (k : OrderKind) (who : Origin) (f : Slot) (s : State) :
    ServiceKept s (askOrder k who f s).state :=
  .of_work (askOrder_work k who f s).order (askOrder_kept (free := earthReason) k who f s)
    fun _ => by rw [(askOrder_rcs_efs k who f s).2]

theorem ask_service (k : OrderKind) (who : Origin) (f : Slot) (s : State) : ServiceKept s (ask k who f s).2 :=
  (askOrder_service k who f s).trans (.foldl (fun t p => deliver_service p t) _ _)

theorem putOrder_service (f : Slot) (o : OrderRecord) (s : State) : ServiceKept s (putOrder f o s) :=
  .of_same rfl rfl rfl rfl rfl

theorem setSwitch_service (f : Slot) (w : SwitchRecord) (s : State) : ServiceKept s (s.setSwitch f w) :=
  .of_same rfl rfl rfl rfl rfl

theorem enterLockout_service (c : LockoutCause) (f : Slot) (s : State) : ServiceKept s (enterLockout c f s) :=
  .of_rcs (enterLockout_work c f s) (enterLockout_kept (free := earthReason) c f s)

theorem addReason_service (r : Reason) (f : Slot) (s : State) : ServiceKept s (addReason r f s) :=
  .of_rcs (addReason_work r f s) (addReason_kept (free := fun _ => True) trivial f s)

theorem removeReason_service (r : Reason) (f : Slot) (s : State) : ServiceKept s (removeReason r f s) :=
  .of_rcs (removeReason_work r f s) (removeReason_kept (free := fun _ => True) trivial f s)

theorem alignReason_service (r : Reason) (b : Bool) (f : Slot) (s : State) :
    ServiceKept s (alignReason r b f s) := .ite (addReason_service r f s) (removeReason_service r f s)

theorem setHealth_service (x : Health) (f : Slot) (s : State) : ServiceKept s (setHealth x f s) :=
  (setSwitch_service f _ s).trans (alignReason_service _ _ _ _)

theorem stateSupervisionExpired_service (f : Slot) (s : State) :
    ServiceKept s (stateSupervisionExpired f s) := by
  have stopped := setSwitch_service f { s.switch f with supervision := none } s
  unfold stateSupervisionExpired
  exact .ite (stopped.trans (setHealth_service _ _ _)) stopped

theorem resetSwitch_service (f : Slot) (s : State) : ServiceKept s (resetSwitch f s) := by
  have cleared := setSwitch_service f { s.switch f with failCount := 0 } s
  unfold resetSwitch
  exact .ite (cleared.trans (setHealth_service _ _ _)) cleared

theorem refreshPosition_service (f : Slot) (s : State) : ServiceKept s (refreshPosition f s) :=
  setSwitch_service f _ s

theorem confirmExpired_service (f : Slot) (s : State) : ServiceKept s (confirmExpired f s) := by
  have counted (t : State) : ServiceKept t (countFailure f t) := by
    have counted := setSwitch_service f { t.switch f with failCount := min 8 ((t.switch f).failCount + 1) } t
    unfold countFailure
    exact .ite (counted.trans (setHealth_service _ _ _)) counted
  have failed : ServiceKept s (orderFailed f s) := by
    unfold orderFailed
    exact ((putOrder_service f _ s).trans (counted _)).trans (raise_service _ _ _ _)
  unfold confirmExpired
  exact (failed.trans (deliver_service _ _)).trans (refreshPosition_service f _)

theorem takeState_service (r : StateReport) (f : Slot) (s : State) : ServiceKept s (takeState r f s) := by
  have reported : ServiceKept s (takeStateReport r f s) :=
    .of_work (takeStateReport_work r f s) (takeStateReport_kept r f s)
      fun _ => by rw [takeStateReport_efs]
  have positioned (p : PositionReport) (t : State) : ServiceKept t (rcsPosition p f t) :=
    .of_rcs (rcsPosition_work p f t) (rcsPosition_kept (free := earthReason) p f t)
  have delivered : ServiceKept s (match stateOrderReport r f s with
      | some p => deliver p (takeStateReport r f s)
      | none => takeStateReport r f s) := by
    split
    · exact reported.trans (deliver_service _ _)
    · exact reported
  unfold takeState
  dsimp only
  split
  · exact delivered.trans (positioned _ _)
  · exact delivered

/-! ## Groups (R72 to R75) -/

/-- New groups of one feeder, that are sound while the old ones are. -/
theorem setGroups_service {f : Slot} {a p : Option GroupNo} {s : State}
    (sound : GroupsSound s f → a.isSome = s.acting f ∧ (p ≠ none → a ≠ none ∧ p ≠ a)) :
    ServiceKept s (s.setGroups f a p) := by
  refine ⟨rfl, fun _ => rfl, fun g h => ?_, fun _ _ => id, fun _ => rfl, fun _ _ => id⟩
  unfold GroupsSound
  simp only [State.activeGroup_setGroups, State.pendingGroup_setGroups]
  split
  · next e => subst e; exact sound h
  · exact h

/-- A group that is applied to an acting feeder. -/
theorem applyGroup_service {w : GroupWay} {n : Option SampleNo} {g : GroupNo} {f : Slot} {s : State}
    (acts : GroupsSound s f → s.acting f = true) : ServiceKept s (applyGroup w n g f s) := by
  have set : ServiceKept s (s.setGroups f (some g) none) :=
    setGroups_service fun h => ⟨(acts h).symm, fun c => absurd rfl c⟩
  exact (set.trans (raise_service _ _ _ _)).trans (groupNotify_service f _)

theorem GroupsSound.acts_of_active {s : State} {f : Slot} {a : GroupNo} (h : GroupsSound s f)
    (active : s.activeGroup f = some a) : s.acting f = true := by
  rw [← h.1, active]; rfl

theorem GroupsSound.acts_of_pending {s : State} {f : Slot} {g : GroupNo} (h : GroupsSound s f)
    (pending : s.pendingGroup f = some g) : s.acting f = true := by
  obtain ⟨active, -⟩ := h.2 (by rw [pending]; simp)
  rw [← h.1]
  exact Option.isSome_iff_ne_none.mpr active

theorem requestGroup_service (g : GroupNo) (f : Slot) (s : State) : ServiceKept s (requestGroup g f s) := by
  have kept {p : Option GroupNo} {a : GroupNo} (active : s.activeGroup f = some a) (differs : p ≠ some a)
      (b : NoticeBody) : ServiceKept s (raise (some f) none b (s.setGroups f (some a) p)) := by
    have set : ServiceKept s (s.setGroups f (some a) p) :=
      setGroups_service fun h => ⟨(h.acts_of_active active).symm, fun _ => ⟨by simp, differs⟩⟩
    exact set.trans (.of_same rfl rfl rfl rfl rfl)
  unfold requestGroup
  split
  · exact .refl s
  · next a active =>
    split
    · split
      · exact .refl s
      · exact kept active (by simp) _
    · next differs =>
      exact .ite (.refl s) (.ite (kept active (by simpa using differs) _)
        (applyGroup_service fun h => h.acts_of_active active))

theorem applyPendingAtEntry_service (f : Slot) (s : State) : ServiceKept s (applyPendingAtEntry f s) := by
  unfold applyPendingAtEntry
  split
  · next pending => exact applyGroup_service fun h => h.acts_of_pending pending
  · exact .refl s

/-! ## Elements and streams -/

theorem setElement_service {f : Slot} {x : ElementState} {s : State}
    (h : s.mgr.device = .configuring → x = .cleared) : ServiceKept s (s.setElement f x) := by
  refine ⟨rfl, fun _ => rfl, fun _ => id, fun _ _ => id, fun _ => rfl, fun c g e => ?_⟩
  rw [State.element_setElement]
  split
  · exact h c
  · exact e

theorem tripFeeder_service (f : Slot) (g : GroupNo) (gr : GroupRecord) (t : ElementSet) (h : HandOver)
    (s : State) (acts : s.acting f = true) : ServiceKept s (tripFeeder f g gr t h s) := by
  have operated : ServiceKept s (s.setElement f ((s.element f).act t)) :=
    setElement_service fun c => absurd c (not_configuring_of_acting acts)
  have recorded (b : NoticeBody) (x : ElementState) (r : TripRecord) :
      ServiceKept (s.setElement f x) (raise (some f) (some h.sampleNo) b ((s.setElement f x).setTrip f r)) :=
    ⟨rfl, fun _ => rfl, fun _ => id, fun _ _ => id, fun _ => rfl, fun _ _ => id⟩
  have ordered (i : Bool) (u : State) : ServiceKept u (orderTrip i f u) := by
    unfold orderTrip efsProtectionTrip
    exact ((ask_service _ _ _ _).trans (.of_rcs (tripReport_work i f _)
      (tripReport_kept (free := earthReason) i f _))).trans (abortHunt_service _ _)
  unfold tripFeeder
  dsimp only
  exact .ite (operated.trans (recorded _ _ _)) ((operated.trans (recorded _ _ _)).trans (ordered _ _))

theorem applyAtCompletion_service (f : Slot) (h : HandOver) (s : State) (acts : s.acting f = true) :
    ServiceKept s (applyAtCompletion f h s) := by
  have applied (n : SampleNo) : ServiceKept s (applyPending n f s) := by
    unfold applyPending
    split
    · exact applyGroup_service fun _ => acts
    · exact .refl s
  unfold applyAtCompletion
  split
  · exact .refl s
  · refine (applied h.sampleNo).trans ?_
    unfold clearTurnedOn
    split
    · exact setElement_service fun c =>
        absurd ((applied h.sampleNo).device.symm.trans c) (not_configuring_of_acting acts)
    · exact .refl _

theorem evaluate_service (f : Slot) (h : HandOver) (s : State) : ServiceKept s (evaluate f h s) := by
  unfold evaluate decideFeederTrip
  split
  · next acts =>
    have applied := applyAtCompletion_service f h s acts
    dsimp only
    split
    · exact applied
    · have evaluated (x : ElementState) : ServiceKept s ((applyAtCompletion f h s).setElement f x) :=
        applied.trans (setElement_service fun c =>
          absurd (applied.device.symm.trans c) (not_configuring_of_acting acts))
      exact .ite ((evaluated _).trans (tripFeeder_service _ _ _ _ _ _ (((evaluated _).acting f).trans acts)))
        (evaluated _)
  · exact .refl s

theorem setPheStream_service (r : Role) (p : PheStream) (s : State) : ServiceKept s (s.setPheStream r p) :=
  .of_same rfl rfl rfl rfl rfl

theorem setStream_service (r : Role) (q : StreamRecord) (s : State) : ServiceKept s (s.setStream r q) :=
  .of_same rfl rfl rfl rfl rfl

theorem hand_service (r : Role) (x : Sample) (filled : Bool) (st : StreamState) (s : State) :
    ServiceKept s (hand r x filled st s) := by
  have paired (f : Slot) (c : CycleResult) (t : State) : ServiceKept t (efsFeederResult f c t) :=
    .of_efs (efsFeederResult_work f c t) (efsFeederResult_kept f c t) (efsFeederResult_guarded f c t)
  have completed (c : CycleResult) (t : State) : ServiceKept t (efsBusCompletion c t) :=
    .of_efs (efsBusCompletion_work c t) (efsBusCompletion_kept c t) (efsBusCompletion_guarded c t)
  unfold hand
  split
  · unfold handFeeder
    dsimp only
    refine .ite ?_ (setPheStream_service _ _ s)
    split
    · exact ((setPheStream_service _ _ s).trans (evaluate_service _ _ _)).trans (paired _ _ _)
    · exact (setPheStream_service _ _ s).trans (evaluate_service _ _ _)
  · exact .ite ((setPheStream_service _ _ s).trans (completed _ _)) (setPheStream_service _ _ s)

theorem streamEntered_service (r : Role) (s : State) : ServiceKept s (streamEntered r s) := by
  unfold streamEntered
  split
  · exact applyPendingAtEntry_service _ s
  · exact abortHunt_service _ s

theorem streamStopped_service (r : Role) (n : Option SampleNo) (left : StreamState) (s : State) :
    ServiceKept s (streamStopped r n left s) := by
  have added : ServiceKept s (addStreamReason r s) := by
    unfold addStreamReason
    split
    · exact addReason_service _ _ s
    · exact .refl s
  exact (added.trans (raiseStream_service r n left _)).trans (streamEntered_service r _)

theorem enterFilling_service (r : Role) (x : Sample) (s : State) : ServiceKept s (enterFilling r x s) := by
  rw [enterFilling_eq]
  exact (setStream_service _ _ s).trans (setPheStream_service _ _ _)

theorem enterLocked_service (r : Role) (n : SampleNo) (s : State) : ServiceKept s (enterLocked r n s) := by
  have locked := setStream_service r { s.stream r with state := .locked, consecutive := 0 } s
  unfold enterLocked
  dsimp only
  refine ServiceKept.trans ?_ (raiseStream_service _ _ _ _)
  split
  · exact locked.trans (removeReason_service _ _ _)
  · exact locked

theorem acceptNext_service (r : Role) (x : Sample) (s : State) : ServiceKept s (acceptNext r x s) :=
  (setStream_service _ _ _).trans (hand_service _ _ _ _ _)

theorem fillGap_service (r : Role) (x : Sample) (l : List Nat) (s : State) :
    ServiceKept s (fillGap r x l s) := .foldl (fun t _ => hand_service _ _ _ _ t) l s

theorem takes_service {r : Role} {x : Sample} {s u : State} (h : Takes r x s u) : ServiceKept s u := by
  have resynced := setStream_service r { s.stream r with resyncs := countUp (s.stream r).resyncs } s
  cases h with
  | fresh _ => exact (enterFilling_service r x s).trans (streamEntered_service r _)
  | resync _ => exact (resynced.trans (enterFilling_service r x _)).trans (streamEntered_service r _)
  | discarded => exact setStream_service _ _ s
  | counted _ =>
    have counted := setStream_service r { s.stream r with
        lastSample := x.number, supervision := some 20, consecutive := (s.stream r).consecutive + 1 } s
    unfold fillNext
    exact .ite ((counted.trans (enterLocked_service _ _ _)).trans (hand_service _ _ _ _ _))
      (counted.trans (hand_service _ _ _ _ _))
  | accepted _ => exact acceptNext_service r x s
  | bridged k _ =>
    unfold bridgeGap
    exact ((setStream_service _ _ s).trans (fillGap_service _ _ _ _)).trans (acceptNext_service r x _)
  | broken _ =>
    unfold breakStream
    exact (resynced.trans (enterFilling_service r x _)).trans (streamStopped_service _ _ _ _)

theorem streamLost_service (r : Role) (s : State) : ServiceKept s (streamLost r s) := by
  unfold streamLost
  exact (setStream_service r _ s).trans (streamStopped_service _ _ _ _)

end Sys2Proof.Machine
end

section
/-! PROOFS. What depends on service (R38, R70, R72, R120, R125), through modes, requests and changes of service: the
obligation O9. -/

namespace Sys2Proof.Machine

/-! ## Modes and the clock -/

theorem alignFire_service (f : Slot) (s : State) : ServiceKept s (alignFire f s) := by
  have added : ServiceKept s (addFire f s) := by
    have reason := addReason_service .fire f s
    unfold addFire
    exact .ite (.refl s) (.ite ((reason.trans (putOrder_service _ _ _)).trans (deliver_service _ _)) reason)
  exact .ite added (removeReason_service _ f s)

theorem changeMode_service (d : District) (m : Mode) (src : ModeSource) (s : State) :
    ServiceKept s (changeMode d m src s) := by
  have fire (l m : Mode) (f : Slot) (t : State) : ServiceKept t (fireFollows d l m f t) := by
    have reason := addReason_service .fire f t
    unfold fireFollows addFire
    exact .ite (.ite (.ite (.refl t) (.ite ((reason.trans (putOrder_service _ _ _)).trans
      (deliver_service _ _)) reason)) (.ite (removeReason_service _ f t) (.refl t))) (.refl t)
  have group (f : Slot) (t : State) : ServiceKept t (askGroup d m f t) := by
    unfold askGroup
    split
    · dsimp only
      split
      · exact .refl t
      · exact .ite (requestGroup_service _ _ t) (.refl t)
    · exact .refl t
  have set : ServiceKept s (setMode d m src s) := .of_same rfl rfl rfl rfl rfl
  unfold changeMode
  exact ((set.trans (raise_service _ _ _ _)).trans (.forSlots (fire _ _) _)).trans (.forSlots group _)

theorem updateBusMode_service (s : State) : ServiceKept s (updateBusMode s) := by
  have set : ServiceKept s { s with mdu := { s.mdu with busMode := derivedBusMode s } } :=
    .of_same rfl rfl rfl rfl rfl
  have banned (t : State) : ServiceKept t (efsBecameBan t) :=
    .of_efs (efsBecameBan_work t) (efsBecameBan_kept t) (efsBecameBan_guarded t)
  unfold updateBusMode
  exact .ite (.refl s) (.ite (set.trans (banned _)) set)

theorem evaluateModes_service (s : State) : ServiceKept s (evaluateModes s) := by
  have district (t : State) (d : District) : ServiceKept t (evaluateDistrict t d) :=
    .ite (.of_same rfl rfl rfl rfl rfl) (changeMode_service _ _ _ t)
  exact (ServiceKept.foldl district _ s).trans (updateBusMode_service _)

theorem checkOverrides_service (s : State) : ServiceKept s (checkOverrides s) :=
  .ite (.of_same rfl rfl rfl rfl rfl) (.refl s)

theorem purge_service (s : State) : ServiceKept s (purge s) := .of_same rfl rfl rfl rfl rfl

theorem minuteWork_service (s : State) : ServiceKept s (minuteWork s) := by
  have purged : ServiceKept s (if s.due.day = true then dayWork s else s) :=
    .ite (.of_same rfl rfl rfl rfl rfl) (.refl s)
  have taken (t : State) : ServiceKept t { t with due := { t.due with minute := false } } :=
    .of_same rfl rfl rfl rfl rfl
  exact ((purged.trans (taken _)).trans (checkOverrides_service _)).trans (evaluateModes_service _)

theorem tick_service (s : State) : ServiceKept s (tick s) := by
  have clock : ServiceKept s (tickClock s) :=
    .ite (.ite (.of_same rfl rfl rfl rfl rfl) (.of_same rfl rfl rfl rfl rfl)) (.refl s)
  have timers (t : State) : ServiceKept t (tickTimers t) := by
    refine ⟨rfl, fun _ => rfl, fun _ => id, fun f _ h => ?_, fun _ => rfl, fun _ _ => id⟩
    have seq : (tickTimers t).seq f = (t.seq f).tick := mapV_get _ _ f
    rw [seq]; exact h
  have hunted (t : State) : ServiceKept t (tickHunt t) :=
    .ite (.of_same rfl rfl rfl rfl rfl) (.of_same rfl rfl rfl rfl rfl)
  exact (clock.trans (timers _)).trans (hunted _)

theorem takeTime_service (n : Tod) (s : State) : ServiceKept s (takeTime n s) := by
  have marked (old : Option Tod) (t : State) : ServiceKept t (raiseClockSet old n t) := by
    unfold raiseClockSet
    split
    · exact raise_service _ _ _ t
    · exact .ite (raise_service _ _ _ t) (.refl t)
  have set : ServiceKept s { s with
      mdu := { s.mdu with running := true, day := n.day, ms := n.ms }
      due := { s.due with minute := false, day := false } } := .of_same rfl rfl rfl rfl rfl
  unfold takeTime
  exact .ite (.of_same rfl rfl rfl rfl rfl) ((((set.trans (marked _ _)).trans (purge_service _)).trans
    (checkOverrides_service _)).trans (evaluateModes_service _))

/-! ## A stored feeder record (R70) -/

theorem leaveSequencer_resting (f : Slot) (s : State) : ((leaveSequencer f s).seq f).resting := by
  rw [leaveSequencer_seq]
  unfold SeqRecord.resting seqLeft
  cases h : (s.seq f).state <;> simp [h]

theorem leaveSequencer_seq_other {f g : Slot} (e : f ≠ g) (s : State) :
    (leaveSequencer f s).seq g = s.seq g := by
  unfold leaveSequencer
  dsimp only
  split
  · exact enterLockout_other _ s e
  · exact enterLockout_other _ s e
  · exact enterLockout_other _ s e
  · simp [e]
  · rfl
  · rfl

theorem leaveSequencer_service (f : Slot) (s : State) : ServiceKept s (leaveSequencer f s) :=
  .of_rcs (leaveSequencer_work f s) (leaveSequencer_kept (free := earthReason) f s)

theorem setFeeder_acting_other {f g : Slot} (e : f ≠ g) (r : FeederRecord) (s : State) :
    (s.setFeeder f r).acting g = s.acting g := by
  simp [State.acting, e]

theorem setFeeder_acting_own (f : Slot) (r : FeederRecord) (s : State) :
    (s.setFeeder f r).acting f = (s.mgr.device == .inService && r.inService) := by
  simp [State.acting]

/-- A stored record that leaves who acts as it was. -/
theorem setFeeder_service {f : Slot} {r : FeederRecord} {s : State}
    (same : (s.setFeeder f r).acting f = s.acting f) : ServiceKept s (s.setFeeder f r) := by
  have acting (g : Slot) : (s.setFeeder f r).acting g = s.acting g := by
    by_cases e : f = g
    · exact e ▸ same
    · exact setFeeder_acting_other e r s
  refine ⟨rfl, acting, fun g h => ?_, fun _ _ => id, fun _ => rfl, fun _ _ => id⟩
  unfold GroupsSound
  rw [acting]
  exact h

/-- R70: a feeder leaves service while IN SERVICE. -/
theorem feederLeft_law {f : Slot} {r : FeederRecord} {s : State} (h : ServiceLaw s)
    (device : s.mgr.device = .inService) (out : r.inService = false) :
    ServiceLaw (leaveSequencer f (((s.setFeeder f r).setElement f .cleared).setGroups f none none)) := by
  obtain ⟨groups, resting, -, -⟩ := h
  have idle : (s.setFeeder f r).acting f = false := by rw [setFeeder_acting_own, out, Bool.and_false]
  have left := leaveSequencer_service f (((s.setFeeder f r).setElement f .cleared).setGroups f none none)
  have serves : (leaveSequencer f (((s.setFeeder f r).setElement f .cleared).setGroups f none none)).mgr.device
      ≠ .configuring := by
    rw [left.device]
    show s.mgr.device ≠ .configuring
    rw [device]; simp
  refine ⟨fun g => left.groups g ?_, fun g n => ?_, fun c => absurd c serves,
    fun c => absurd c serves⟩
  · by_cases e : f = g
    · subst e
      refine ⟨?_, fun c => absurd (by simp) c⟩
      rw [State.activeGroup_setGroups, if_pos rfl]
      exact idle.symm
    · obtain ⟨active, pending⟩ := groups g
      unfold GroupsSound
      rw [State.activeGroup_setGroups, State.pendingGroup_setGroups, if_neg e, if_neg e]
      exact ⟨active.trans (setFeeder_acting_other e r s).symm, pending⟩
  · by_cases e : f = g
    · exact e ▸ leaveSequencer_resting f _
    · rw [left.acting] at n
      rw [leaveSequencer_seq_other e]
      exact resting g ((setFeeder_acting_other e r s).symm.trans n)

/-- R70: a feeder joins service while IN SERVICE. -/
theorem feederJoined_law {f : Slot} {r : FeederRecord} {g : GroupNo} {s : State} (h : ServiceLaw s)
    (device : s.mgr.device = .inService) (joins : r.inService = true) :
    ServiceLaw (applyGroup .joining none g f (s.setFeeder f r)) := by
  obtain ⟨groups, resting, -, -⟩ := h
  have acts : (s.setFeeder f r).acting f = true := by rw [setFeeder_acting_own, device, joins]; rfl
  have serves : ((s.setFeeder f r).setGroups f (some g) none).mgr.device ≠ .configuring :=
    not_configuring_of_acting acts
  have set : ServiceLaw ((s.setFeeder f r).setGroups f (some g) none) := by
    refine ⟨fun k => ?_, fun k n => ?_, fun c => absurd c serves,
      fun c => absurd c serves⟩
    · by_cases e : f = k
      · subst e
        refine ⟨?_, fun c => absurd (by simp) c⟩
        rw [State.activeGroup_setGroups, if_pos rfl]
        exact acts.symm
      · obtain ⟨active, pending⟩ := groups k
        unfold GroupsSound
        rw [State.activeGroup_setGroups, State.pendingGroup_setGroups, if_neg e, if_neg e]
        exact ⟨active.trans (setFeeder_acting_other e r s).symm, pending⟩
    · by_cases e : f = k
      · subst e
        have idle : (s.setFeeder f r).acting f = false := n
        rw [acts] at idle; cases idle
      · exact resting k ((setFeeder_acting_other e r s).symm.trans n)
  exact ((raise_service _ _ _ _).trans (groupNotify_service f _)).law set

/-- The service of a stored record keeps the law (R38, R70, R120). -/
theorem serviceFollows_law {f : Slot} {r : FeederRecord} {s : State} (h : ServiceLaw s) :
    ServiceLaw (serviceFollows f (s.feeder f) (s.setFeeder f r)) := by
  have stays (same : s.mgr.device = .inService → r.inService = (s.feeder f).inService) :
      ServiceKept s (s.setFeeder f r) := by
    refine setFeeder_service ?_
    rw [setFeeder_acting_own, State.acting]
    cases device : s.mgr.device
    · rfl
    · rw [same device]
  have record : (s.setFeeder f r).feeder f = r := by simp
  unfold serviceFollows feederLeaves feederJoins
  rw [record]
  dsimp only
  split
  · next leaves =>
    split
    · next device => exact feederLeft_law h device leaves.2
    · next device =>
      exact ((stays fun c => absurd c device).trans (setElement_service fun _ => rfl)).law h
  · next stayed =>
    split
    · next joins =>
      split
      · next device => exact feederJoined_law h device joins.2
      · next device => exact (stays fun c => absurd c device).law h
    · next stayedOut =>
      refine (stays fun _ => ?_).law h
      cases old : (s.feeder f).inService <;> cases new : r.inService <;> simp_all

theorem feederStored_law {f : Slot} {r : FeederRecord} {s : State} (h : ServiceLaw s) :
    ServiceLaw (feederStored f (s.feeder f) (s.setFeeder f r)) := by
  have served := serviceFollows_law (f := f) (r := r) h
  have fired (t : State) : ServiceKept t (districtFollows f (s.feeder f) r t) :=
    .ite (.refl t) (alignFire_service f t)
  rw [feederStored_eq, State.feeder_setFeeder, if_pos rfl]
  exact ((fired _).trans (.ite (.refl _) (updateBusMode_service _))).law served

theorem stores_service {s u : State} (h : Stores s u) (k : ServiceLaw s) : ServiceLaw u := by
  have same {t : State} (elu : t.elu = s.elu) (acting : ∀ f, t.acting f = s.acting f)
      (active : t.gst.activeGroup = s.gst.activeGroup) (pending : t.gst.pendingGroup = s.gst.pendingGroup)
      (rcs : t.rcs = s.rcs) (record : t.efs.record = s.efs.record)
      (device : t.mgr.device = s.mgr.device) : ServiceKept s t := by
    refine ⟨device, acting, fun f h => ?_, fun f _ => ?_, fun _ => by rw [record], fun _ f => ?_⟩
    · unfold GroupsSound State.activeGroup State.pendingGroup
      rw [active, pending, acting]; exact h
    · unfold State.seq; rw [rcs]; exact id
    · unfold State.element; rw [elu]; exact id
  cases h with
  | feeder f r _ _ => exact feederStored_law k
  | _ =>
    refine ServiceKept.law ?_ k
    exact same rfl (fun _ => rfl) rfl rfl rfl rfl rfl

/-! ## Service (R192 to R194) -/

theorem activateMap_service (s : State) : ServiceKept s (activateMap s) := by
  have mapped : ServiceKept s
      { s with siu := { s.siu with active := s.siu.staged, activated := true }, phe := Phe.powerOn } :=
    .of_same rfl rfl rfl rfl rfl
  have switched (f : Slot) (t : State) : ServiceKept t (activateSwitch f t) := setSwitch_service _ _ t
  rw [activateMap_eq]
  exact (mapped.trans (.foldl (fun t r => setStream_service r _ t) _ _)).trans (.forSlots switched _)

theorem activateAtEntry_service (s : State) : ServiceKept s (activateAtEntry s) := by
  have entered (f : Slot) (t : State) : ServiceKept t (enterReasons f t) :=
    (alignReason_service _ _ _ _).trans (addReason_service _ _ _)
  rw [activateAtEntry_eq]
  exact .ite (.refl s) ((activateMap_service s).trans (.forSlots entered _))

theorem setActiveAtEntry_active (f g : Slot) (s : State) : (setActiveAtEntry f s).activeGroup g =
    if f = g ∧ (s.feeder f).inService = true then some (mappedGroup s f) else s.activeGroup g := by
  unfold setActiveAtEntry
  by_cases serves : (s.feeder f).inService = true
  · rw [if_pos serves, State.activeGroup_setGroups]
    by_cases e : f = g
    · subst e; simp [serves]
    · simp [e]
  · rw [if_neg serves, if_neg fun c => serves c.2]

theorem setActiveAtEntry_pending {f g : Slot} {s : State} (h : s.pendingGroup g = none) :
    (setActiveAtEntry f s).pendingGroup g = none := by
  unfold setActiveAtEntry
  split
  · rw [State.pendingGroup_setGroups]
    split
    · rfl
    · exact h
  · exact h

theorem setActiveAtEntry_feeder (f g : Slot) (s : State) : (setActiveAtEntry f s).feeder g = s.feeder g := by
  unfold setActiveAtEntry; split <;> rfl

theorem setActiveAtEntry_seq (f g : Slot) (s : State) : (setActiveAtEntry f s).seq g = s.seq g := by
  unfold setActiveAtEntry; split <;> rfl

theorem setActiveAtEntry_device (f : Slot) (s : State) :
    (setActiveAtEntry f s).mgr.device = s.mgr.device := by
  unfold setActiveAtEntry; split <;> rfl

/-- R72 at ENTER SERVICE: where no feeder has a group yet, each one in service gets its own. -/
theorem activeAtEntry_law {s : State} (device : s.mgr.device = .inService)
    (none : ∀ f, s.activeGroup f = none ∧ s.pendingGroup f = none) (resting : ∀ f, (s.seq f).resting) :
    ServiceLaw (forSlots setActiveAtEntry s) := by
  have serves : (forSlots setActiveAtEntry s).mgr.device = .inService :=
    forSlots_keeps (P := fun t => t.mgr.device = .inService)
      (fun f t h => (setActiveAtEntry_device f t).trans h) s device
  have feeder (f : Slot) : (forSlots setActiveAtEntry s).feeder f = s.feeder f :=
    forSlots_keeps (P := fun t => t.feeder f = s.feeder f)
      (fun g t h => (setActiveAtEntry_feeder g f t).trans h) s rfl
  have seq (f : Slot) : (forSlots setActiveAtEntry s).seq f = s.seq f :=
    forSlots_keeps (P := fun t => t.seq f = s.seq f)
      (fun g t h => (setActiveAtEntry_seq g f t).trans h) s rfl
  have pending (f : Slot) : (forSlots setActiveAtEntry s).pendingGroup f = Option.none :=
    forSlots_keeps (P := fun t => t.pendingGroup f = Option.none)
      (fun g t h => setActiveAtEntry_pending h) s (none f).2
  have active (f : Slot) : ((forSlots setActiveAtEntry s).activeGroup f).isSome = (s.feeder f).inService := by
    have set := forSlots_read (g := setActiveAtEntry) (fun t f => (t.activeGroup f).isSome)
      (fun t f => (t.feeder f).inService) (fun served f held => served f || held)
      (fun t f => by
        rw [setActiveAtEntry_active]
        cases h : (t.feeder f).inService <;> simp [h])
      (fun t f g e => by rw [setActiveAtEntry_active, if_neg fun c => e c.1])
      (fun t f => funext fun g => by rw [setActiveAtEntry_feeder]) s f
    rw [set, (none f).1]
    simp
  have entered : (forSlots setActiveAtEntry s).mgr.device ≠ .configuring := by rw [serves]; simp
  refine ⟨fun f => ⟨?_, fun c => absurd (pending f) c⟩, fun f _ => ?_,
    fun c => absurd c entered, fun c => absurd c entered⟩
  · rw [active, State.acting, serves, feeder]; rfl
  · rw [seq]; exact resting f

theorem evaluatedAtEntry_law {m : Mgr} {s : State} (device : s.mgr.device = .configuring)
    (h : ServiceLaw s) (serves : m.device = .inService) :
    ServiceLaw (forSlots setActiveAtEntry { s with mgr := m }) := by
  obtain ⟨groups, resting, -, -⟩ := h
  have idle (f : Slot) := acting_configuring device f
  refine activeAtEntry_law serves (fun f => ?_) fun f => resting f (idle f)
  obtain ⟨active, pending⟩ := groups f
  rw [idle f] at active
  have none : s.activeGroup f = none := by simpa using active
  exact ⟨none, by_contra fun c => (pending c).1 none⟩

theorem enterService_law {src : RingAddr} {s : State} (out : s.mgr.device ≠ .inService)
    (h : ServiceLaw s) : ServiceLaw (enterService src s) := by
  have device : s.mgr.device = .configuring := by
    cases d : s.mgr.device
    · rfl
    · exact absurd d out
  have evaluated := (activateAtEntry_service s).trans (evaluateModes_service _)
  unfold enterService
  have entered (m : Mgr) := evaluatedAtEntry_law (m := m) (evaluated.device.trans device)
    (evaluated.law h)
  exact entered _ rfl

/-- In CONFIGURING, with the groups and elements cleared, EFS QUIET and the sequencers at rest, the law holds. -/
theorem configuring_law {s : State} (device : s.mgr.device = .configuring)
    (groups : ∀ f, s.activeGroup f = none ∧ s.pendingGroup f = none) (resting : ∀ f, (s.seq f).resting)
    (quiet : s.efs.record.state = .quiet) (elements : ∀ f, s.element f = .cleared) : ServiceLaw s :=
  ⟨fun f => ⟨by rw [(groups f).1, acting_configuring device]; rfl,
    fun c => absurd (groups f).2 c⟩, fun f _ => resting f, fun _ => quiet, fun _ => elements⟩

theorem cleared_activeGroup (f : Slot) (s : State) : (clearGroups (clearElements s)).activeGroup f = none :=
  Vector.getElem_replicate _

theorem cleared_pendingGroup (f : Slot) (s : State) : (clearGroups (clearElements s)).pendingGroup f = none :=
  Vector.getElem_replicate _

theorem cleared_element (f : Slot) (s : State) : (clearGroups (clearElements s)).element f = .cleared :=
  Vector.getElem_replicate _

/-- What rests once done for a feeder rests when it is done for every feeder. -/
theorem forSlots_resting {g : Slot → State → State} (own : ∀ f s, ((g f s).seq f).resting)
    (other : ∀ f k s, f ≠ k → (g f s).seq k = s.seq k) (s : State) (f : Slot) :
    ((forSlots g s).seq f).resting := by
  have all (l : List Slot) (t : State) : ∀ k ∈ l, ((l.foldl (fun u k => g k u) t).seq k).resting := by
    induction l generalizing t with
    | nil => simp
    | cons k l ih =>
      intro j hj
      by_cases later : j ∈ l
      · exact ih _ j later
      · obtain rfl : j = k := by simpa [later] using hj
        have kept : (l.foldl (fun u k => g k u) (g j t)).seq j = (g j t).seq j := by
          clear ih hj
          generalize g j t = u
          induction l generalizing u with
          | nil => rfl
          | cons i l ih =>
            obtain ⟨n, rest⟩ : j ≠ i ∧ j ∉ l := by simpa using later
            exact (ih rest (g i u)).trans (other i j u (Ne.symm n))
        rw [List.foldl_cons, kept]
        exact own j t
  exact all allSlots s f (mem_allSlots f)

/-- R193 and R194: the device goes to CONFIGURING, the groups and elements are cleared. -/
theorem clearedInConfiguring_law {s : State} (resting : ∀ f, (s.seq f).resting)
    (quiet : s.efs.record.state = .quiet) :
    ServiceLaw (clearGroups (clearElements { s with mgr := { s.mgr with device := .configuring } })) :=
  configuring_law rfl (fun f => ⟨cleared_activeGroup f _, cleared_pendingGroup f _⟩) resting quiet
    fun f => cleared_element f _

theorem leaveService_device (s : State) : (leaveService s).mgr.device = .configuring := rfl

theorem leaveService_law (s : State) : ServiceLaw (leaveService s) := by
  have rests := forSlots_resting leaveSequencer_resting (fun f k t e => leaveSequencer_seq_other e t)
    (efsLeaveService s)
  have efs : (forSlots leaveSequencer (efsLeaveService s)).efs = (efsLeaveService s).efs :=
    forSlots_keeps (P := fun t => t.efs = (efsLeaveService s).efs)
      (fun f t h => (leaveSequencer_work f t).efs.trans h) _ rfl
  have quiet : (efsLeaveService s).efs.record.state = .quiet := rfl
  unfold leaveService
  exact clearedInConfiguring_law rests (by rw [efs]; exact quiet)

theorem restartSequencer_resting (f : Slot) (s : State) : ((restartSequencer f s).seq f).resting := by
  unfold restartSequencer SeqRecord.resting
  dsimp only
  split
  · exact .inr (enterLockout_state _ f s)
  · exact .inr (enterLockout_state _ f s)
  · exact .inr (enterLockout_state _ f s)
  · next h => simp [h]
  · simp [SeqRecord.powerOn]
  · simp [SeqRecord.powerOn]

theorem restartSequencer_seq_other {f k : Slot} (e : f ≠ k) (s : State) :
    (restartSequencer f s).seq k = s.seq k := by
  unfold restartSequencer
  dsimp only
  split
  · exact enterLockout_other _ s e
  · exact enterLockout_other _ s e
  · exact enterLockout_other _ s e
  all_goals simp [e]

theorem restart_device (s : State) : (restart s).mgr.device = .configuring := by
  have kept (t : State) :
      (efsRestart (forSlots restartSequencer (forSlots setRestartReasons t))).mgr.device = t.mgr.device := by
    have reasoned : RcsWork t (forSlots restartSequencer (forSlots setRestartReasons t)) :=
      (forSlots_setRestartReasons_work t).trans
        (forSlots_keeps (fun f u h => h.trans (restartSequencer_work f u)) _ (.refl _))
    rw [(efsRestart_work _).mgr, reasoned.mgr]
  unfold restart
  dsimp only
  rw [kept]
  rfl

theorem restart_law (s : State) : ServiceLaw (restart s) := by
  have after (t : State) (device : t.mgr.device = .configuring)
      (groups : ∀ f, t.activeGroup f = none ∧ t.pendingGroup f = none) (elements : ∀ f, t.element f = .cleared) :
      ServiceLaw (efsRestart (forSlots restartSequencer (forSlots setRestartReasons t))) := by
    have quiet (u : State) : (efsRestart u).efs.record.state = .quiet := rfl
    have seq (f : Slot) (u : State) : (efsRestart u).seq f = u.seq f := rfl
    have rests := forSlots_resting restartSequencer_resting (fun f k t e => restartSequencer_seq_other e t)
      (forSlots setRestartReasons t)
    have work : RcsWork t (forSlots restartSequencer (forSlots setRestartReasons t)) :=
      (forSlots_setRestartReasons_work t).trans
        (forSlots_keeps (fun f u h => h.trans (restartSequencer_work f u)) _ (.refl _))
    have reset := efsRestart_work (forSlots restartSequencer (forSlots setRestartReasons t))
    refine configuring_law (by rw [reset.mgr, work.mgr]; exact device) (fun f => ?_) (fun f => ?_)
      (quiet _) fun f => ?_
    · unfold State.activeGroup State.pendingGroup
      rw [reset.gst, work.gst]; exact groups f
    · rw [seq]; exact rests f
    · unfold State.element
      rw [reset.elu, work.elu]; exact elements f
  have cleared (a : State) := after
    (clearGroups (clearElements { a with mgr := { a.mgr with device := .configuring } })) rfl
    (fun f => ⟨cleared_activeGroup f _, cleared_pendingGroup f _⟩) fun f => cleared_element f _
  unfold restart
  exact cleared _

end Sys2Proof.Machine
end

section
/-! PROOFS. What depends on service (R38, R70, R72, R120, R125), through every event and its end: the obligation
O9. -/

namespace Sys2Proof.Machine

theorem executes_service {s u : State} (h : Executes s u) (k : ServiceLaw s) : ServiceLaw u := by
  cases h with
  | nothing => exact k
  | write t size i count bs =>
    exact writeTable_keeps (P := ServiceLaw) (fun _ _ h k => stores_service h k)
      (fun t k => (evaluateModes_service t).law k) t size i count bs s k
  | latches =>
    have cleared : ServiceKept s (clearLatches s) := .of_same rfl rfl rfl rfl rfl
    exact cleared.law k
  | operate kind f => exact (ask_service kind .operator f s).law k
  | block f => exact (addReason_service _ f s).law k
  | unblock f => exact (removeReason_service _ f s).law k
  | resetLockout f =>
    have reset : ServiceKept s (resetLockout f s) :=
      .of_rcs (resetLockout_work f s) (resetLockout_kept (free := (· = .earth)) rfl f s)
    exact reset.law k
  | resetSwitch f => exact (resetSwitch_service f s).law k
  | override d o =>
    have set : ServiceKept s { s with mdu := { s.mdu with overrides := upd s.mdu.overrides d o } } :=
      .of_same rfl rfl rfl rfl rfl
    exact (set.trans (evaluateModes_service _)).law k
  | startHunt may =>
    have device : s.mgr.device ≠ .configuring := by
      intro c
      simp [mayStartHunt, c] at may
    have hunted : ServiceKept s (startHunt .manual s) :=
      .of_work (startHunt_work .manual s).order (startHunt_kept .manual s) fun c => absurd c device
    exact hunted.law k
  | abortHunt => exact (abortHunt_service .request s).law k
  | enterService src out _ => exact enterService_law out k
  | leaveService _ => exact leaveService_law s
  | restart => exact restart_law s

theorem received_service {s u : State} (h : Received s u) : ServiceKept s u := by
  cases h with
  | formatError | crcError => exact .of_same rfl rfl rfl rfl rfl
  | nothing => exact .refl s
  | echo f n => exact .ite (.of_same rfl rfl rfl rfl rfl) (.refl s)
  | consumed src p => exact .ite (.of_same rfl rfl rfl rfl rfl) (.of_same rfl rfl rfl rfl rfl)
  | forwarded bs u h =>
    have copied : ServiceKept s u := by
      cases h with
      | nothing => exact .refl s
      | foreign => exact .of_same rfl rfl rfl rfl rfl
      | sample r x u h => exact takes_service h
      | state r f => exact takeState_service r f s
      | time n => exact takeTime_service n s
    exact copied.trans (.ite (.of_same rfl rfl rfl rfl rfl) (.of_same rfl rfl rfl rfl rfl))

/-- The dead timer expires while the feeder acts, IN SERVICE. -/
theorem deadExpired_service {f : Slot} {s : State} (acts : s.acting f = true) (dead : (s.seq f).state = .dead) :
    ServiceKept s (deadExpired f s) :=
  .of_work (deadExpired_work f s).order (deadExpired_kept acts dead)
    fun c => absurd c (not_configuring_of_acting acts)

theorem event_service {s u : State} (h : Event s u) (k : ServiceLaw s) : ServiceLaw u := by
  have ticked {t : State} {c : Prop} [Decidable c] : ServiceKept t (if c then tick t else t) :=
    .ite (tick_service t) (.refl t)
  have kept : ServiceKept s u ∨ ServiceLaw u := by
    cases h with
    | tick => exact .inl (tick_service s)
    | day =>
      have worked (t : State) : ServiceKept t (dayWork t) := .of_same rfl rfl rfl rfl rfl
      exact .inl (ServiceKept.trans ticked (worked _))
    | minute => exact .inl (ServiceKept.trans ticked (minuteWork_service _))
    | frame u h => exact .inl (received_service h)
    | frameEnd => exact .inl (.of_same rfl rfl rfl rfl rfl)
    | streamLost r => exact .inl (streamLost_service r s)
    | switchSilent f => exact .inl (stateSupervisionExpired_service f s)
    | echoMissing f _ => exact .inl (.of_same rfl rfl rfl rfl rfl)
    | orderFailed f _ => exact .inl (confirmExpired_service f s)
    | deadTimer f acts dead => exact .inl (deadExpired_service acts dead)
    | reclaimTimer f h =>
      exact .inl (.of_rcs (reclaimExpired_work f s) (reclaimExpired_kept (free := earthReason) f s h))
    | huntLimit =>
      have unmarked : ServiceKept s { s with due := { s.due with huntLimit := false } } :=
        .of_same rfl rfl rfl rfl rfl
      exact .inl (unmarked.trans (abortHunt_service _ _))
    | request q rest c content v _ _ h =>
      have popped : ServiceKept s (popRequest rest s) := .of_same rfl rfl rfl rfl rfl
      have replied : ServiceKept v (answerRequest q ⟨c, content, v⟩) := .of_same rfl rfl rfl rfl rfl
      exact .inr (replied.law (executes_service h (popped.law k)))
  exact kept.elim (fun a => a.law k) id

theorem finish_service (s : State) : ServiceKept s (finish s) := by
  have work := finish_work s
  exact .of_same work.elu work.gst work.rcs (by rw [work.efs]) work.device

/-! ## The obligation -/

theorem powerOn_serviceLaw (straps : RingAddr) : ServiceLaw (State.powerOn straps) :=
  configuring_law rfl (fun f => ⟨powerOn_activeGroup straps f, powerOn_pendingGroup straps f⟩)
    (fun f => .inl (by rw [powerOn_seq]; rfl)) rfl fun f => powerOn_element straps f

/-- Settles O9: the law of service holds at power-on, and every event and its end keep it. -/
theorem serviceStaysCoherent : Obligations.ServiceStaysCoherent := fun s t h hs =>
  (serviceCoherent_iff t).mpr (step_keeps (P := ServiceLaw)
    (fun s p h => by
      have queued : ServiceKept s { s with pending := p } := .of_same rfl rfl rfl rfl rfl
      exact queued.law h) powerOn_serviceLaw
    (fun _ u k event => (finish_service u).law (event_service event k)) s t ((serviceCoherent_iff s).mp h) hs)

end Sys2Proof.Machine
end

section
/-! PROOFS. The law of R71: while IN SERVICE every mapped group of an in-service feeder is valid. The obligation
O10. -/

namespace Sys2Proof.Machine

/-! ## What leaves the tables of GST as they are -/

/-- The law of R71. -/
def GroupsMapped (s : State) : Prop := MappedGroupsValid s

/-- The tables that R71 looks at, and the device state, are as they were. -/
structure TablesSame (s t : State) : Prop where
  curves : t.gst.curves = s.gst.curves
  groups : t.gst.groups = s.gst.groups
  feeders : t.gst.feeders = s.gst.feeders
  device : t.mgr.device = s.mgr.device

namespace TablesSame

theorem refl (s : State) : TablesSame s s := ⟨rfl, rfl, rfl, rfl⟩

theorem trans {s t u : State} (a : TablesSame s t) (b : TablesSame t u) : TablesSame s u :=
  ⟨b.curves.trans a.curves, b.groups.trans a.groups, b.feeders.trans a.feeders, b.device.trans a.device⟩

theorem ite {c : Prop} [Decidable c] {s t u : State} (a : TablesSame s t) (b : TablesSame s u) :
    TablesSame s (if c then t else u) := by
  split <;> assumption

theorem valid {s t : State} (a : TablesSame s t) (f : Slot) (g : GroupNo) :
    groupValidAt t f g = groupValidAt s f g := by
  unfold groupValidAt State.group
  rw [a.curves, a.groups]

theorem feeder {s t : State} (a : TablesSame s t) (f : Slot) : t.feeder f = s.feeder f := by
  unfold State.feeder; rw [a.feeders]

theorem mapped {s t : State} (a : TablesSame s t) (h : GroupsMapped s) : GroupsMapped t := by
  intro device f serves m
  rw [a.feeder] at serves ⊢
  rw [a.valid]
  exact h (a.device.symm.trans device) f serves m

theorem of_mode {s t : State} (a : ModeWork s t) : TablesSame s t :=
  ⟨a.curves, a.groups, a.feeders, by rw [a.mgr]⟩

theorem of_order {s t : State} (a : OrderWork s t) : TablesSame s t :=
  ⟨by rw [a.gst], by rw [a.gst], by rw [a.gst], by rw [a.mgr]⟩

theorem of_sample {s t : State} (a : SampleWork s t) : TablesSame s t :=
  ⟨a.curves, a.groups, a.feeders, by rw [a.mgr]⟩

end TablesSame

theorem evaluateModes_tables (s : State) : TablesSame s (evaluateModes s) := .of_mode (evaluateModes_work s)

theorem tick_tables (s : State) : TablesSame s (tick s) := by
  have clock : TablesSame s (tickClock s) :=
    .ite (.ite ⟨rfl, rfl, rfl, rfl⟩ ⟨rfl, rfl, rfl, rfl⟩) (.refl s)
  have hunted (t : State) : TablesSame t (tickHunt t) := .ite ⟨rfl, rfl, rfl, rfl⟩ ⟨rfl, rfl, rfl, rfl⟩
  have timers (t : State) : TablesSame t (tickTimers t) := ⟨rfl, rfl, rfl, rfl⟩
  exact (clock.trans (timers _)).trans (hunted _)

theorem checkOverrides_tables (s : State) : TablesSame s (checkOverrides s) :=
  .ite ⟨rfl, rfl, rfl, rfl⟩ (.refl s)

theorem minuteWork_tables (s : State) : TablesSame s (minuteWork s) := by
  have purged : TablesSame s (if s.due.day = true then dayWork s else s) :=
    .ite ⟨rfl, rfl, rfl, rfl⟩ (.refl s)
  have taken (t : State) : TablesSame t { t with due := { t.due with minute := false } } := ⟨rfl, rfl, rfl, rfl⟩
  exact ((purged.trans (taken _)).trans (checkOverrides_tables _)).trans (evaluateModes_tables _)

theorem takeTime_tables (n : Tod) (s : State) : TablesSame s (takeTime n s) := by
  have marked (old : Option Tod) (t : State) : TablesSame t (raiseClockSet old n t) := by
    unfold raiseClockSet
    split
    · exact ⟨rfl, rfl, rfl, rfl⟩
    · exact .ite ⟨rfl, rfl, rfl, rfl⟩ (.refl t)
  have set : TablesSame s { s with
      mdu := { s.mdu with running := true, day := n.day, ms := n.ms }
      due := { s.due with minute := false, day := false } } := ⟨rfl, rfl, rfl, rfl⟩
  have purged (t : State) : TablesSame t (purge t) := ⟨rfl, rfl, rfl, rfl⟩
  unfold takeTime
  exact .ite ⟨rfl, rfl, rfl, rfl⟩ ((((set.trans (marked _ _)).trans (purged _)).trans
    (checkOverrides_tables _)).trans (evaluateModes_tables _))

theorem received_tables {s u : State} (h : Received s u) : TablesSame s u := by
  cases h with
  | formatError | crcError => exact ⟨rfl, rfl, rfl, rfl⟩
  | nothing => exact .refl s
  | echo f n => exact .of_order (orderEcho_work f n s).order
  | consumed src p => exact .ite ⟨rfl, rfl, rfl, rfl⟩ ⟨rfl, rfl, rfl, rfl⟩
  | forwarded bs u h =>
    have copied : TablesSame s u := by
      cases h with
      | nothing => exact .refl s
      | foreign => exact ⟨rfl, rfl, rfl, rfl⟩
      | sample r x u h => exact .of_sample (takes_work h)
      | state r f => exact .of_order (takeState_work r f s)
      | time n => exact takeTime_tables n s
    exact copied.trans (.ite ⟨rfl, rfl, rfl, rfl⟩ ⟨rfl, rfl, rfl, rfl⟩)

/-! ## Written entries (R64, R67, R69) -/

/-- A curve that is valid, or that the element does not use, leaves an inverse-time setting valid. -/
theorem InverseSetting.valid_upd {curves : Vector Curve 8} {i : Fin 8} {c : Curve} {d : InverseSetting}
    (h : c.valid = true ∨ d.uses i = false) (v : d.valid curves = true) : d.valid (upd curves i c) = true := by
  have curve : (d.pickup == 0 || (match curveAt curves d.curve with | some c => c.valid | none => false)) = true →
      (d.pickup == 0 ||
        (match curveAt (upd curves i c) d.curve with | some c => c.valid | none => false)) = true := by
    intro before
    unfold curveAt at before ⊢
    by_cases inRange : d.curve < 8
    · rw [dif_pos inRange] at before ⊢
      by_cases here : i.val = d.curve
      · rcases h with valid | unused
        · simp [here, valid]
        · simp only [InverseSetting.uses, here, Bool.and_eq_false_iff, bne_eq_false_iff_eq] at unused
          rcases unused with off | elsewhere
          · simp [off]
          · simp at elsewhere
      · simpa [here] using before
    · rwa [dif_neg inRange] at before ⊢
  unfold InverseSetting.valid at v ⊢
  rw [Bool.and_eq_true] at v ⊢
  exact ⟨v.1, curve v.2⟩

theorem GroupRecord.valid_upd {curves : Vector Curve 8} {i : Fin 8} {c : Curve} {g : GroupRecord}
    (h : c.valid = true ∨ (g.phIt.uses i = false ∧ g.efIt.uses i = false)) (v : g.valid curves = true) :
    g.valid (upd curves i c) = true := by
  have phIt : g.phIt.valid curves = true → g.phIt.valid (upd curves i c) = true :=
    InverseSetting.valid_upd (h.imp id And.left)
  have efIt : g.efIt.valid curves = true → g.efIt.valid (upd curves i c) = true :=
    InverseSetting.valid_upd (h.imp id And.right)
  unfold GroupRecord.valid at v ⊢
  simp only [Bool.and_eq_true] at v ⊢
  tauto

theorem groupIndex_inj {f k : Slot} {g j : GroupNo} (h : State.groupIndex f g = State.groupIndex k j) :
    f = k ∧ g = j := by
  have index : 4 * f.val + g.val = 4 * k.val + j.val := congrArg Fin.val h
  exact ⟨Fin.ext (by omega), Fin.ext (by omega)⟩

theorem mem_modeMap (r : FeederRecord) (m : Fin 3) : r.modeMap[m] ∈ r.modeMap.toList := by
  simp

theorem curve_mapped {i : Fin 8} {c : Curve} {s : State} (h : c.valid = true ∨ curveInUse s i = false)
    (k : GroupsMapped s) : GroupsMapped { s with gst := { s.gst with curves := upd s.gst.curves i c } } := by
  intro device f serves m
  have serves : (s.feeder f).inService = true := serves
  have valid : (s.group f (s.feeder f).modeMap[m]).valid s.gst.curves = true := k device f serves m
  refine GroupRecord.valid_upd (h.imp id fun unused => ?_) valid
  simp only [curveInUse, List.any_eq_false] at unused
  have none := unused f (mem_allSlots f)
  simp only [serves, Bool.true_and, Bool.not_eq_true, List.any_eq_false] at none
  exact (by simpa using none _ (mem_modeMap (s.feeder f) m))

theorem group_mapped {f : Slot} {g : GroupNo} {r : GroupRecord} {s : State}
    (h : (s.feeder f).inService = true → (s.feeder f).names g = true → r.valid s.gst.curves = true)
    (k : GroupsMapped s) :
    GroupsMapped { s with gst := { s.gst with groups := upd s.gst.groups (State.groupIndex f g) r } } := by
  intro device j serves m
  have serves : (s.feeder j).inService = true := serves
  show (upd s.gst.groups (State.groupIndex f g) r)[State.groupIndex j (s.feeder j).modeMap[m]].valid
    s.gst.curves = true
  rw [upd_get]
  split
  · next here =>
    obtain ⟨rfl, rfl⟩ := groupIndex_inj here
    exact h serves (by simp [FeederRecord.names])
  · exact k device j serves m

theorem serviceFollows_tables (f : Slot) (old : FeederRecord) (s : State) :
    TablesSame s (serviceFollows f old s) := by
  have left (t : State) : TablesSame t (leaveSequencer f t) := .of_order (leaveSequencer_work f t).order
  have cleared : TablesSame s (s.setElement f .cleared) := ⟨rfl, rfl, rfl, rfl⟩
  have grouped (t : State) : TablesSame t (t.setGroups f none none) := ⟨rfl, rfl, rfl, rfl⟩
  exact .ite (.ite ((cleared.trans (grouped _)).trans (left _)) cleared)
    (.ite (.ite (.of_mode (applyGroup_modeWork _ _ _ _ s)) (.refl s)) (.refl s))

theorem feederStored_tables (f : Slot) (old : FeederRecord) (s : State) :
    TablesSame s (feederStored f old s) := by
  have fired (t : State) : TablesSame t (districtFollows f old (s.feeder f) t) :=
    .ite (.refl t) (.of_order (alignFire_work f t).order)
  rw [feederStored_eq]
  exact ((serviceFollows_tables f old s).trans (fired _)).trans
    (.ite (.refl _) (.of_mode (updateBusMode_work _)))

theorem feeder_mapped {f : Slot} {r : FeederRecord} {s : State} (h : feederRefused f r s = false)
    (k : GroupsMapped s) : GroupsMapped (feederStored f (s.feeder f) (s.setFeeder f r)) := by
  refine (feederStored_tables f _ _).mapped ?_
  intro device j serves m
  show groupValidAt s j ((s.setFeeder f r).feeder j).modeMap[m] = true
  by_cases e : f = j
  · subst e
    rw [State.feeder_setFeeder, if_pos rfl]
    simp only [feederRefused, Bool.or_eq_false_iff, Bool.not_eq_false', List.all_eq_true] at h
    exact h.1 _ (mem_modeMap r m)
  · rw [State.feeder_setFeeder, if_neg e] at serves ⊢
    exact k device j serves m

theorem stores_mapped {s u : State} (h : Stores s u) (k : GroupsMapped s) : GroupsMapped u := by
  cases h with
  | curve i c h => exact curve_mapped h k
  | group f g r h => exact group_mapped h k
  | feeder f r h _ => exact feeder_mapped h k
  | _ => exact k

/-! ## Service (R71, R192) -/

theorem activateAtEntry_tables (s : State) : TablesSame s (activateAtEntry s) := by
  have switched (t : State) : TablesSame t (forSlots activateSwitch t) :=
    forSlots_keeps (fun f u h => h.trans (.of_order (activateSwitch_work f u))) t (.refl t)
  have stream (t : State) (r : Role) : TablesSame t (activateStream r t) := ⟨rfl, rfl, rfl, rfl⟩
  have streamed (t : State) : TablesSame t (allRoles.foldl (fun v r => activateStream r v) t) :=
    foldl_keeps (P := TablesSame t) (fun u r h => h.trans (stream u r)) allRoles t (.refl t)
  have mapped : TablesSame s
      { s with siu := { s.siu with active := s.siu.staged, activated := true }, phe := Phe.powerOn } :=
    ⟨rfl, rfl, rfl, rfl⟩
  have reasoned (t : State) : TablesSame t (forSlots enterReasons t) :=
    .of_order (forSlots_enterReasons_work t).order
  have activated (t : State) := ((streamed t).trans (switched _)).trans (reasoned _)
  rw [activateAtEntry_eq, activateMap_eq]
  exact .ite (.refl s) (mapped.trans (activated _))

theorem enterService_eq (src : RingAddr) (s : State) : enterService src s = forSlots setActiveAtEntry
    { evaluateModes (activateAtEntry s) with mgr := { (evaluateModes (activateAtEntry s)).mgr with
      device := .inService, destination := src } } := rfl

/-- R192: at ENTER SERVICE every mapped group of an in-service feeder has been found valid. -/
theorem enterService_mapped {src : RingAddr} {s : State} (h : allSlots.findSome? (entryFailure s) = none) :
    GroupsMapped (enterService src s) := by
  have checked (f : Slot) (serves : (s.feeder f).inService = true) (m : Fin 3) :
      groupValidAt s f (s.feeder f).modeMap[m] = true := by
    have passed : entryFailure s f = none := by
      rw [List.findSome?_eq_none_iff] at h
      exact h f (mem_allSlots f)
    unfold entryFailure at passed
    rw [if_neg (by simp [serves])] at passed
    split at passed
    · cases passed
    · next all =>
      simp only [Bool.not_eq_false, List.all_eq_true] at all
      exact all _ (mem_modeMap _ m)
  have evaluated := (activateAtEntry_tables s).trans (evaluateModes_tables _)
  have entered (m : Mgr) (t : State) (h : TablesSame s t) :
      GroupsMapped (forSlots setActiveAtEntry { t with mgr := m }) := by
    have served (u : State) (f : Slot) : TablesSame u (setActiveAtEntry f u) := .ite ⟨rfl, rfl, rfl, rfl⟩ (.refl u)
    have all : TablesSame { t with mgr := m } (forSlots setActiveAtEntry { t with mgr := m }) :=
      forSlots_keeps (fun f u h => h.trans (served u f)) _ (.refl _)
    refine all.mapped fun _ f serves k => ?_
    have serves : (t.feeder f).inService = true := serves
    show groupValidAt t f (t.feeder f).modeMap[k] = true
    rw [h.feeder] at serves ⊢
    rw [h.valid]
    exact checked f serves k
  rw [enterService_eq]
  exact entered _ _ evaluated

/-! ## Every event -/

theorem configuring_mapped {s : State} (h : s.mgr.device = .configuring) : GroupsMapped s :=
  fun c => by rw [h] at c; cases c

theorem executes_mapped {s u : State} (h : Executes s u) (k : GroupsMapped s) : GroupsMapped u := by
  cases h with
  | nothing => exact k
  | write t size i count bs =>
    exact writeTable_keeps (P := GroupsMapped) (fun _ _ h k => stores_mapped h k)
      (fun t k => (evaluateModes_tables t).mapped k) t size i count bs s k
  | latches => exact k
  | operate kind f => exact (TablesSame.of_order (ask_work kind .operator f s).order).mapped k
  | block f => exact (TablesSame.of_order (addReason_work _ f s).order).mapped k
  | unblock f => exact (TablesSame.of_order (removeReason_work _ f s).order).mapped k
  | resetLockout f => exact (TablesSame.of_order (resetLockout_work f s).order).mapped k
  | resetSwitch f => exact (TablesSame.of_order (resetSwitch_work f s)).mapped k
  | override d o =>
    have set : TablesSame s { s with mdu := { s.mdu with overrides := upd s.mdu.overrides d o } } :=
      ⟨rfl, rfl, rfl, rfl⟩
    exact (set.trans (evaluateModes_tables _)).mapped k
  | startHunt _ => exact (TablesSame.of_order (startHunt_work .manual s).order).mapped k
  | abortHunt => exact (TablesSame.of_order (abortHunt_work .request s).order).mapped k
  | enterService src _ passed => exact enterService_mapped passed
  | leaveService _ => exact configuring_mapped (leaveService_device s)
  | restart =>
    have device : (restart s).mgr.device = .configuring := restart_device s
    exact configuring_mapped device

theorem event_mapped {s u : State} (h : Event s u) (k : GroupsMapped s) : GroupsMapped u := by
  have ticked {t : State} {c : Prop} [Decidable c] : TablesSame t (if c then tick t else t) :=
    .ite (tick_tables t) (.refl t)
  cases h with
  | tick => exact (tick_tables s).mapped k
  | day =>
    have worked (t : State) : TablesSame t (dayWork t) := ⟨rfl, rfl, rfl, rfl⟩
    exact (TablesSame.trans ticked (worked _)).mapped k
  | minute => exact (TablesSame.trans ticked (minuteWork_tables _)).mapped k
  | frame u h => exact (received_tables h).mapped k
  | frameEnd => exact k
  | streamLost r => exact (TablesSame.of_sample (streamLost_work r s)).mapped k
  | switchSilent f => exact (TablesSame.of_order (stateSupervisionExpired_work f s)).mapped k
  | echoMissing f _ => exact k
  | orderFailed f _ => exact (TablesSame.of_order (confirmExpired_work f s)).mapped k
  | deadTimer f _ _ => exact (TablesSame.of_order (deadExpired_work f s).order).mapped k
  | reclaimTimer f _ => exact (TablesSame.of_order (reclaimExpired_work f s).order).mapped k
  | huntLimit =>
    have unmarked : GroupsMapped { s with due := { s.due with huntLimit := false } } := k
    exact (TablesSame.of_order (abortHunt_work _ _).order).mapped unmarked
  | request q rest c content v _ _ h =>
    have popped : GroupsMapped (popRequest rest s) := k
    have replied : TablesSame v (answerRequest q ⟨c, content, v⟩) := ⟨rfl, rfl, rfl, rfl⟩
    exact replied.mapped (executes_mapped h popped)

/-- Settles O10: no feeder is in service at power-on; every stored entry and every entry into service is checked, and
nothing else touches the tables. -/
theorem mappedGroupsStayValid : Obligations.MappedGroupsStayValid := fun s t =>
  step_keeps (P := GroupsMapped) (fun _ _ h => h) (fun _ => configuring_mapped rfl)
    (fun _ u k event => by
      have work := finish_work u
      have finished : TablesSame u (finish u) :=
        ⟨by rw [work.gst], by rw [work.gst], by rw [work.gst], work.device⟩
      exact finished.mapped (event_mapped event k)) s t

end Sys2Proof.Machine
end

section
/-! PROOFS. The obligations on the reception of frames (R171 to R175) and on the OUT port (R177, R178, R188 to
R190). -/

namespace Sys2Proof.Machine

/-! ## Reception -/

theorem receiveFrame_badLength {f : RxFrame} (h : BadLength f) (s : State) :
    receiveFrame f s = countFormatError s := by
  rw [receiveFrame, if_pos ((goodLength_eq_false f).2 h)]

theorem receiveFrame_badCrc {f : RxFrame} (length : ¬ BadLength f) (h : ¬ CrcMatches f) (s : State) :
    receiveFrame f s = countCrcError s := by
  rw [receiveFrame, if_neg (mt (goodLength_eq_false f).1 length), if_pos ((goodCrc_eq_false f).2 h)]

theorem receiveFrame_badSource {f : RxFrame} (length : ¬ BadLength f) (crc : CrcMatches f) (h : BadSource f)
    (s : State) : receiveFrame f s = countFormatError s := by
  rw [receiveFrame, if_neg (mt (goodLength_eq_false f).1 length), if_neg, if_pos ((goodSource_eq_false f).2 h)]
  rw [goodCrc_eq_false]
  exact fun n => n crc

/-- Settles O11: each check of R171 that fails discards the frame and counts it. -/
theorem badFramesAreDiscarded : Obligations.BadFramesAreDiscarded := by
  intro f s i hi
  refine ⟨fun length => ?_, fun length crc => ?_, fun length crc source => ?_⟩
  · rw [Effect, exec_received i f s hi, receiveFrame_badLength length, countFormatError, countUp_eq_min]
  · rw [Effect, exec_received i f s hi, receiveFrame_badCrc length crc, countCrcError, countUp_eq_min]
  · rw [Effect, exec_received i f s hi, receiveFrame_badSource length crc source, countFormatError,
      countUp_eq_min]

/-- A frame that is neither an echo, a copy's nor this node's own is forwarded alone (R172). -/
theorem handleFrame_forwards {f : RxFrame} {s : State} (source : sourceOf f ≠ s.rpt.ownAddress)
    (sample : kindOf f ≠ 1) (state : kindOf f ≠ 2) (time : kindOf f = 3 → destinationOf f ≠ 63)
    (request : kindOf f = 5 → ¬ (OnTheRing s ∧ destinationOf f = s.rpt.ownAddress)) :
    handleFrame f.bytes s = forwardFrame f.bytes s := by
  have kind := frameKind_ofByte (byteAt f.bytes 2)
  rw [if_neg (show ¬ (byteAt f.bytes 2).toNat = 1 from sample),
    if_neg (show ¬ (byteAt f.bytes 2).toNat = 2 from state)] at kind
  unfold handleFrame
  dsimp only
  rw [if_neg source, kind]
  by_cases t : (byteAt f.bytes 2).toNat = 3
  · simp only [t, if_true]
    exact if_neg (time t)
  · by_cases o : (byteAt f.bytes 2).toNat = 4
    · simp [o]
    · by_cases q : (byteAt f.bytes 2).toNat = 5
      · simp only [q]
        refine if_neg fun ⟨mine, address⟩ => request q ⟨(hasAddress_iff s).1 address, mine⟩
      · rw [if_neg t, if_neg o, if_neg q]
        by_cases r : (byteAt f.bytes 2).toNat = 6
        · rw [if_pos r]
        · by_cases n : (byteAt f.bytes 2).toNat = 7
          · rw [if_neg r, if_pos n]
          · rw [if_neg r, if_neg n]

/-- A REQUEST to this node is consumed (R172, R182). -/
theorem handleFrame_consumes {f : RxFrame} {s : State} (source : sourceOf f ≠ s.rpt.ownAddress)
    (kind : kindOf f = 5) (ring : OnTheRing s) (mine : destinationOf f = s.rpt.ownAddress) :
    handleFrame f.bytes s = consumeRequest (sourceOf f) (payloadOf f) s := by
  have request : FrameKind.ofByte (byteAt f.bytes 2) = some .request := by
    rw [frameKind_ofByte, show (byteAt f.bytes 2).toNat = 5 from kind]; rfl
  unfold handleFrame
  dsimp only
  rw [if_neg source, request]
  exact if_pos ⟨mine, (hasAddress_iff s).2 ring⟩

/-- A frame that comes back to its source is removed (R173). -/
theorem handleFrame_strips {f : RxFrame} {s : State} (source : sourceOf f = s.rpt.ownAddress) :
    handleFrame f.bytes s = stripEcho (FrameKind.ofByte (byteAt f.bytes 2)) (payloadOf f) s := if_pos source

theorem order_ofByte_iff (b : Byte) : FrameKind.ofByte b = some .order ↔ b.toNat = 4 := by
  revert b; decide

theorem slotOfByte_eq_some_iff (n : Nat) (k : Slot) : slotOfByte n = some k ↔ n = k.val := by
  unfold slotOfByte
  split
  · next h => rw [Option.some.injEq, Fin.ext_iff]
  · next h => simp; omega

/-- Settles O12, by the rows of R172 and the states of the FIFO and of the order that an echo names. -/
theorem framesAreForwardedConsumedOrStripped : Obligations.FramesAreForwardedConsumedOrStripped := by
  refine ⟨fun f k s ⟨wellFormed, source, kind⟩ sample state time request => ?_,
    fun f s ⟨wellFormed, source, kind⟩ ring mine => ?_, fun f s wellFormed source => ?_⟩
  · subst kind
    rw [Effect, exec_received _ f s (by simp), receiveFrame_wellFormed f s wellFormed,
      handleFrame_forwards source sample state time request, forwardFrame_eq]
  · rw [Effect, Effect, exec_received _ f s (by simp), receiveFrame_wellFormed f s wellFormed,
      handleFrame_consumes source kind ring mine]
    unfold consumeRequest
    refine ⟨fun room => by rw [if_pos room], fun full => by rw [if_neg (by omega), countUp_eq_min]⟩
  · have stripped : exec (.frameReceived f) s =
        .next (finish (stripEcho (FrameKind.ofByte (byteAt f.bytes 2)) (payloadOf f) s)) := by
      rw [exec_received _ f s (by simp), receiveFrame_wellFormed f s wellFormed, handleFrame_strips source]
    refine ⟨fun k kind slot sent watch number => ?_, fun none => ?_⟩ <;> rw [Effect, stripped]
    · simp only [stripEcho, (order_ofByte_iff _).2 kind, (slotOfByte_eq_some_iff _ k).2 slot]
      rw [orderEcho, if_pos ⟨sent, Option.isSome_iff_ne_none.mpr watch, number⟩]
    · unfold stripEcho
      split
      · next k kind slot =>
        have missed := none k ((order_ofByte_iff _).1 kind) ((slotOfByte_eq_some_iff _ k).1 slot)
        rw [orderEcho, if_neg fun ⟨sent, watch, number⟩ =>
          missed ⟨sent, Option.isSome_iff_ne_none.mp watch, number⟩]
      · rfl

end Sys2Proof.Machine
end

section
/-! PROOFS. The obligations on the OUT port and the notice queue (R177, R178, R188 to R190). -/

namespace Sys2Proof.Machine

/-! ## The insertion arbiter -/

/-- `s` with the OUT port IDLE, as FRAME_END leaves it (R177). -/
def portIdle (s : State) : State := { s with rpt := { s.rpt with out := .idle } }

theorem exec_frameEnd {s : State} (quiet : s.raised = []) :
    exec .frameEnd s = .next (chooseFrame (portIdle s)) :=
  congrArg Host.Outcome.next (finish_none (portIdle s) quiet)

theorem chooseFrame_order {s : State} (ring : OnTheRing s) {f : Slot} (lowest : requestedSlot s = some f) :
    chooseFrame s = startOrder f s := by
  rw [chooseFrame, if_pos ((hasAddress_iff s).2 ring), lowest]

theorem chooseFrame_forward {s : State} (none : OnTheRing s → requestedSlot s = none) :
    chooseFrame s = chooseForward s := by
  unfold chooseFrame
  split
  · next h => rw [none ((hasAddress_iff s).1 h)]
  · rfl

theorem chooseForward_own {s : State} (empty : s.rpt.forward = []) (ring : OnTheRing s) :
    chooseForward s = chooseOwn s := by
  rw [chooseForward, empty]
  exact if_pos ((hasAddress_iff s).2 ring)

/-! ## The start of an order (R178, R95) -/

theorem orderStarted_order (f : Slot) (s : State) : (orderStarted f s).order f = { s.order f with
    state := .sent, echoWatch := some 5, confirm := some (10 * (s.feeder f).confirmLimit) } := by
  simp [orderStarted, putOrder, refreshPosition]

theorem orderStarted_switch (f : Slot) (s : State) : (orderStarted f s).switch f = { s.switch f with
    position := positionOf (s.switch f).reported ((orderStarted f s).order f) } := by
  rw [orderStarted_order, ← derivePosition_eq_positionOf]
  simp [orderStarted, putOrder, refreshPosition]

theorem orderStarted_other {f g : Slot} (h : g ≠ f) (s : State) :
    (orderStarted f s).order g = s.order g ∧ (orderStarted f s).switch g = s.switch g := by
  simp [orderStarted, putOrder, refreshPosition, h.symm]

/-- Settles O13, by the arbiter's first choice. -/
theorem ordersStartFirst : Obligations.OrdersStartFirst := by
  intro s f quiet ring requested lowest
  refine ⟨startOrder f (portIdle s), ?_, ?_, rfl, quiet,
    orderStarted_order f s, orderStarted_switch f s, fun g h => orderStarted_other h s, rfl, rfl⟩
  · rw [exec_frameEnd quiet,
      chooseFrame_order (s := portIdle s) ring (requestedSlot_lowest _ f requested lowest)]
  · exact ⟨rfl, rfl, rfl, rfl, rfl, rfl, rfl, rfl, rfl⟩

/-- The queue's oldest notice of the highest priority is also its first of that kind: what `erase` removes. -/
theorem erase_highest {a b : List Notice} {n : Notice} (older : ∀ m ∈ a, m.body.priority < n.body.priority) :
    (a ++ n :: b).erase n = a ++ b := by
  rw [List.erase_append_right, List.erase_cons_head]
  exact fun h => Nat.lt_irrefl _ (older n h)

/-- Settles O14, by the arbiter's choices in turn. -/
theorem outPortServesInTurn : Obligations.OutPortServesInTurn := by
  intro s quiet noOrder
  have chosen : exec .frameEnd s = .next (chooseForward (portIdle s)) := by
    rw [exec_frameEnd quiet, chooseFrame_forward (s := portIdle s) fun ring => requestedSlot_none _ (noOrder ring)]
  refine ⟨fun b rest forward => ?_, fun forward away => ?_, fun r rest forward ring replies => ?_,
    fun a n b forward ring replies notices older younger => ?_, fun forward ring replies notices => ?_⟩
  all_goals rw [chosen]
  · rw [chooseForward, show (portIdle s).rpt.forward = b :: rest from forward]
    rfl
  · rw [chooseForward, show (portIdle s).rpt.forward = [] from forward]
    exact congrArg Host.Outcome.next (if_neg (mt (hasAddress_iff _).1 away))
  all_goals rw [chooseForward_own (s := portIdle s) forward ring, chooseOwn]
  · rw [show (portIdle s).rpt.replies = r :: rest from replies]
    rfl
  · have erased := erase_highest (b := b) older
    rw [← notices] at erased
    rw [show (portIdle s).rpt.replies = [] from replies,
      show (portIdle s).mgr.notices = a ++ n :: b from notices, noticeHead_highest a b n older younger]
    rw [← erased]
    rfl
  · rw [show (portIdle s).rpt.replies = [] from replies, show (portIdle s).mgr.notices = [] from notices]
    rfl

/-! ## The notice queue -/

theorem le_priority_of_lowest (l : List Notice) : ∀ x ∈ l, lowestPriority l ≤ x.body.priority := by
  induction l with
  | nil => simp
  | cons n l ih =>
    intro x h
    rw [lowestPriority]
    rcases List.mem_cons.1 h with rfl | h
    · exact Nat.min_le_left _ _
    · exact (Nat.min_le_right _ _).trans (ih x h)

/-- The lowest priority of a queue is that of a notice that no other stands below. -/
theorem lowestPriority_eq {l : List Notice} {y : Notice} (mem : y ∈ l)
    (least : ∀ x ∈ l, y.body.priority ≤ x.body.priority) : lowestPriority l = y.body.priority :=
  Nat.le_antisymm (le_priority_of_lowest l y mem) (le_lowestPriority _ l (priority_le y) least)

theorem dropYoungest_split {a b : List Notice} {y : Notice}
    (younger : ∀ x ∈ b, x.body.priority ≠ y.body.priority) :
    dropYoungest y.body.priority (a ++ y :: b) = a ++ b := by
  rw [dropYoungest, List.reverse_append, List.reverse_cons, List.append_assoc,
    List.eraseP_append_right _ (by simpa using younger), List.singleton_append,
    List.eraseP_cons_of_pos (by simp)]
  simp

theorem joinQueue_full {m : Mgr} (full : m.notices.length = 32) (n : Notice) : joinQueue m n =
    if lowestPriority m.notices < n.body.priority then
      { m with
        notices := dropYoungest (lowestPriority m.notices) m.notices ++ [n]
        dropped := min 65535 (m.dropped + 1) }
    else { m with dropped := min 65535 (m.dropped + 1) } := by
  rw [joinQueue, if_neg (by omega), countUp_eq_min]

theorem joinOrder_length (ns : List Notice) : (joinOrder ns).length = ns.length := by
  simp only [joinOrder, allSlots, List.length_append, List.map_cons, List.map_nil, List.flatten_cons,
    List.flatten_nil]
  induction ns with
  | nil => rfl
  | cons n ns ih =>
    obtain ⟨_ | f, _⟩ := n
    · simp_all; omega
    · fin_cases f <;> simp_all <;> omega

/-- RPT differs in its buffers and its OUT port alone when its address and its counts are the same. -/
theorem Rpt.eq_with_buffers {a b : Rpt} (address : b.ownAddress = a.ownAddress)
    (crc : b.crcErrors = a.crcErrors) (format : b.formatErrors = a.formatErrors)
    (overflows : b.overflows = a.overflows) (flag : b.overflowFlag = a.overflowFlag) :
    b = { a with forward := b.forward, replies := b.replies, out := b.out } := by
  cases b
  subst address crc format overflows flag
  rfl

/-- R188's order, in the words of the obligation. -/
theorem joinOrder_eq (ns : List Notice) : joinOrder ns = ns.filter (fun n => n.slot == none) ++
    (allSlots.map fun f => ns.filter fun n => n.slot == some f).flatten := by
  have bus (n : Notice) : n.slot.isNone = (n.slot == none) := by cases n.slot <;> rfl
  simp only [joinOrder, bus]

/-- Settles O15, by the work of the end of an event and the arrival of a notice at a full queue. -/
theorem eventsEndWithNotices : Obligations.EventsEndWithNotices := by
  refine ⟨fun s => ?_, fun m n full => ⟨fun a y b notices below least younger => ?_, fun least => ?_⟩⟩
  · have work := finish_work s
    refine ⟨⟨work.siu, work.phe, work.elu, work.gst, work.rcs, work.efs, work.mdu, work.due, work.pending⟩,
      work.raised, work.fifo, work.device, work.overflow, work.destination, ?_, fun b sending => ?_⟩
    · exact Rpt.eq_with_buffers work.ownAddress work.crcErrors work.formatErrors work.overflows work.overflowFlag
    · rw [finish_sending sending]
      refine ⟨rfl, rfl, (joinQueues_keep _ s.mgr).2.2.2.2, fun room => ?_⟩
      have joined : (flushNotices s).mgr = { s.mgr with notices := s.mgr.notices ++ joinOrder s.raised } :=
        joinQueue_foldl _ _ (by rwa [joinOrder_length])
      rw [joined, joinOrder_eq, ← List.append_assoc]
      exact ⟨rfl, rfl⟩
  · have lowest : lowestPriority m.notices = y.body.priority :=
      lowestPriority_eq (by simp [notices]) least
    rw [joinQueue_full full, if_pos (by omega), lowest, notices, dropYoungest_split younger]
  · have lowest := le_lowestPriority n.body.priority m.notices (priority_le n) least
    rw [joinQueue_full full, if_neg (by omega)]

end Sys2Proof.Machine
end

section
/-! PROOFS. The obligations on power-on (R191) and reset. -/

namespace Sys2Proof.Machine

/-- Settles O4, from what power-on gives each law. -/
theorem resetKeepsEveryLaw : Obligations.ResetKeepsEveryLaw :=
  ⟨powerOn_boundsKept _, powerOn_recordsCoherent _, powerOn_reasonsFollow _, powerOn_huntCoherent _,
    (serviceCoherent_iff _).mpr (powerOn_serviceLaw _), configuring_mapped rfl⟩

theorem powerOn_group (straps : RingAddr) (f : Slot) (g : GroupNo) :
    (State.powerOn straps).group f g = .powerOn := Vector.getElem_replicate _

theorem powerOn_curve (straps : RingAddr) (n : Fin 8) :
    (State.powerOn straps).gst.curves[n] = .powerOn := Vector.getElem_replicate _

theorem emptyWindow_slot (ch : Fin 4) (k : Fin 32) :
    Window.empty.channels[ch][k] = ⟨0, false, false, false⟩ := by
  simp [Window.empty, WindowSlot.empty]

/-- Settles O3, block by block. -/
theorem powerOnTakesPowerOnValues : Obligations.PowerOnTakesPowerOnValues := by
  intro straps s
  refine ⟨_, rfl, rfl, rfl, rfl, fun i => ⟨?_, ?_⟩, rfl, rfl, powerOn_stream straps, fun r => ?_,
    powerOn_element straps, fun f => congrArg _ (powerOn_trip straps f), fun n => ?_, powerOn_group straps,
    powerOn_feeder straps, fun f => ⟨powerOn_activeGroup straps f, powerOn_pendingGroup straps f⟩,
    powerOn_switch straps, powerOn_order straps, rfl, powerOn_seq straps,
    ⟨rfl, rfl, rfl, rfl, rfl, rfl, rfl, fun m => ?_⟩, rfl, rfl, rfl, rfl, rfl, rfl, rfl, rfl, rfl, rfl,
    fun d => ⟨?_, ?_, ?_, ?_⟩, rfl⟩
  · exact Vector.getElem_replicate _
  · exact Vector.getElem_replicate _
  · have empty := powerOn_pheStream straps r
    exact ⟨congrArg (·.window.stored) empty, congrArg (·.present) empty, congrArg (·.results) empty,
      fun ch k => (congrArg (·.window.channels[ch][k]) empty).trans (emptyWindow_slot ch k)⟩
  · have zero := powerOn_curve straps n
    exact ⟨congrArg (·.count) zero,
      fun i => (congrArg (·.points[i]) zero).trans (Vector.getElem_replicate _)⟩
  all_goals exact Vector.getElem_replicate _

end Sys2Proof.Machine
end

section
/-! PROOFS. What ORU answers to a request, as one equation per case of R90 to R93, and the obligations on the
requests and on the timers of the sequencers (R88 to R93, R111, R113). -/

namespace Sys2Proof.Machine

/-! ## A request, case by case -/

section
variable {k : OrderKind} {who : Origin} {f : Slot} {s : State}

/-- A request passes the checks of R90. -/
structure Passes (who : Origin) (f : Slot) (s : State) : Prop where
  notEarly : ¬ (who = .operator ∧ s.mgr.device = .configuring)
  unit : s.switchAddress f ≠ 0
  free : who = .operator → s.holds f .tag = false ∧ s.holds f .local = false

theorem askOrder_early (early : who = .operator ∧ s.mgr.device = .configuring) :
    askOrder k who f s = refuse .state k who f s := if_pos early

theorem askOrder_noSwitch (notEarly : ¬ (who = .operator ∧ s.mgr.device = .configuring))
    (unit : s.switchAddress f = 0) : askOrder k who f s = refuseNoSwitch k who f s := by
  rw [askOrder, if_neg notEarly, if_pos unit]

theorem askOrder_tagged (notEarly : ¬ (who = .operator ∧ s.mgr.device = .configuring))
    (unit : s.switchAddress f ≠ 0) (operator : who = .operator) (tag : s.holds f .tag = true) :
    askOrder k who f s = refuse .tag k who f s := by
  rw [askOrder, if_neg notEarly, if_neg unit, if_pos ⟨operator, tag⟩]

theorem askOrder_local (notEarly : ¬ (who = .operator ∧ s.mgr.device = .configuring))
    (unit : s.switchAddress f ≠ 0) (operator : who = .operator) (tag : s.holds f .tag = false)
    (loc : s.holds f .local = true) : askOrder k who f s = refuse .local k who f s := by
  rw [askOrder, if_neg notEarly, if_neg unit, if_neg (by simp [tag]), if_pos ⟨operator, loc⟩]

theorem askOrder_passes_eq (passes : Passes who f s) : askOrder k who f s = askRecord k who f s := by
  obtain ⟨notEarly, unit, free⟩ := passes
  rw [askOrder, if_neg notEarly, if_neg unit, if_neg, if_neg]
  · exact fun ⟨operator, loc⟩ => by simp [free operator] at loc
  · exact fun ⟨operator, tag⟩ => by simp [free operator] at tag

theorem withRequest_order : (withRequest k who f s).order f = requested k who (fresh s f) := by
  simp [withRequest]

/-- What a taken request answers and leaves (R91). -/
theorem take_eq : take k who f s = ⟨.taken (fresh s f),
    [⟨f, k, who, some (fresh s f), .empty, .taken⟩], withRequest k who f s⟩ := by
  unfold take
  dsimp only
  rw [enterRequested_eq, withRequest_order]

theorem askOrder_open_idle (passes : Passes who f s) (idle : (s.order f).state = .idle) :
    askOrder .open who f s = take .open who f s := by
  rw [askOrder_passes_eq passes]
  exact if_pos (by simp [OrderRecord.inFlight, idle])

theorem askOrder_open_superseding (passes : Passes who f s) (flight : (s.order f).state ≠ .idle)
    (kind : (s.order f).kind = .close) : askOrder .open who f s = ⟨.taken (fresh s f),
      [⟨f, .close, (s.order f).origin, some (s.order f).number, (s.order f).joined, .superseded⟩,
        ⟨f, .open, who, some (fresh s f), .empty, .taken⟩], withRequest .open who f s⟩ := by
  rw [askOrder_passes_eq passes, askRecord]
  dsimp only
  rw [if_neg (by simp [(inFlight_iff _).2 flight]), kind, take_eq]

theorem askOrder_open_merging (passes : Passes who f s) (flight : (s.order f).state ≠ .idle)
    (kind : (s.order f).kind = .open) : askOrder .open who f s = ⟨.merged (s.order f).number,
      [⟨f, .open, who, some (s.order f).number, joinOrigin (s.order f) who, .merged⟩],
      s.setOrder f { s.order f with joined := joinOrigin (s.order f) who }⟩ := by
  rw [askOrder_passes_eq passes, askRecord]
  dsimp only
  rw [if_neg (by simp [(inFlight_iff _).2 flight]), kind]

theorem askOrder_close_busy (passes : Passes who f s) (flight : (s.order f).state ≠ .idle) :
    askOrder .close who f s = refuse .busy .close who f s := by
  rw [askOrder_passes_eq passes]
  exact if_pos ((inFlight_iff _).2 flight)

theorem askOrder_close_fire (passes : Passes who f s) (idle : (s.order f).state = .idle)
    (automatic : who = .reclose ∨ who = .earth) (fire : s.holds f .fire = true) :
    askOrder .close who f s = refuse .fire .close who f s := by
  rw [askOrder_passes_eq passes, askRecord, if_neg (by simp [OrderRecord.inFlight, idle]), if_pos ⟨automatic, fire⟩]

theorem askOrder_close_idle (passes : Passes who f s) (idle : (s.order f).state = .idle)
    (free : who = .reclose ∨ who = .earth → s.holds f .fire = false) :
    askOrder .close who f s = take .close who f s := by
  rw [askOrder_passes_eq passes, askRecord, if_neg (by simp [OrderRecord.inFlight, idle]), if_neg]
  exact fun ⟨automatic, fire⟩ => by simp [free automatic] at fire

end

/-- A fresh number is not the last executed one (R88). -/
theorem fresh_ne_lastExecuted (s : State) (f : Slot) : fresh s f ≠ (s.switch f).lastExecuted := by
  unfold fresh numberAfter
  split
  · next h => rw [← h]; bv_omega
  · next h => exact h

/-- Settles O29, by the cases of a request. -/
theorem orderRequestsAreJudged : Obligations.OrderRequestsAreJudged := by
  intro k who f s
  dsimp only
  have passing (h : ¬ (who = .operator ∧ s.mgr.device = .configuring) ∧ s.switchAddress f ≠ 0 ∧
      (who = .operator → s.holds f .tag = false ∧ s.holds f .local = false)) : Passes who f s :=
    ⟨h.1, h.2.1, h.2.2⟩
  refine ⟨fun early => ?_, fun now unit => ?_, fun now unit operator tag => ?_,
    fun now unit operator tag loc => ?_, fun passes kind idle => ?_, fun passes kind flight old => ?_,
    fun passes kind flight old => ?_, fun passes kind flight => ?_,
    fun passes kind idle automatic fire => ?_, fun passes kind idle free => ?_, fresh_ne_lastExecuted s f⟩
  · rw [askOrder_early early]
    exact ⟨rfl, rfl⟩
  · rw [askOrder_noSwitch now unit]
    cases k <;> simp [refuseNoSwitch, refuse, raise, OriginSet.empty]
  · rw [askOrder_tagged now unit operator tag]
    exact ⟨rfl, rfl⟩
  · rw [askOrder_local now unit operator tag loc]
    exact ⟨rfl, rfl⟩
  all_goals subst kind
  · rw [askOrder_open_idle (passing passes) idle, take_eq]
    exact ⟨rfl, rfl⟩
  · rw [askOrder_open_superseding (passing passes) flight old]
    exact ⟨rfl, rfl, List.mem_cons_self⟩
  · rw [askOrder_open_merging (passing passes) flight old]
    exact ⟨rfl, rfl⟩
  · rw [askOrder_close_busy (passing passes) flight]
    exact ⟨rfl, rfl⟩
  · rw [askOrder_close_fire (passing passes) idle automatic fire]
    exact ⟨rfl, rfl⟩
  · rw [askOrder_close_idle (passing passes) idle free, take_eq]
    exact ⟨rfl, rfl⟩

/-! ## Answers -/

/-- A report that only tells an answer to a block other than MGR: RCS and EFS take none (R89, R116). -/
def OrderReport.SilentAnswer (p : OrderReport) : Prop :=
  (p.happened = .taken ∨ p.happened = .merged ∨ p.happened = .refused) ∧ p.origin ≠ .operator

theorem deliverAll_silent {ps : List OrderReport} (silent : ∀ p ∈ ps, p.SilentAnswer) (s : State) :
    deliverAll ps s = s := by
  unfold deliverAll
  induction ps with
  | nil => rfl
  | cons p ps ih =>
    obtain ⟨answer, origin⟩ := silent p List.mem_cons_self
    rw [List.foldl_cons, deliver_answer p s answer origin]
    exact ih fun x h => silent x (List.mem_cons_of_mem _ h)

/-- A request whose reports are silent answers is the request alone. -/
theorem ask_silent {k : OrderKind} {who : Origin} {f : Slot} {s : State} {a : Asked}
    (asked : askOrder k who f s = a) (silent : ∀ p ∈ a.reports, p.SilentAnswer) :
    ask k who f s = (a.answer, a.state) := by
  subst asked
  rw [ask]
  exact congrArg _ (deliverAll_silent silent _)

theorem refuse_silent {c : RefuseCause} {k : OrderKind} {who : Origin} {f : Slot} {s : State}
    (origin : who ≠ .operator) : ∀ p ∈ (refuse c k who f s).reports, p.SilentAnswer := by
  simpa [refuse, OrderReport.SilentAnswer] using origin

theorem take_silent {k : OrderKind} {who : Origin} {f : Slot} {s : State} (origin : who ≠ .operator) :
    ∀ p ∈ (take k who f s).reports, p.SilentAnswer := by
  simpa [take, OrderReport.SilentAnswer] using origin

/-! ## The timers of the sequencers -/

theorem seq_setSeq_eq (s : State) (f : Slot) (q : SeqRecord) : (s.setSeq f q).seq f = q := by simp

theorem withRequest_setSeq (k : OrderKind) (who : Origin) (f g : Slot) (q : SeqRecord) (s : State) :
    withRequest k who f (s.setSeq g q) = (withRequest k who f s).setSeq g q := rfl

/-- A RECLOSE or EARTH origin passes R90 wherever there is a switch unit. -/
theorem passes_automatic {who : Origin} {f : Slot} {s : State} (automatic : who ≠ .operator)
    (unit : s.switchAddress f ≠ 0) : Passes who f s :=
  ⟨fun h => automatic h.1, unit, fun h => absurd h automatic⟩

theorem askReclose_refused {c : RefuseCause} {f : Slot} {s t : State} (other : c ≠ .fire)
    (asked : ask .close .reclose f s = (.refused c, t)) : askReclose f s = enterLockout .order f t := by
  rw [askReclose, asked]
  cases c with
  | fire => exact absurd rfl other
  | _ => rfl

theorem askReclose_unable {f : Slot} {s : State} (live : (s.seq f).state ≠ .lockout)
    (unable : s.switchAddress f = 0 ∨ (s.order f).state ≠ .idle) :
    askReclose f s = withLockout .order f s := by
  have refused : ∃ c, c ≠ .fire ∧ ask .close .reclose f s = (.refused c, s) := by
    rcases eq_or_ne (s.switchAddress f) 0 with none | unit
    · exact ⟨.noSwitch, by decide,
        ask_silent (askOrder_noSwitch (k := .close) (by simp) none) (refuse_silent (by decide))⟩
    · exact ⟨.busy, by decide, ask_silent
        (askOrder_close_busy (passes_automatic (by decide) unit) (unable.resolve_left unit))
        (refuse_silent (by decide))⟩
  obtain ⟨c, other, asked⟩ := refused
  rw [askReclose_refused other asked, enterLockout_eq _ _ _ live]

theorem askReclose_taken {f : Slot} {s : State} (unit : s.switchAddress f ≠ 0)
    (idle : (s.order f).state = .idle) (free : s.holds f .fire = false) :
    askReclose f s = (withRequest .close .reclose f s).setSeq f
      { s.seq f with state := .closing, awaited := some (fresh s f) } := by
  have asked : ask .close .reclose f s = (.taken (fresh s f), withRequest .close .reclose f s) := by
    rw [ask_silent (askOrder_close_idle (passes_automatic (by decide) unit) idle fun _ => free)
      (take_silent (by decide)), take_eq]
  rw [askReclose, asked]
  rfl

section
variable {f : Slot} {s : State}

theorem deadExpired_blocked (dead : (s.seq f).state = .dead) (reason : (s.seq f).reasons.isEmpty = false) :
    deadExpired f s = withLockout .blocked f s := by
  rw [deadExpired]
  dsimp only
  rw [if_pos (by simpa using reason), enterLockout_eq _ _ _ (by simp [dead]), withLockout_setDead]

theorem deadExpired_shots (dead : (s.seq f).state = .dead) (none : (s.seq f).reasons.isEmpty = true)
    (shots : maxShots s f < (s.seq f).shot) : deadExpired f s = withLockout .shots f s := by
  rw [deadExpired]
  dsimp only
  rw [if_neg (by simp [none]), if_pos (by rwa [seq_setSeq_eq]), enterLockout_eq _ _ _ (by simp [dead]),
    withLockout_setDead]

theorem deadExpired_asks (none : (s.seq f).reasons.isEmpty = true) (shots : (s.seq f).shot ≤ maxShots s f) :
    deadExpired f s = askReclose f (s.setSeq f { s.seq f with dead := Option.none }) := by
  rw [deadExpired]
  dsimp only
  rw [if_neg (by simp [none]), if_neg]
  rw [seq_setSeq_eq]
  exact Nat.not_lt.mpr shots

end

/-- Settles O35, by the checks of R111 in order. -/
theorem deadTimerAsksClose : Obligations.DeadTimerAsksClose := by
  intro f s
  dsimp only
  have expiry (h : s.acting f = true ∧ (s.seq f).state = .dead ∧ (s.seq f).dead = some 0) :
      exec (.deadTimerExpiry f) s = .next (finish (deadExpired f s)) := if_pos h
  refine ⟨fun expired reason => ?_, fun expired none shots => ?_, fun expired none shots unable => ?_,
    fun expired none shots unit idle => ?_, fun waits => if_neg waits⟩
  all_goals rw [Effect, expiry expired]
  · rw [deadExpired_blocked expired.2.1 ((not_noReason_iff s f).1 reason)]
  · rw [deadExpired_shots expired.2.1 ((noReason_iff s f).1 none) shots]
  · rw [deadExpired_asks ((noReason_iff s f).1 none) shots, 
      askReclose_unable (by simp [expired.2.1]) (by simpa using unable), withLockout_setDead]
  · rw [deadExpired_asks ((noReason_iff s f).1 none) shots,
      askReclose_taken (by simpa using unit) (by simpa using idle) (by simpa [State.holds] using none .fire),
      withRequest_setSeq, setSeq_setSeq, seq_setSeq_eq]
    rfl

/-- Settles O36: the live set in READY is that of shot 0. -/
theorem reclaimTimerReturnsToReady : Obligations.ReclaimTimerReturnsToReady := by
  intro f s
  refine ⟨fun expired => ⟨if_pos expired, fun gr => ?_⟩, fun waits => if_neg waits⟩
  rw [seq_setSeq_eq]
  rfl

end Sys2Proof.Machine
end

section
/-! PROOFS. What the sequencer of a feeder does with a trip report and with the reports of ORU (R107 to R118). -/

namespace Sys2Proof.Machine

/-! ## Trip reports (R107, R108) -/

section
variable {i : Bool} {f : Slot} {s : State}

theorem tripReport_resting (rests : s.acting f = false) : tripReport i f s = s := by
  rw [tripReport, if_neg (by simp [rests])]

theorem tripReport_decides (acts : s.acting f = true)
    (state : (s.seq f).state = .ready ∨ (s.seq f).state = .reclaim ∨ (s.seq f).state = .closing) :
    tripReport i f s = decideTrip i f s := by
  rw [tripReport, if_pos acts]
  rcases state with state | state | state <;> simp only [state]

theorem tripReport_opening (acts : s.acting f = true) (state : (s.seq f).state = .opening) :
    tripReport i f s = if i = false ∧ (s.seq f).endCause = .none then
      s.setSeq f { s.seq f with endCause := .notInitiating } else s := by
  rw [tripReport, if_pos acts]
  simp only [state]

theorem tripReport_dead (acts : s.acting f = true) (state : (s.seq f).state = .dead) :
    tripReport i f s = withLockout (if i = true then .shots else .notInitiating) f s := by
  rw [tripReport, if_pos acts, ← enterLockout_eq _ _ _ (by simp [state])]
  simp only [state]

theorem tripReport_lockout (state : (s.seq f).state = .lockout) : tripReport i f s = s := by
  unfold tripReport
  split
  · simp only [state]
  · rfl

/-- A trip with no OPEN in flight ends the sequence (R107). -/
theorem decideTrip_noOrder (live : (s.seq f).state ≠ .lockout)
    (none : ¬ ((s.order f).state ≠ .idle ∧ (s.order f).kind = .open)) :
    decideTrip i f s = withLockout .order f s := by
  rw [decideTrip, if_neg (by rwa [inFlight_iff]), enterLockout_eq _ _ _ live]

/-- A trip with an OPEN in flight opens, with the end cause that R107 judges. -/
theorem decideTrip_opens (flight : (s.order f).state ≠ .idle ∧ (s.order f).kind = .open) {e : EndCause}
    (judged : judgeTrip i ((s.seq f).shot + 1) (maxShots s f) (s.seq f).reasons = e) :
    decideTrip i f s = s.setSeq f { s.seq f with
      state := .opening
      shot := if e = .none then (s.seq f).shot + 1 else (s.seq f).shot
      endCause := e, awaited := some (s.order f).number, reclaim := none } := by
  subst judged
  rw [decideTrip, if_pos (by rwa [inFlight_iff])]

end

/-- Settles O33, by the sequencer's state and then by the cases of R107. -/
theorem tripReportsAreJudged : Obligations.TripReportsAreJudged := by
  intro i f s
  refine ⟨tripReport_resting, fun acts state => ?_, tripReport_opening, tripReport_dead, tripReport_lockout⟩
  have live : (s.seq f).state ≠ .lockout := by
    rcases state with state | state | state <;> simp [state]
  rw [tripReport_decides acts state]
  refine ⟨decideTrip_noOrder live, fun flight quiet => ?_, fun flight marked shots => ?_,
    fun flight marked shots reason => ?_, fun flight marked shots none => ?_⟩
  · exact decideTrip_opens (e := .notInitiating) flight (by simp [judgeTrip, quiet])
  · exact decideTrip_opens (e := .shots) flight (by simp [judgeTrip, marked, shots])
  · exact decideTrip_opens (e := .blocked) flight
      (by simp [judgeTrip, marked, Nat.not_lt.2 shots, (not_noReason_iff s f).1 reason])
  · exact decideTrip_opens (e := .none) flight
      (by simp [judgeTrip, marked, Nat.not_lt.2 shots, (noReason_iff s f).1 none])

/-! ## Outcomes (R109, R112, R115, R116, R118) -/

theorem awaits_iff (q : SeqRecord) (p : OrderReport) :
    q.awaits p = true ↔ p.number.isSome = true ∧ p.number = q.awaited := by
  refine ⟨fun h => ?_, awaits_of_eq q p⟩
  unfold SeqRecord.awaits at h
  split at h
  · next a n ha hn => simp_all
  · simp at h

section
variable {p : OrderReport} {s : State}

theorem rcsReport_resting (rests : s.acting p.slot = false) : rcsReport p s = s := by
  rw [rcsReport, if_neg (by simp [rests])]

theorem rcsReport_confirmed (acts : s.acting p.slot = true) (happened : p.happened = .confirmed) :
    rcsReport p s = rcsConfirmed p s := by
  rw [rcsReport, if_pos acts, happened]

theorem rcsReport_failed (acts : s.acting p.slot = true) (happened : p.happened = .failed) :
    rcsReport p s = rcsFailed p s := by
  rw [rcsReport, if_pos acts, happened]

theorem rcsReport_withdrawn (acts : s.acting p.slot = true) (happened : p.happened = .withdrawn) :
    rcsReport p s = if (s.seq p.slot).state = .closing ∧ (s.seq p.slot).awaits p = true then
      enterLockout .blocked p.slot s else s := by
  rw [rcsReport, if_pos acts, happened]

theorem rcsReport_passed_over (happened : p.happened = .superseded ∨ p.happened = .refused) :
    rcsReport p s = s := by
  unfold rcsReport
  split
  · rcases happened with happened | happened <;> rw [happened]
  · rfl

theorem rcsReport_operator (acts : s.acting p.slot = true) (happened : p.happened = .taken ∨ p.happened = .merged)
    (origin : p.origin = .operator) : rcsReport p s = rcsOperator p s := by
  rw [rcsReport, if_pos acts]
  rcases happened with happened | happened <;> rw [happened] <;> exact if_pos origin

/-! ### The awaited OPEN (R109) -/

theorem rcsConfirmed_awaitedOpen (kind : p.kind = .open) (state : (s.seq p.slot).state = .opening)
    (awaited : (s.seq p.slot).awaits p = true) : rcsConfirmed p s = openConfirmed p.slot s := by
  rw [rcsConfirmed, kind, state]
  exact if_pos awaited

variable {f : Slot}

theorem openConfirmed_ended (live : (s.seq f).state ≠ .lockout) (ended : (s.seq f).endCause ≠ .none) :
    openConfirmed f s = withLockout (s.seq f).endCause.lockoutCause f s := by
  rw [openConfirmed, if_pos ended, enterLockout_eq _ _ _ live]

theorem openConfirmed_blocked (live : (s.seq f).state ≠ .lockout) (runs : (s.seq f).endCause = .none)
    (reason : (s.seq f).reasons.isEmpty = false) : openConfirmed f s = withLockout .blocked f s := by
  rw [openConfirmed, if_neg (by simp [runs]), if_pos reason, enterLockout_eq _ _ _ live]

theorem openConfirmed_shots (live : (s.seq f).state ≠ .lockout) (runs : (s.seq f).endCause = .none)
    (none : (s.seq f).reasons.isEmpty = true) (shots : maxShots s f < (s.seq f).shot) :
    openConfirmed f s = withLockout .shots f s := by
  rw [openConfirmed, if_neg (by simp [runs]), if_neg (by simp [none]), if_pos shots,
    enterLockout_eq _ _ _ live]

theorem openConfirmed_dead (runs : (s.seq f).endCause = .none)
    (none : (s.seq f).reasons.isEmpty = true) (shots : (s.seq f).shot ≤ maxShots s f) :
    openConfirmed f s = s.setSeq f { s.seq f with
      state := .dead, awaited := Option.none, dead := some (deadTicks s f (s.seq f).shot) } := by
  rw [openConfirmed, if_neg (by simp [runs]), if_neg (by simp [none]), if_neg (by omega)]

theorem maxShots_settings {gr : GroupRecord} (settings : s.settings f = some gr) : maxShots s f = gr.maxShots := by
  rw [maxShots, settings]

theorem deadTicks_settings {gr : GroupRecord} (settings : s.settings f = some gr) (k : Fin 4) :
    deadTicks s f (k.val + 1) = 10 * gr.shots[k].deadTime := by
  rw [deadTicks, settings]
  simp only [GroupRecord.shot]
  rw [dif_pos ⟨by omega, by omega⟩]
  rfl

end

/-! ### The other outcomes -/

section
variable {p : OrderReport} {s : State}

/-- A confirmed OPEN outside a sequence is unsolicited, but for an OPEN of a hunt (R115). -/
theorem rcsConfirmed_open (kind : p.kind = .open)
    (state : (s.seq p.slot).state = .ready ∨ (s.seq p.slot).state = .closing ∨
      (s.seq p.slot).state = .reclaim) :
    rcsConfirmed p s = if s.holds p.slot .hunt = true ∧ p.origin = .earth then s
      else withLockout .unsolicited p.slot s := by
  have live : (s.seq p.slot).state ≠ .lockout := by
    rcases state with state | state | state <;> simp [state]
  rw [← enterLockout_eq _ _ _ live]
  rcases state with state | state | state <;> rw [rcsConfirmed, kind, state] <;> rfl

theorem rcsConfirmed_notAwaited (kind : p.kind = .open) (state : (s.seq p.slot).state = .opening)
    (other : ¬ (s.seq p.slot).awaits p = true) : rcsConfirmed p s = s := by
  rw [rcsConfirmed, kind, state]
  exact if_neg other

theorem rcsConfirmed_open_late (kind : p.kind = .open)
    (state : (s.seq p.slot).state = .dead ∨ (s.seq p.slot).state = .lockout) : rcsConfirmed p s = s := by
  unfold rcsConfirmed
  rcases state with state | state <;> simp only [kind, state]

/-- The awaited CLOSE (R112). -/
theorem rcsConfirmed_awaitedClose {n : OrderNo} (kind : p.kind = .close)
    (state : (s.seq p.slot).state = .closing) (number : p.number = some n)
    (awaited : (s.seq p.slot).awaits p = true) : rcsConfirmed p s = closeConfirmed n p.slot s := by
  unfold rcsConfirmed
  simp only [kind, state, number]
  exact if_pos awaited

theorem rcsConfirmed_close_notAwaited (kind : p.kind = .close) (state : (s.seq p.slot).state = .closing)
    (other : ¬ (s.seq p.slot).awaits p = true) : rcsConfirmed p s = s := by
  unfold rcsConfirmed
  simp only [kind, state]
  split
  · exact if_neg other
  · rfl

theorem rcsConfirmed_close_lockout (kind : p.kind = .close) (state : (s.seq p.slot).state = .lockout) :
    rcsConfirmed p s = if p.origin = .operator then leaveLockout p.slot s else s := by
  unfold rcsConfirmed
  simp only [kind, state]

theorem rcsConfirmed_close_other (kind : p.kind = .close) (closing : (s.seq p.slot).state ≠ .closing)
    (lockout : (s.seq p.slot).state ≠ .lockout) : rcsConfirmed p s = s := by
  unfold rcsConfirmed
  cases state : (s.seq p.slot).state with
  | closing => exact absurd state closing
  | lockout => exact absurd state lockout
  | _ => simp only [kind, state]

/-- A failed order ends the sequence that it belongs to (R109, R112). -/
def FailureEnds (p : OrderReport) (q : SeqRecord) : Prop :=
  q.awaits p = true ∧ (p.kind = .open ∧ q.state = .opening ∨ p.kind = .close ∧ q.state = .closing) ∨
    p.number.isSome = true ∧ p.kind = .open ∧ q.state = .closing

theorem rcsFailed_ends (ends : FailureEnds p (s.seq p.slot)) : rcsFailed p s = withLockout .order p.slot s := by
  unfold rcsFailed
  rcases ends with ⟨awaited, ⟨kind, state⟩ | ⟨kind, state⟩⟩ | ⟨number, kind, state⟩ <;>
    rw [← enterLockout_eq _ _ _ (by simp [state])] <;> simp only [kind, state]
  · exact if_pos awaited
  · exact if_pos awaited
  · exact if_pos number

theorem rcsFailed_other (other : ¬ FailureEnds p (s.seq p.slot)) : rcsFailed p s = s := by
  unfold rcsFailed
  dsimp only
  split
  · next kind state => exact if_neg fun awaited => other (.inl ⟨awaited, .inl ⟨kind, state⟩⟩)
  · next kind state => exact if_neg fun awaited => other (.inl ⟨awaited, .inr ⟨kind, state⟩⟩)
  · next kind state => exact if_neg fun number => other (.inr ⟨number, kind, state⟩)
  · rfl

/-- A taken or merged OPEN of the operator, and a CLOSE of his in the dead time, end the sequence (R116). -/
theorem rcsOperator_ends (live : (s.seq p.slot).state ≠ .lockout)
    (ends : p.kind = .open ∨ p.kind = .close ∧ (s.seq p.slot).state = .dead) :
    rcsOperator p s = withLockout .operator p.slot s := by
  rw [rcsOperator, ← enterLockout_eq _ _ _ live]
  rcases ends with kind | ⟨kind, state⟩
  · rw [kind]
  · rw [kind]
    exact if_pos state

theorem rcsOperator_other (other : (s.seq p.slot).state = .lockout ∨ p.kind = .close ∧ (s.seq p.slot).state ≠ .dead) :
    rcsOperator p s = s := by
  unfold rcsOperator
  split
  · next kind => exact if_pos (other.resolve_right fun h => by simp [kind] at h)
  · next kind => exact if_neg fun dead => other.elim (fun h => by simp [dead] at h) fun h => h.2 dead

end

/-! ### Position reports (R115, R118) -/

section
variable {s : State} {f : Slot}

theorem rcsPosition_resting (rests : s.acting f = false) (r : PositionReport) : rcsPosition r f s = s := by
  unfold rcsPosition
  exact if_neg (by simp [rests])

theorem rcsPosition_hunt (hunt : s.holds f .hunt = true) (r : PositionReport) : rcsPosition r f s = s := by
  unfold rcsPosition
  exact if_neg (by simp [hunt])

theorem leaveLockout_eq : leaveLockout f s =
    if s.holds f .hunt = false ∧ s.holds f .earth = false ∧ s.holds f .switch = false then
      s.setSeq f { s.seq f with state := .ready, shot := 0, lockoutCause := .none }
    else s := rfl

theorem rcsPosition_unsolicitedOpen (acts : s.acting f = true) (free : s.holds f .hunt = false) :
    rcsPosition .unsolicitedOpen f s = enterLockout .unsolicited f s := by
  unfold rcsPosition
  exact if_pos ⟨acts, free⟩

theorem rcsPosition_unsolicitedClose (acts : s.acting f = true) (free : s.holds f .hunt = false) :
    rcsPosition .unsolicitedClose f s =
      match (s.seq f).state with
      | .dead => enterLockout .unsolicited f s
      | .lockout => leaveLockout f s
      | _ => s := by
  unfold rcsPosition
  rw [if_pos ⟨acts, free⟩]
  cases (s.seq f).state <;> rfl

theorem rcsPosition_initial {r : PositionReport} (initial : r = .initialOpen ∨ r = .initialClosed) :
    rcsPosition r f s = s := by
  unfold rcsPosition
  rcases initial with rfl | rfl <;> exact ite_self _

end

/-- Settles O34, by what happened to the order, its kind, and the sequencer's state. -/
theorem outcomesMoveSequencers : Obligations.OutcomesMoveSequencers := by
  intro p s
  dsimp only
  have awaits : (p.number.isSome = true ∧ p.number = (s.seq p.slot).awaited) ↔
      (s.seq p.slot).awaits p = true := (awaits_iff _ p).symm
  have ends : (s.seq p.slot).state = .opening → (s.seq p.slot).state ≠ .lockout := by simp +contextual
  refine ⟨fun rests => ⟨rcsReport_resting rests, rcsPosition_resting rests⟩, fun acts => ?_⟩
  refine ⟨fun happened kind state awaited => ?_, fun happened kind => ?_,
    fun n gr g happened kind state number awaited active group => ?_, fun happened kind => ?_,
    fun happened => ?_, fun happened => ?_, rcsReport_passed_over, fun happened => ?_,
    rcsPosition_hunt, fun free => ?_⟩
  · rw [rcsReport_confirmed acts happened, rcsConfirmed_awaitedOpen kind state (awaits.1 awaited)]
    refine ⟨fun c cause => ?_, fun runs reason => ?_, fun runs none shots => ?_,
      fun gr k runs none settings shot most => ?_⟩
    · rw [openConfirmed_ended (ends state) (by rcases cause with h | h | h <;> simp [h])]
      rcases cause with ⟨rfl, cause⟩ | ⟨rfl, cause⟩ | ⟨rfl, cause⟩ <;> rw [cause] <;> rfl
    · exact openConfirmed_blocked (ends state) runs ((not_noReason_iff s _).1 reason)
    · exact openConfirmed_shots (ends state) runs ((noReason_iff s _).1 none) shots
    · have ticks := deadTicks_settings settings k
      rw [← shot] at ticks
      rw [openConfirmed_dead runs ((noReason_iff s _).1 none) (by rwa [maxShots_settings settings]), ticks]
  · rw [rcsReport_confirmed acts happened]
    refine ⟨fun free state => ?_, fun hunt earth other => ?_, fun state other => ?_, fun state => ?_⟩
    · rw [rcsConfirmed_open kind (by tauto), if_neg (by simp [free])]
    · cases state : (s.seq p.slot).state with
      | opening => exact rcsConfirmed_notAwaited kind state fun h => other ⟨state, awaits.2 h⟩
      | dead => exact rcsConfirmed_open_late kind (.inl state)
      | lockout => exact rcsConfirmed_open_late kind (.inr state)
      | ready => rw [rcsConfirmed_open kind (.inl state), if_pos ⟨hunt, earth⟩]
      | closing => rw [rcsConfirmed_open kind (.inr (.inl state)), if_pos ⟨hunt, earth⟩]
      | reclaim => rw [rcsConfirmed_open kind (.inr (.inr state)), if_pos ⟨hunt, earth⟩]
    · exact rcsConfirmed_notAwaited kind state fun h => other (awaits.2 h)
    · exact rcsConfirmed_open_late kind state
  · subst group
    have settings : s.settings p.slot = some (s.group p.slot g) := by rw [State.settings, active]; rfl
    rw [rcsReport_confirmed acts happened,
      rcsConfirmed_awaitedClose kind state number (awaits.1 (by simp [number, awaited]))]
    simp only [closeConfirmed, reclaimTicks, settings, active]
    rfl
  · rw [rcsReport_confirmed acts happened]
    refine ⟨fun origin state => ?_, fun origin state => ?_, fun state other => ?_, fun closing lockout => ?_⟩
    · rw [rcsConfirmed_close_lockout kind state, if_pos origin, leaveLockout_eq]
    · rw [rcsConfirmed_close_lockout kind state, if_neg origin]
    · exact rcsConfirmed_close_notAwaited kind state fun h => other (awaits.2 h)
    · exact rcsConfirmed_close_other kind closing lockout
  · rw [rcsReport_failed acts happened, awaits]
    exact ⟨rcsFailed_ends, rcsFailed_other⟩
  · rw [rcsReport_withdrawn acts happened, awaits]
    refine ⟨fun state awaited => ?_, fun other => if_neg other⟩
    rw [if_pos ⟨state, awaited⟩, enterLockout_eq _ _ _ (by simp [state])]
  · refine ⟨fun origin ends => ?_, fun other => ?_⟩
    · rw [rcsReport_operator acts happened origin]
      rcases ends with ⟨kind, live⟩ | ⟨_, kind, dead⟩
      · exact rcsOperator_ends live (.inl kind)
      · exact rcsOperator_ends (by simp [dead]) (.inr ⟨kind, dead⟩)
    · by_cases origin : p.origin = .operator
      · rw [rcsReport_operator acts happened origin]
        exact rcsOperator_other (other.resolve_left fun h => h origin)
      · exact rcsReport_answer p s (by tauto) origin
  · refine ⟨rcsPosition_initial (.inl rfl), rcsPosition_initial (.inr rfl), fun live => ?_, fun state => ?_,
      fun state => ?_, fun dead lockout => ?_, fun state reasons => ?_, fun state reasons => ?_⟩
    · rw [rcsPosition_unsolicitedOpen acts free, enterLockout_eq _ _ _ live]
    · rw [rcsPosition_unsolicitedOpen acts free]
      exact if_pos state
    all_goals rw [rcsPosition_unsolicitedClose acts free]
    · rw [← enterLockout_eq _ _ _ (by simp [state]), state]
    · cases state : (s.seq p.slot).state with
      | dead => exact absurd state dead
      | lockout => exact absurd state lockout
      | _ => rfl
    · rw [state]
      dsimp only
      rw [leaveLockout_eq, if_pos ⟨free, reasons⟩]
    · rw [state]
      dsimp only
      rw [leaveLockout_eq, if_neg fun h => by simp [h.2] at reasons]

end Sys2Proof.Machine
end

section
/-! SUPPORT. What the rules about one feeder leave of the others: ORU's and RCS's steps write one feeder's switch,
order and sequencer records and raise notices, and nothing else. -/

namespace Sys2Proof.Machine

/-- Only feeder `k`'s switch, order and sequencer records differ, and the notices raised have grown. -/
structure OwnFeeder (k : Slot) (s t : State) : Prop where
  outside : OutsideOrdersSame s t
  echoMissing : t.oru.echoMissing = s.oru.echoMissing
  others : ∀ g, g ≠ k → t.switch g = s.switch g ∧ t.order g = s.order g ∧ t.seq g = s.seq g
  efs : t.efs = s.efs
  raised : s.raised <+: t.raised

namespace OwnFeeder

variable {k : Slot} {s t u : State}

theorem only (h : OwnFeeder k s t) : OnlyFeeder k s t := ⟨h.outside, h.echoMissing, h.others⟩

theorem refl (k : Slot) (s : State) : OwnFeeder k s s :=
  ⟨⟨rfl, rfl, rfl, rfl, rfl, rfl, rfl, rfl, rfl⟩, rfl, fun _ _ => ⟨rfl, rfl, rfl⟩, rfl, List.prefix_rfl⟩

theorem trans (a : OwnFeeder k s t) (b : OwnFeeder k t u) : OwnFeeder k s u := by
  obtain ⟨a1, a2, a3, a4, a5, a6, a7, a8, a9⟩ := a.outside
  obtain ⟨b1, b2, b3, b4, b5, b6, b7, b8, b9⟩ := b.outside
  refine ⟨⟨b1.trans a1, b2.trans a2, b3.trans a3, b4.trans a4, b5.trans a5, b6.trans a6, b7.trans a7,
    b8.trans a8, b9.trans a9⟩, b.echoMissing.trans a.echoMissing, fun g h => ?_, b.efs.trans a.efs,
    a.raised.trans b.raised⟩
  obtain ⟨switch, order, seq⟩ := a.others g h
  obtain ⟨switch', order', seq'⟩ := b.others g h
  exact ⟨switch'.trans switch, order'.trans order, seq'.trans seq⟩

theorem ite {c : Prop} [Decidable c] (a : OwnFeeder k s t) (b : OwnFeeder k s u) :
    OwnFeeder k s (if c then t else u) := by
  split <;> assumption

theorem setSwitch (k : Slot) (x : SwitchRecord) (s : State) : OwnFeeder k s (s.setSwitch k x) :=
  ⟨⟨rfl, rfl, rfl, rfl, rfl, rfl, rfl, rfl, rfl⟩, rfl, fun _ h => ⟨by simp [h.symm], rfl, rfl⟩, rfl,
    List.prefix_rfl⟩

theorem setOrder (k : Slot) (x : OrderRecord) (s : State) : OwnFeeder k s (s.setOrder k x) :=
  ⟨⟨rfl, rfl, rfl, rfl, rfl, rfl, rfl, rfl, rfl⟩, rfl, fun _ h => ⟨rfl, by simp [h.symm], rfl⟩, rfl,
    List.prefix_rfl⟩

theorem setSeq (k : Slot) (x : SeqRecord) (s : State) : OwnFeeder k s (s.setSeq k x) :=
  ⟨⟨rfl, rfl, rfl, rfl, rfl, rfl, rfl, rfl, rfl⟩, rfl, fun _ h => ⟨rfl, rfl, by simp [h.symm]⟩, rfl,
    List.prefix_rfl⟩

theorem raise (k : Slot) (o : Option Slot) (n : Option SampleNo) (b : NoticeBody) (s : State) :
    OwnFeeder k s (Machine.raise o n b s) :=
  ⟨⟨rfl, rfl, rfl, rfl, rfl, rfl, rfl, rfl, rfl⟩, rfl, fun _ _ => ⟨rfl, rfl, rfl⟩, rfl,
    List.prefix_append _ _⟩

theorem acting (h : OwnFeeder k s t) (f : Slot) : t.acting f = s.acting f := by
  obtain ⟨-, -, -, -, gst, -, mgr, -⟩ := h.outside
  simp only [State.acting, State.feeder, gst, mgr]

end OwnFeeder

/-! ## RCS -/

theorem enterLockout_own (c : LockoutCause) (f : Slot) (s : State) : OwnFeeder f s (enterLockout c f s) := by
  unfold enterLockout
  exact .ite (.refl f s) ((OwnFeeder.setSeq f _ s).trans (.raise f _ _ _ _))

theorem addReason_own (r : Reason) (f : Slot) (s : State) : OwnFeeder f s (addReason r f s) := by
  unfold addReason
  exact .ite (.refl f s) (.ite ((OwnFeeder.setSeq f _ s).trans (enterLockout_own _ f _)) (.setSeq f _ s))

theorem removeReason_own (r : Reason) (f : Slot) (s : State) : OwnFeeder f s (removeReason r f s) :=
  .setSeq f _ s

theorem alignReason_own (r : Reason) (b : Bool) (f : Slot) (s : State) : OwnFeeder f s (alignReason r b f s) := by
  unfold alignReason
  exact .ite (addReason_own r f s) (removeReason_own r f s)

theorem demandLockout_own (f : Slot) (s : State) : OwnFeeder f s (demandLockout f s) := by
  unfold demandLockout
  exact .ite (enterLockout_own _ f s) (.refl f s)

theorem leaveLockout_own (f : Slot) (s : State) : OwnFeeder f s (leaveLockout f s) := by
  unfold leaveLockout
  exact .ite (.setSeq f _ s) (.refl f s)

theorem tripReport_own (i : Bool) (f : Slot) (s : State) : OwnFeeder f s (tripReport i f s) := by
  have decided : OwnFeeder f s (decideTrip i f s) := by
    unfold decideTrip
    exact .ite (.setSeq f _ s) (enterLockout_own _ f s)
  unfold tripReport
  split
  · dsimp only
    split
    · exact decided
    · exact decided
    · exact decided
    · exact .ite (.setSeq f _ s) (.refl f s)
    · exact enterLockout_own _ f s
    · exact .refl f s
  · exact .refl f s

theorem rcsConfirmed_own (p : OrderReport) (s : State) : OwnFeeder p.slot s (rcsConfirmed p s) := by
  have opened : OwnFeeder p.slot s (openConfirmed p.slot s) := by
    unfold openConfirmed
    exact .ite (enterLockout_own _ _ s)
      (.ite (enterLockout_own _ _ s) (.ite (enterLockout_own _ _ s) (.setSeq _ _ s)))
  have closed (n : OrderNo) : OwnFeeder p.slot s (closeConfirmed n p.slot s) := by
    unfold closeConfirmed
    exact (OwnFeeder.setSeq _ _ s).trans (.raise _ _ _ _ _)
  unfold rcsConfirmed
  dsimp only
  split
  · exact .ite opened (.refl _ s)
  · exact .ite (.refl _ s) (enterLockout_own _ _ s)
  · exact .ite (.refl _ s) (enterLockout_own _ _ s)
  · exact .ite (.refl _ s) (enterLockout_own _ _ s)
  · split
    · exact .ite (closed _) (.refl _ s)
    · exact .refl _ s
  · exact .ite (leaveLockout_own _ s) (.refl _ s)
  · exact .refl _ s

theorem rcsFailed_own (p : OrderReport) (s : State) : OwnFeeder p.slot s (rcsFailed p s) := by
  unfold rcsFailed
  dsimp only
  split
  · exact .ite (enterLockout_own _ _ s) (.refl _ s)
  · exact .ite (enterLockout_own _ _ s) (.refl _ s)
  · exact .ite (enterLockout_own _ _ s) (.refl _ s)
  · exact .refl _ s

theorem rcsReport_own (p : OrderReport) (s : State) : OwnFeeder p.slot s (rcsReport p s) := by
  have operated : OwnFeeder p.slot s (rcsOperator p s) := by
    unfold rcsOperator
    split
    · exact enterLockout_own _ _ s
    · exact .ite (enterLockout_own _ _ s) (.refl _ s)
  unfold rcsReport
  split
  · split
    · exact .ite operated (.refl _ s)
    · exact .ite operated (.refl _ s)
    · exact .refl _ s
    · exact .refl _ s
    · exact .ite (enterLockout_own _ _ s) (.refl _ s)
    · exact rcsConfirmed_own p s
    · exact rcsFailed_own p s
  · exact .refl _ s

theorem rcsPosition_own (p : PositionReport) (f : Slot) (s : State) : OwnFeeder f s (rcsPosition p f s) := by
  unfold rcsPosition
  split
  · split
    · exact enterLockout_own _ f s
    · exact enterLockout_own _ f s
    · exact leaveLockout_own f s
    · exact .refl f s
  · exact .refl f s

/-! ## ORU -/

theorem refreshPosition_own (f : Slot) (s : State) : OwnFeeder f s (refreshPosition f s) := .setSwitch f _ s

theorem putOrder_own (f : Slot) (o : OrderRecord) (s : State) : OwnFeeder f s (putOrder f o s) :=
  (OwnFeeder.setOrder f o s).trans (refreshPosition_own f _)

theorem setHealth_own (h : Health) (f : Slot) (s : State) : OwnFeeder f s (setHealth h f s) :=
  (OwnFeeder.setSwitch f _ s).trans (alignReason_own _ _ f _)

theorem countFailure_own (f : Slot) (s : State) : OwnFeeder f s (countFailure f s) := by
  unfold countFailure
  exact .ite ((OwnFeeder.setSwitch f _ s).trans (setHealth_own _ f _)) (.setSwitch f _ s)

theorem orderFailed_own (f : Slot) (s : State) : OwnFeeder f s (orderFailed f s) := by
  unfold orderFailed
  exact ((putOrder_own f _ s).trans (countFailure_own f _)).trans (.raise f _ _ _ _)

theorem stateSupervisionExpired_own (f : Slot) (s : State) : OwnFeeder f s (stateSupervisionExpired f s) := by
  unfold stateSupervisionExpired
  exact .ite ((OwnFeeder.setSwitch f _ s).trans (setHealth_own _ f _)) (.setSwitch f _ s)

theorem resetSwitch_own (f : Slot) (s : State) : OwnFeeder f s (resetSwitch f s) := by
  unfold resetSwitch
  exact .ite ((OwnFeeder.setSwitch f _ s).trans (setHealth_own _ f _)) (.setSwitch f _ s)

theorem takeStateReport_own (r : StateReport) (f : Slot) (s : State) : OwnFeeder f s (takeStateReport r f s) := by
  have copied : OwnFeeder f s (stateCopied r f s) := by
    have aligned (t : State) : OwnFeeder f t (alignReason .local r.loc f (alignReason .tag r.tag f t)) :=
      (alignReason_own _ _ f _).trans (alignReason_own _ _ f _)
    unfold stateCopied
    exact (OwnFeeder.ite ((OwnFeeder.setSwitch f _ s).trans (setHealth_own _ f _)) (.setSwitch f _ s)).trans
      (aligned _)
  have confirmed (t : State) : OwnFeeder f t (orderConfirmed f t) := by
    unfold orderConfirmed
    exact (putOrder_own f _ t).trans (.setSwitch f _ _)
  have settled (t : State) : OwnFeeder f t (settle r f t) := by
    unfold settle
    exact (OwnFeeder.setSwitch f _ t).trans (refreshPosition_own f _)
  unfold takeStateReport
  exact (copied.trans (.ite (confirmed _) (.refl f _))).trans (settled _)

theorem askOrder_own (k : OrderKind) (who : Origin) (f : Slot) (s : State) :
    OwnFeeder f s (askOrder k who f s).state := by
  have taken (k : OrderKind) : OwnFeeder f s (take k who f s).state := putOrder_own f _ s
  have recorded : OwnFeeder f s (askRecord k who f s).state := by
    unfold askRecord
    dsimp only
    split
    · split
      · exact taken .open
      · split
        · exact taken .open
        · exact .setOrder f _ s
    · split
      · exact .refl f s
      · split
        · exact .refl f s
        · exact taken .close
  unfold askOrder
  split
  · exact .refl f s
  · split
    · cases k
      · exact .raise f _ _ _ s
      · exact .refl f s
    · split
      · exact .refl f s
      · split
        · exact .refl f s
        · exact recorded

/-! ## What EFS takes of a report -/

/-- A report that EFS awaits in no step of an earth fault changes its record at most (R125). -/
theorem efsReport_awaitsNot {p : OrderReport} {s : State} (h : EfsAwaitsNot p.slot s) :
    ∃ e, efsReport p s = s.setEfs e := by
  have same : ∃ e, s = s.setEfs e := ⟨s.efs.record, rfl⟩
  unfold efsReport
  split
  · split
    · next state =>
      rw [if_neg fun ⟨slot, _⟩ => h.1 ⟨state, slot⟩]
      exact same
    · next state =>
      rw [if_neg fun ⟨slot, _⟩ => h.2 ⟨state, slot⟩]
      exact same
    · unfold busTripReport
      split
      · exact ⟨_, rfl⟩
      · exact same
    · exact same
  · exact same

/-- What such a report leaves when RCS and EFS have taken it. -/
theorem deliver_awaitsNot {p : OrderReport} {s : State} (h : EfsAwaitsNot p.slot s) :
    ∃ e, deliver p s = (rcsReport p s).setEfs e :=
  efsReport_awaitsNot (by rwa [EfsAwaitsNot, (rcsReport_own p s).efs])

theorem EfsAwaitsNot.of_efs {f : Slot} {s t : State} (h : EfsAwaitsNot f s) (efs : t.efs = s.efs) :
    EfsAwaitsNot f t := by rwa [EfsAwaitsNot, efs]

theorem OnlyFeeder.setEfs {k : Slot} {s t : State} (h : OwnFeeder k s t) (e : EfsRecord) :
    OnlyFeeder k s (t.setEfs e) := ⟨h.outside, h.echoMissing, h.others⟩

end Sys2Proof.Machine
end

section
/-! PROOFS. The obligations on STATE frames, on the expiry of a sent order, and on the health of a switch unit
(R80 to R86, R95 to R97). -/

namespace Sys2Proof.Machine

/-! ## Block reasons brought into line -/

/-- A sequencer's record when a reason is brought into line with its owner: an addition in DEAD locks out (R103,
R106). -/
def SeqRecord.aligned (acting : Bool) (r : Reason) (present : Bool) (q : SeqRecord) : SeqRecord :=
  if present = true ∧ q.reasons.has r = false ∧ acting = true ∧ q.state = .dead then
    lockedOut .blocked { q with reasons := q.reasons.put present r }
  else { q with reasons := q.reasons.put present r }

theorem put_has {x : ReasonSet} {r : Reason} (h : x.has r = true) : x.put true r = x := by
  cases r <;> simp_all [ReasonSet.has, ReasonSet.put] <;> simp [← h]

theorem alignReason_seq (r : Reason) (b : Bool) (f : Slot) (s : State) :
    (alignReason r b f s).seq f = (s.seq f).aligned (s.acting f) r b := by
  unfold alignReason SeqRecord.aligned
  cases b
  · simp [removeReason]
  · by_cases has : (s.seq f).reasons.has r = true
    · simp [addReason, has, put_has has]
    · by_cases dead : s.acting f = true ∧ (s.seq f).state = .dead
      · simp [addReason, has, dead, enterLockout]
      · rw [if_pos rfl, if_neg fun h => dead h.2.2]
        simp [addReason, has, dead]

theorem aligned_has (a : Bool) (r : Reason) (b : Bool) (q : SeqRecord) :
    (q.aligned a r b).reasons.has r = b := by
  have put : (q.reasons.put b r).has r = b := by cases r <;> rfl
  unfold SeqRecord.aligned
  split <;> exact put

/-- Outside the dead time the reasons alone change. -/
theorem aligned_live {q : SeqRecord} (live : q.state ≠ .dead) (a : Bool) (r : Reason) (b : Bool) :
    q.aligned a r b = { q with reasons := q.reasons.put b r } := if_neg fun h => live h.2.2.2

theorem setHealth_seq (h : Health) (f : Slot) (s : State) :
    (setHealth h f s).seq f = (s.seq f).aligned (s.acting f) .switch (h != .reachable) := by
  unfold setHealth alignSwitch
  rw [alignReason_seq, State.switch_setSwitch, if_pos rfl]
  rfl

/-! ## The expiry of a sent order (R96, R85) -/

section
variable (f : Slot) (s : State)

/-- The fail count after one more failure (R85). -/
def failCountAfter (s : State) (f : Slot) : Nat := min 8 ((s.switch f).failCount + 1)

theorem countFailure_failed (failed : (s.feeder f).failLimit ≤ failCountAfter s f) :
    countFailure f s = setHealth .failed f (s.setSwitch f { s.switch f with failCount := failCountAfter s f }) :=
  if_pos failed

theorem countFailure_counted (short : ¬ (s.feeder f).failLimit ≤ failCountAfter s f) :
    countFailure f s = s.setSwitch f { s.switch f with failCount := failCountAfter s f } :=
  if_neg short

theorem countFailure_switch : (countFailure f s).switch f = { s.switch f with
    failCount := failCountAfter s f
    health := if (s.feeder f).failLimit ≤ failCountAfter s f then .failed else (s.switch f).health } := by
  by_cases failed : (s.feeder f).failLimit ≤ failCountAfter s f
  · rw [countFailure_failed f s failed, setHealth_switch, if_pos failed]
    simp
  · rw [countFailure_counted f s failed, if_neg failed]
    simp

theorem countFailure_order : (countFailure f s).order f = s.order f := by
  by_cases failed : (s.feeder f).failLimit ≤ failCountAfter s f
  · rw [countFailure_failed f s failed, setHealth_order, State.order_setSwitch]
  · rw [countFailure_counted f s failed, State.order_setSwitch]

theorem countFailure_seq : (countFailure f s).seq f =
    if (s.feeder f).failLimit ≤ failCountAfter s f then (s.seq f).aligned (s.acting f) .switch true
    else s.seq f := by
  by_cases failed : (s.feeder f).failLimit ≤ failCountAfter s f
  · rw [countFailure_failed f s failed, setHealth_seq, if_pos failed]
    rfl
  · rw [countFailure_counted f s failed, if_neg failed, State.seq_setSwitch]

theorem putOrder_order (o : OrderRecord) : (putOrder f o s).order f = o := by
  simp [putOrder, refreshPosition]

theorem putOrder_switch (o : OrderRecord) : (putOrder f o s).switch f = { s.switch f with
    position := derivePosition (s.switch f).reported o } := by
  simp [putOrder, refreshPosition]

theorem putOrder_seq (o : OrderRecord) (g : Slot) : (putOrder f o s).seq g = s.seq g := rfl

theorem orderFailed_order : (orderFailed f s).order f = (s.order f).idled := by
  rw [orderFailed]
  exact (countFailure_order f _).trans (putOrder_order f s _)

theorem failCountAfter_putOrder (o : OrderRecord) : failCountAfter (putOrder f o s) f = failCountAfter s f := by
  rw [failCountAfter, putOrder_switch]
  rfl

theorem orderFailed_switch : (orderFailed f s).switch f = { s.switch f with
    position := derivePosition (s.switch f).reported (s.order f).idled
    failCount := failCountAfter s f
    health := if (s.feeder f).failLimit ≤ failCountAfter s f then .failed else (s.switch f).health } := by
  rw [orderFailed]
  refine (countFailure_switch f _).trans ?_
  rw [failCountAfter_putOrder, putOrder_switch]
  rfl

theorem orderFailed_seq : (orderFailed f s).seq f =
    if (s.feeder f).failLimit ≤ failCountAfter s f then (s.seq f).aligned (s.acting f) .switch true
    else s.seq f := by
  rw [orderFailed]
  refine (countFailure_seq f _).trans ?_
  rw [failCountAfter_putOrder, putOrder_seq]
  rfl

theorem orderFailed_notice : ⟨some f, s.tod, none, .orderFail (s.order f).kind (s.order f).origin
    (s.order f).joined (some (s.order f).number) ((orderFailed f s).switch f).failCount
    ((orderFailed f s).switch f).health⟩ ∈ (orderFailed f s).raised := by
  have tod : (countFailure f (putOrder f (s.order f).idled s)).tod = s.tod := by
    obtain ⟨-, -, -, -, -, mdu, -⟩ := ((putOrder_own f _ s).trans (countFailure_own f _)).outside
    unfold State.tod
    rw [mdu]
  rw [← tod, orderFailed]
  exact List.mem_append_right _ (List.mem_singleton_self _)

end

theorem orderFailed_holds (f : Slot) (s : State) : (orderFailed f s).holds f .switch =
    if (s.feeder f).failLimit ≤ failCountAfter s f then true else s.holds f .switch := by
  rw [State.holds, orderFailed_seq]
  split
  · exact aligned_has _ _ _ _
  · rfl

theorem refreshPosition_position (f : Slot) (s : State) : ((refreshPosition f s).switch f).position =
    positionOf ((refreshPosition f s).switch f).reported ((refreshPosition f s).order f) := by
  rw [← derivePosition_eq_positionOf]
  simp [refreshPosition]

/-- The report FAILED of the order in flight of feeder `f` (R96). -/
def failedReport (f : Slot) (s : State) : OrderReport := reportOf .failed f (s.order f)

theorem confirmExpired_eq (f : Slot) (s : State) :
    confirmExpired f s = refreshPosition f (deliver (failedReport f s) (orderFailed f s)) := rfl

/-- What RCS, EFS and the position's derivation leave of the state in which the order has failed. -/
theorem confirmExpired_efsWork (f : Slot) (s : State) : EfsWork (orderFailed f s) (confirmExpired f s) :=
  (deliver_work _ _).trans (refreshPosition_work f _)

theorem refreshPosition_holds (f g : Slot) (r : Reason) (s : State) :
    (refreshPosition f s).holds g r = s.holds g r := rfl

theorem confirmExpired_holds (f : Slot) (s : State) :
    (confirmExpired f s).holds f .switch = (orderFailed f s).holds f .switch := by
  rw [confirmExpired_eq, refreshPosition_holds]
  exact (deliver_kept (failedReport f s) (orderFailed f s)).reasons f .switch (by simp [earthReason])

theorem refreshPosition_order (f g : Slot) (s : State) : (refreshPosition f s).order g = s.order g := rfl

theorem refreshPosition_seq (f g : Slot) (s : State) : (refreshPosition f s).seq g = s.seq g := rfl

theorem refreshPosition_setEfs (f : Slot) (e : EfsRecord) (s : State) :
    refreshPosition f (s.setEfs e) = (refreshPosition f s).setEfs e := rfl

theorem confirmExpired_awaitsNot {f : Slot} {s : State} (h : EfsAwaitsNot f s) :
    ∃ e, confirmExpired f s = (refreshPosition f (rcsReport (failedReport f s) (orderFailed f s))).setEfs e := by
  obtain ⟨e, delivered⟩ := deliver_awaitsNot (p := failedReport f s) (h.of_efs (orderFailed_own f s).efs)
  exact ⟨e, by rw [confirmExpired_eq, delivered, refreshPosition_setEfs]⟩

/-- An awaited order that fails sends its sequencer to LOCKOUT, whatever the failure did to SWITCH. -/
theorem orderFailed_lockout {f : Slot} {s : State} (acts : s.acting f = true)
    (awaited : (s.seq f).awaited = some (s.order f).number)
    (ends : (s.seq f).state = .opening ∧ (s.order f).kind = .open ∨
      (s.seq f).state = .closing ∧ (s.order f).kind = .close) :
    ∃ x, (rcsReport (failedReport f s) (orderFailed f s)).seq f =
      lockedOut .order { s.seq f with reasons := x } := by
  have live : (s.seq f).state ≠ .dead := by rcases ends with ⟨h, -⟩ | ⟨h, -⟩ <;> simp [h]
  obtain ⟨x, seq⟩ : ∃ x, (orderFailed f s).seq f = { s.seq f with reasons := x } := by
    rw [orderFailed_seq, aligned_live live]
    split
    · exact ⟨_, rfl⟩
    · exact ⟨(s.seq f).reasons, rfl⟩
  have fails : FailureEnds (failedReport f s) ((orderFailed f s).seq f) := by
    refine .inl ⟨(awaits_iff _ _).2 ⟨rfl, ?_⟩, ?_⟩
    · rw [seq]
      exact awaited.symm
    · rw [seq]
      exact ends.imp And.symm And.symm
  refine ⟨x, ?_⟩
  rw [rcsReport_failed (((orderFailed_own f s).acting f).trans acts) rfl, rcsFailed_ends fails]
  change ((orderFailed f s).setSeq f (lockedOut .order ((orderFailed f s).seq f))).seq f = _
  rw [seq_setSeq_eq, seq]

theorem confirmExpired_position (f : Slot) (s : State) : ((confirmExpired f s).switch f).position =
    positionOf ((confirmExpired f s).switch f).reported ((confirmExpired f s).order f) := by
  rw [confirmExpired_eq]
  exact refreshPosition_position f _

/-- A failed order that EFS does not await leaves its record IDLE, and the other feeders alone. -/
theorem confirmExpired_own {f : Slot} {s : State} (h : EfsAwaitsNot f s) :
    (confirmExpired f s).order f = idle (s.order f) ∧ OnlyFeeder f s (confirmExpired f s) := by
  obtain ⟨e, expired⟩ := confirmExpired_awaitsNot h
  have own := (orderFailed_own f s).trans (rcsReport_own (failedReport f s) _)
  rw [expired]
  refine ⟨?_, OnlyFeeder.setEfs (own.trans (refreshPosition_own f _)) e⟩
  rw [State.order_setEfs, refreshPosition_order, (rcsReport_work _ _).order_eq, orderFailed_order]
  rfl

theorem confirmExpired_lockout {f : Slot} {s : State} (quiet : EfsAwaitsNot f s) (acts : s.acting f = true)
    (awaited : (s.seq f).awaited = some (s.order f).number)
    (ends : (s.seq f).state = .opening ∧ (s.order f).kind = .open ∨
      (s.seq f).state = .closing ∧ (s.order f).kind = .close) :
    ∃ x, (confirmExpired f s).seq f = lockedOut .order { s.seq f with reasons := x } := by
  obtain ⟨e, expired⟩ := confirmExpired_awaitsNot quiet
  rw [expired, State.seq_setEfs, refreshPosition_seq]
  exact orderFailed_lockout acts awaited ends

theorem exec_confirmExpired {f : Slot} {s : State} (sent : (s.order f).state = .sent)
    (timer : (s.order f).confirm = some 0) :
    exec (.confirmTimerExpiry f) s = .next (finish (confirmExpired f s)) := if_pos ⟨sent, timer⟩

/-- Settles O31, by what the failed order leaves and by what RCS and EFS take of its report. -/
theorem sentOrdersExpire : Obligations.SentOrdersExpire := by
  refine ⟨fun f s => ⟨fun sent timer => ?_, fun waits => if_neg waits⟩, fun f s =>
    ⟨fun sent watch => if_pos ⟨sent, watch⟩, fun waits => if_neg waits⟩⟩
  have run := exec_confirmExpired sent timer
  have work := confirmExpired_efsWork f s
  have position := confirmExpired_position f s
  have holds := (confirmExpired_holds f s).trans (orderFailed_holds f s)
  have own := confirmExpired_own (f := f) (s := s)
  have lockout := confirmExpired_lockout (f := f) (s := s)
  generalize confirmExpired f s = u at *
  have switch := work.switch f
  rw [orderFailed_switch] at switch
  have reported : (u.switch f).reported = (s.switch f).reported := by rw [switch]
  have health : (u.switch f).health = if (s.feeder f).failLimit ≤ failCountAfter s f then .failed
      else (s.switch f).health := by rw [switch]
  refine ⟨u, run, by rw [switch]; rfl, reported, reported ▸ position, fun failed => ⟨?_, ?_⟩,
    fun short => ⟨?_, ?_⟩, ?_, own, fun quiet acts awaited ends => ?_⟩
  · exact health.trans (if_pos failed)
  · exact holds.trans (if_pos failed)
  · exact health.trans (if_neg short)
  · exact holds.trans (if_neg short)
  · have notice := work.raised.subset (orderFailed_notice f s)
    rw [orderFailed_switch, ← health] at notice
    exact notice
  · obtain ⟨x, seq⟩ := lockout quiet acts awaited ends
    rw [seq]

end Sys2Proof.Machine
end

section
/-! PROOFS. How a request command runs, and the obligations on the requests that act on one switch unit or
sequencer (R183, R85, R105, R106, R119), with the supervision of a switch unit (R84). -/

namespace Sys2Proof.Machine

/-! ## Requests -/

section
variable {k n : Nat} {q : Request} {rest : List Request} {s : State}

/-- A request at the head of the FIFO is executed, answered, and the event ends (R183). -/
theorem runRequest_head (head : AtHead k n q rest s) (body : Request → State → Executed) :
    runRequest (· == k) body s = .next (finish (answered q (body q (begun rest s)).code
      (body q (begun rest s)).content (body q (begun rest s)).state)) := by
  obtain ⟨fifo, kind, -, room⟩ := head
  unfold runRequest
  simp only [fifo]
  exact if_pos ⟨by simpa [Request.kind] using kind, room⟩

theorem withForm_fits (fits : q.payload.length = 2 + n) (t : State) (body : State → Executed) :
    withForm n q t body = body t := if_pos (by simp [Request.params, fits])

theorem withSlot_slot {f : Slot} (slot : nat8At q.payload 2 = f.val) (t : State) (body : Slot → State → Executed) :
    withSlot q t body = body f t := by
  unfold withSlot
  rw [show slotOfByte (q.param 0) = some f from (slotOfByte_eq_some_iff _ f).2 slot]

/-- A request for one feeder, its form and slot judged. -/
theorem withForm_withSlot {f : Slot} (head : AtHead k n q rest s) (slot : nat8At q.payload 2 = f.val) (t : State)
    (body : Slot → State → Executed) :
    (withForm n q t fun t => withSlot q t body) = body f t := by
  rw [withForm_fits head.2.2.1, withSlot_slot slot]

end

/-! ## The supervision of a switch unit (R84, R86) -/

section
variable {f : Slot} {s : State}

/-- The switch record with its supervision timer stopped (R84). -/
def unsupervised (f : Slot) (s : State) : State := s.setSwitch f { s.switch f with supervision := none }

theorem stateSupervisionExpired_lost (h : (s.switch f).health = .reachable) :
    stateSupervisionExpired f s = setHealth .unreachable f (unsupervised f s) := if_pos h

theorem stateSupervisionExpired_stopped (h : (s.switch f).health ≠ .reachable) :
    stateSupervisionExpired f s = unsupervised f s := if_neg h

theorem stateSupervisionExpired_order : (stateSupervisionExpired f s).order f = s.order f := by
  by_cases h : (s.switch f).health = .reachable
  · rw [stateSupervisionExpired_lost h, setHealth_order]
    rfl
  · rw [stateSupervisionExpired_stopped h]
    rfl

/-- `s` with the fail count of feeder `f` reset (R85). -/
def failuresCleared (f : Slot) (s : State) : State := s.setSwitch f { s.switch f with failCount := 0 }

/-- The health that RESET SWITCH gives a failed unit (R85). -/
def resetHealth (w : SwitchRecord) : Health := if w.supervision.isSome then .reachable else .unreachable

theorem resetSwitch_failed (h : (s.switch f).health = .failed) :
    resetSwitch f s = setHealth (resetHealth (s.switch f)) f (failuresCleared f s) := if_pos h

theorem resetSwitch_healthy (h : (s.switch f).health ≠ .failed) : resetSwitch f s = failuresCleared f s := if_neg h

theorem resetHealth_eq (w : SwitchRecord) :
    resetHealth w = if w.supervision = none then .unreachable else .reachable := by
  unfold resetHealth
  cases w.supervision <;> rfl

theorem resetSwitch_switch : (resetSwitch f s).switch f = { s.switch f with
    failCount := 0
    health := if (s.switch f).health = .failed then
        if (s.switch f).supervision = none then .unreachable else .reachable
      else (s.switch f).health } := by
  by_cases h : (s.switch f).health = .failed
  · rw [resetSwitch_failed h, setHealth_switch, if_pos rfl, if_pos h, resetHealth_eq]
    simp [failuresCleared]
  · rw [resetSwitch_healthy h, if_neg h]
    simp [failuresCleared]

theorem resetSwitch_holds (h : (s.switch f).health = .failed) :
    (resetSwitch f s).holds f .switch = decide ((s.switch f).supervision = none) := by
  rw [resetSwitch_failed h, holds_setHealth, if_pos ⟨rfl, rfl⟩, resetHealth_eq]
  cases (s.switch f).supervision <;> rfl

theorem resetSwitch_order : (resetSwitch f s).order f = s.order f := by
  by_cases h : (s.switch f).health = .failed
  · rw [resetSwitch_failed h, setHealth_order]
    rfl
  · rw [resetSwitch_healthy h]
    rfl

theorem doResetSwitch_eq {q : Request} {rest : List Request} (head : AtHead 9 1 q rest s)
    (slot : nat8At q.payload 2 = f.val) (t : State) : doResetSwitch q t = ⟨.ok,
      u8 ((resetSwitch f t).switch f).health.code ++ u8 ((resetSwitch f t).switch f).failCount,
      resetSwitch f t⟩ := withForm_withSlot head slot t _

end

/-- Settles O32, by the health before the expiry or the request. -/
theorem switchHealthIsWatched : Obligations.SwitchHealthIsWatched := by
  refine ⟨fun f s => ⟨fun timer => ?_, fun waits => if_neg waits⟩, fun q rest f s head slot => ?_⟩
  · have own := stateSupervisionExpired_own f s
    refine ⟨stateSupervisionExpired f s, if_pos timer, fun h => ⟨?_, ?_⟩, stateSupervisionExpired_stopped,
      own.only, stateSupervisionExpired_order, own.efs⟩
    · rw [stateSupervisionExpired_lost h, setHealth_switch, if_pos rfl]
      simp [unsupervised]
    · rw [stateSupervisionExpired_lost h, holds_setHealth, if_pos ⟨rfl, rfl⟩]
      rfl
  · have own := resetSwitch_own f (begun rest s)
    have run := runRequest_head head doResetSwitch
    rw [doResetSwitch_eq head slot] at run
    have switch := resetSwitch_switch (f := f) (s := begun rest s)
    have holds := resetSwitch_holds (f := f) (s := begun rest s)
    have healthy := resetSwitch_healthy (f := f) (s := begun rest s)
    have order := resetSwitch_order (f := f) (s := begun rest s)
    generalize resetSwitch f (begun rest s) = v at *
    refine ⟨v, (v.switch f).health.code, ?_, rfl, switch, holds, fun h => ?_, own.only, order, own.efs⟩
    · have zero : (v.switch f).failCount = 0 := by rw [switch]
      rw [zero] at run
      exact run
    · rw [healthy h]
      rfl

/-! ## BLOCK, UNBLOCK and RESET LOCKOUT (R105, R106, R119) -/

section
variable {r : Reason} {f : Slot} {s : State}

theorem addReason_held (held : s.holds f r = true) : addReason r f s = s := if_pos held

theorem addReason_absent (absent : s.holds f r = false) (quiet : ¬ (s.acting f = true ∧ (s.seq f).state = .dead)) :
    addReason r f s = s.setSeq f { s.seq f with reasons := (s.seq f).reasons.put true r } := by
  rw [State.holds] at absent
  rw [addReason, if_neg (by simp [absent]), if_neg quiet]

theorem addReason_blocked (absent : s.holds f r = false) (acts : s.acting f = true)
    (dead : (s.seq f).state = .dead) : addReason r f s =
      withLockout .blocked f (s.setSeq f { s.seq f with reasons := (s.seq f).reasons.put true r }) := by
  rw [State.holds] at absent
  rw [addReason, if_neg (by simp [absent]), if_pos ⟨acts, dead⟩, enterLockout_eq _ _ _ (by simp [dead])]

/-- The feeder's reasons without EARTH, as RESET LOCKOUT leaves them (R119). -/
def withoutEarth (f : Slot) (s : State) : State :=
  s.setSeq f { s.seq f with reasons := { (s.seq f).reasons with earth := false } }

/-- RESET LOCKOUT takes a locked-out and closed feeder with no other reason to READY (R119). -/
def Resets (f : Slot) (s : State) : Prop :=
  (s.seq f).state = .lockout ∧ (s.switch f).position = .closed ∧ ∀ r : Reason, r ≠ .earth → s.holds f r = false

theorem withoutEarth_isEmpty : ((withoutEarth f s).seq f).reasons.isEmpty = true ↔
    ∀ r : Reason, r ≠ .earth → s.holds f r = false := by
  rw [← noReason_iff]
  refine ⟨fun h r other => ?_, fun h r => ?_⟩
  · have held := h r
    rw [withoutEarth, State.holds, seq_setSeq_eq] at held
    cases r with
    | earth => exact absurd rfl other
    | _ => exact held
  · rw [withoutEarth, State.holds, seq_setSeq_eq]
    have other := h r
    cases r with
    | earth => rfl
    | _ => exact other (by decide)

theorem resetLockout_resets (h : Resets f s) : resetLockout f s = (withoutEarth f s).setSeq f
    { (withoutEarth f s).seq f with state := .ready, shot := 0, lockoutCause := .none } := by
  obtain ⟨state, closed, reasons⟩ := h
  exact if_pos ⟨by simpa [removeReason] using state, closed, withoutEarth_isEmpty.2 reasons⟩

theorem resetLockout_stays (h : ¬ Resets f s) : resetLockout f s = withoutEarth f s :=
  if_neg fun ⟨state, closed, reasons⟩ =>
    h ⟨by simpa [removeReason] using state, closed, withoutEarth_isEmpty.1 reasons⟩

end

/-- Settles O37, by the reasons held and the sequencer's state. -/
theorem reasonRequestsActOnSequencers : Obligations.ReasonRequestsActOnSequencers := by
  refine ⟨fun q rest f s head slot => ?_, fun q rest f s head slot => ?_, fun q rest f s head slot => ?_⟩
  · have run := runRequest_head head doBlock
    rw [show doBlock q (begun rest s) = ⟨.ok, [], addReason .operator f (begun rest s)⟩ from
      withForm_withSlot head slot _ _] at run
    refine ⟨fun held => ?_, fun absent quiet => ?_, fun absent acts dead => ?_⟩
    · rw [addReason_held (s := begun rest s) held] at run
      exact run
    · rw [addReason_absent (s := begun rest s) absent quiet] at run
      exact run
    · rw [addReason_blocked (s := begun rest s) absent acts dead] at run
      exact run
  · have run := runRequest_head head doUnblock
    rw [show doUnblock q (begun rest s) = ⟨.ok, [], removeReason .operator f (begun rest s)⟩ from
      withForm_withSlot head slot _ _] at run
    exact run
  · have run := runRequest_head head doResetLockout
    rw [show doResetLockout q (begun rest s) = ⟨.ok, u8 ((resetLockout f (begun rest s)).seq f).state.code,
      resetLockout f (begun rest s)⟩ from withForm_withSlot head slot _ _] at run
    refine ⟨fun free => ?_, fun held => ?_⟩
    · rw [resetLockout_resets (s := begun rest s) free, seq_setSeq_eq] at run
      exact run
    · have state : ((withoutEarth f (begun rest s)).seq f).state = (s.seq f).state := by
        rw [withoutEarth, seq_setSeq_eq]
        rfl
      rw [resetLockout_stays (s := begun rest s) held, state] at run
      exact run

end Sys2Proof.Machine
end

section
/-! PROOFS. The obligation on STATE frames (R80 to R84, R95). -/

namespace Sys2Proof.Machine

/-! ## Reception -/

/-- A STATE frame goes to ORU and is forwarded (R172, R174). -/
theorem exec_state {f : RxFrame} {s : State} (arrives : Arrives 2 f s) : exec (.state f) s =
    .next (finish (forwarded f (takeStateFrame (sourceOf f) (payloadOf f) s))) := by
  obtain ⟨wellFormed, source, kind⟩ := arrives
  have state : FrameKind.ofByte (byteAt f.bytes 2) = some .state := by
    rw [frameKind_ofByte, show (byteAt f.bytes 2).toNat = 2 from kind]
    rfl
  have handled : handleFrame f.bytes s =
      forwardFrame f.bytes (takeStateFrame (sourceOf f) (payloadOf f) s) := by
    unfold handleFrame
    dsimp only
    rw [if_neg source, state]
    rfl
  rw [exec_received _ f s (by simp), receiveFrame_wellFormed f s wellFormed, handled, forwardFrame_eq]

/-! ## The report -/

section
variable (r : StateReport) (f : Slot) (s : State)

theorem takeStateReport_own_order : (takeStateReport r f s).order f = orderAfter r (s.order f) := by
  rw [takeStateReport_order, if_pos rfl]

theorem takeStateReport_own_switch :
    (takeStateReport r f s).switch f = (s.switch f).after r (s.order f) := by
  rw [takeStateReport_switch, if_pos rfl]

/-- The sequencer's record when SWITCH, TAG and LOCAL have been brought into line, in that order (R80, R83, R86). -/
def SeqRecord.reported (acting : Bool) (r : StateReport) (restored : Bool) (q : SeqRecord) : SeqRecord :=
  ((if restored then q.aligned acting .switch false else q).aligned acting .tag r.tag).aligned acting .local r.loc

theorem takeStateReport_seq : (takeStateReport r f s).seq f =
    (s.seq f).reported (s.acting f) r (decide ((s.switch f).health = .unreachable)) := by
  have seqs : (takeStateReport r f s).seq f = (stateCopied r f s).seq f := by
    unfold State.seq
    rw [takeStateReport_rcs]
  have acting (t : State) (b : Bool) : (alignReason .tag b f t).acting f = t.acting f :=
    (alignReason_own _ _ f t).acting f
  rw [seqs]
  unfold stateCopied SeqRecord.reported
  dsimp only
  rw [alignReason_seq, acting, alignReason_seq]
  by_cases lost : (s.switch f).health = .unreachable
  · rw [if_pos lost, (setHealth_own _ f _).acting, setHealth_seq]
    simp [lost]
  · rw [if_neg lost]
    simp [lost]

theorem confirms_iff (o : OrderRecord) : confirms o r = true ↔
    o.state = .sent ∧ r.executed = o.number ∧
      (o.kind = .open ∧ r.reported = .opened ∨ o.kind = .close ∧ r.reported = .closed) := by
  unfold confirms OrderKind.target
  cases kind : o.kind <;> simp [and_assoc]

/-- The report CONFIRMED of the order in flight of feeder `f` (R95). -/
def confirmedReport (f : Slot) (s : State) : OrderReport := reportOf .confirmed f (s.order f)

theorem takeState_confirmed (h : confirms (s.order f) r = true) :
    takeState r f s = deliver (confirmedReport f s) (takeStateReport r f s) := by
  unfold takeState stateOrderReport statePositionReport
  simp only [h, if_true]
  rfl

theorem takeState_unconfirmed (h : ¬ confirms (s.order f) r = true) :
    takeState r f s = match r.reported, (s.switch f).settled with
      | .opened, none => rcsPosition .initialOpen f (takeStateReport r f s)
      | .closed, none => rcsPosition .initialClosed f (takeStateReport r f s)
      | .opened, some .closed => rcsPosition .unsolicitedOpen f (takeStateReport r f s)
      | .closed, some .opened => rcsPosition .unsolicitedClose f (takeStateReport r f s)
      | _, _ => takeStateReport r f s := by
  unfold takeState stateOrderReport statePositionReport
  simp only [if_neg h]
  cases r.reported with
  | between => rfl
  | opened =>
    cases settled : (s.switch f).settled with
    | none => rfl
    | some x => cases x <;> rfl
  | closed =>
    cases settled : (s.switch f).settled with
    | none => rfl
    | some x => cases x <;> rfl

end

/-- In a report that confirms nothing RCS alone can take a part (R82). -/
theorem takeState_own {r : StateReport} {f : Slot} {s : State} (h : ¬ confirms (s.order f) r = true) :
    OwnFeeder f (takeStateReport r f s) (takeState r f s) ∧
      RcsWork (takeStateReport r f s) (takeState r f s) := by
  rw [takeState_unconfirmed r f s h]
  split
  · exact ⟨rcsPosition_own _ f _, rcsPosition_work _ f _⟩
  · exact ⟨rcsPosition_own _ f _, rcsPosition_work _ f _⟩
  · exact ⟨rcsPosition_own _ f _, rcsPosition_work _ f _⟩
  · exact ⟨rcsPosition_own _ f _, rcsPosition_work _ f _⟩
  · exact ⟨.refl f _, .refl _⟩

theorem takeState_efsWork (r : StateReport) (f : Slot) (s : State) :
    EfsWork (takeStateReport r f s) (takeState r f s) := by
  by_cases h : confirms (s.order f) r = true
  · rw [takeState_confirmed r f s h]
    exact deliver_work _ _
  · exact (takeState_own h).2.efsWork

theorem takeState_position (r : StateReport) (f : Slot) (s : State) : PositionDerived (takeState r f s) f := by
  refine (takeState_kept r f s).position f ?_
  unfold PositionDerived
  rw [takeStateReport_own_switch, takeStateReport_own_order]
  rfl

/-- The reasons of a feeder that a STATE frame leaves (R80, R83, R86). -/
def ReasonSet.reported (r : StateReport) (restored : Bool) (x : ReasonSet) : ReasonSet :=
  { x with tag := r.tag, loc := r.loc, switch := if restored = true then false else x.switch }

theorem aligned_removed (a : Bool) (r : Reason) (q : SeqRecord) :
    q.aligned a r false = { q with reasons := q.reasons.put false r } := if_neg (by simp)

theorem aligned_quiet {a : Bool} {q : SeqRecord} (quiet : ¬ (a = true ∧ q.state = .dead)) (r : Reason) (b : Bool) :
    q.aligned a r b = { q with reasons := q.reasons.put b r } := if_neg fun h => quiet h.2.2

/-- Nothing but the reasons changes where the reason is not added. -/
theorem aligned_notAdded {a b : Bool} {r : Reason} {q : SeqRecord}
    (same : ¬ (b = true ∧ q.reasons.has r = false)) :
    q.aligned a r b = { q with reasons := q.reasons.put b r } := if_neg fun h => same ⟨h.1, h.2.1⟩

theorem aligned_added {b : Bool} {r : Reason} {q : SeqRecord} (added : b = true ∧ q.reasons.has r = false)
    (dead : q.state = .dead) : q.aligned true r b = lockedOut .blocked { q with reasons := q.reasons.put b r } :=
  if_pos ⟨added.1, added.2, rfl, dead⟩

/-- TAG is brought into line before LOCAL: an addition of either in the dead time locks out (R106). -/
theorem aligned_tag_local (a tag loc : Bool) (q : SeqRecord) :
    (q.aligned a .tag tag).aligned a .local loc =
      if a = true ∧ q.state = .dead ∧
          (tag = true ∧ q.reasons.tag = false ∨ loc = true ∧ q.reasons.loc = false) then
        lockedOut .blocked { q with reasons := { q.reasons with tag := tag, loc := loc } }
      else { q with reasons := { q.reasons with tag := tag, loc := loc } } := by
  by_cases dead : a = true ∧ q.state = .dead
  · obtain ⟨rfl, dead⟩ := dead
    by_cases addsTag : tag = true ∧ q.reasons.has .tag = false
    · rw [aligned_added addsTag dead, aligned_quiet (by simp), if_pos ⟨rfl, dead, .inl addsTag⟩]
      rfl
    · rw [aligned_notAdded addsTag]
      by_cases addsLoc : loc = true ∧ q.reasons.has .local = false
      · rw [aligned_added (q := { q with reasons := q.reasons.put tag .tag }) (r := .local) addsLoc dead, if_pos ⟨rfl, dead, .inr addsLoc⟩]
        rfl
      · rw [aligned_notAdded (q := { q with reasons := q.reasons.put tag .tag }) (r := .local) addsLoc, if_neg fun h => h.2.2.elim addsTag addsLoc]
        rfl
  · rw [aligned_quiet dead, aligned_quiet (q := { q with reasons := q.reasons.put tag .tag }) dead,
      if_neg fun h => dead ⟨h.1, h.2.1⟩]
    rfl

theorem reported_eq (a : Bool) (r : StateReport) (restored : Bool) (q : SeqRecord) :
    q.reported a r restored =
      if a = true ∧ q.state = .dead ∧
          (r.tag = true ∧ q.reasons.tag = false ∨ r.loc = true ∧ q.reasons.loc = false) then
        lockedOut .blocked { q with reasons := q.reasons.reported r restored }
      else { q with reasons := q.reasons.reported r restored } := by
  have restoring : (if restored then q.aligned a .switch false else q) =
      { q with reasons := { q.reasons with switch := if restored = true then false else q.reasons.switch } } := by
    cases restored
    · rfl
    · exact aligned_removed a .switch q
  rw [SeqRecord.reported, restoring, aligned_tag_local]
  rfl

/-- A confirmation that EFS awaits in no step of an earth fault reaches RCS, and changes EFS's record at most. -/
theorem takeState_awaitsNot {r : StateReport} {f : Slot} {s : State} (h : confirms (s.order f) r = true)
    (waits : EfsAwaitsNot f s) :
    ∃ e, takeState r f s = (rcsReport (confirmedReport f s) (takeStateReport r f s)).setEfs e := by
  rw [takeState_confirmed r f s h]
  exact deliver_awaitsNot (p := confirmedReport f s) (waits.of_efs (takeStateReport_own r f s).efs)

/-- Settles O30: ORU's part of the report, and then what RCS and EFS take of it. -/
theorem stateFramesUpdateSwitches : Obligations.StateFramesUpdateSwitches := by
  refine ⟨fun f k p s ⟨arrives, route, report⟩ => ?_, fun f s arrives foreign => ?_⟩
  · have run := exec_state arrives
    rw [show takeStateFrame (sourceOf f) (payloadOf f) s = takeState p k s by
      rw [takeStateFrame, route, report]] at run
    have confirmed := confirms_iff p (s.order k)
    have own := takeStateReport_own p k s
    have switch := takeStateReport_own_switch p k s
    have order := takeStateReport_own_order p k s
    have seq := (takeStateReport_seq p k s).trans (reported_eq _ _ _ _)
    have reasons := (takeState_kept p k s).reasons k
    have held (q : Reason) := (holds_takeStateReport p k k q s).trans (holds_stateCopied p k k q s)
    have work := takeState_efsWork p k s
    have position := takeState_position p k s
    have other := takeState_own (r := p) (f := k) (s := s)
    have taken := takeState_confirmed p k s
    have untaken := takeState_unconfirmed p k s
    have quiet (h : confirms (s.order k) p = true) (waits : EfsAwaitsNot k s) :=
      takeState_awaitsNot h waits
    dsimp only
    rw [← confirmed]
    generalize takeState p k s = u at *
    generalize takeStateReport p k s = v at *
    have after := work.switch k
    rw [switch] at after
    have holds (q : Reason) (own : ¬ earthReason q) := (reasons q own).trans (held q)
    refine ⟨u, run, by rw [after]; rfl, by rw [after]; rfl, by rw [after]; rfl, by rw [after]; rfl,
      by rw [after]; rfl, fun now => ?_, fun now => ?_, fun now => ?_, ?_, fun lost => ⟨?_, ?_⟩, fun kept => ?_,
      ?_, ?_, fun c => ?_, fun c => ?_, fun c waits => ?_, ?_⟩
    · rw [after]
      simp [SwitchRecord.after, Reported.settled, now]
    · rw [after]
      simp [SwitchRecord.after, Reported.settled, now]
    · rw [after]
      simp [SwitchRecord.after, SwitchRecord.copied, Reported.settled, now]
    · rw [← derivePosition_eq_positionOf, show some p.reported = (u.switch k).reported by rw [after]; rfl]
      exact position
    · rw [after]
      simp [SwitchRecord.after, SwitchRecord.copied, lost]
    · exact (holds .switch (by simp [earthReason])).trans (by simp [lost])
    · rw [after]
      simp [SwitchRecord.after, SwitchRecord.copied, kept]
    · exact (holds .tag (by simp [earthReason])).trans (by simp)
    · exact (holds .local (by simp [earthReason])).trans (by simp)
    · rw [after]
      simp [SwitchRecord.after, c]
    · obtain ⟨rcs, rcsWork⟩ := other c
      refine ⟨?_, ?_, (own.trans rcs).only, (own.trans rcs).efs⟩
      · rw [after]
        simp [SwitchRecord.after, c]
      · rw [rcsWork.order_eq, order]
        exact if_neg c
    · obtain ⟨e, delivered⟩ := quiet c waits
      rw [delivered, State.order_setEfs, (rcsReport_work _ _).order_eq, order]
      exact ⟨if_pos c, OnlyFeeder.setEfs (own.trans (rcsReport_own (confirmedReport k s) v)) e⟩
    · refine ⟨v, own.only, own.efs, own.raised, fun c => ⟨order.trans (if_pos c), ?_⟩,
        fun c => ⟨order.trans (if_neg c), ?_⟩, ?_, ?_, fun c => ⟨taken c, fun waits => ?_⟩, untaken⟩
      · rw [switch]
        exact if_pos c
      · rw [switch]
        exact if_neg c
      · rw [switch, order, ← derivePosition_eq_positionOf]
        cases reported : p.reported <;> simp [SwitchRecord.after, SwitchRecord.copied, Reported.settled, reported]
      · rw [seq]
        simp [ReasonSet.reported, State.holds, ReasonSet.has]
      · obtain ⟨e, delivered⟩ := quiet c waits
        rw [delivered]
        rfl
  · have untaken : takeStateFrame (sourceOf f) (payloadOf f) s = s := by
      unfold takeStateFrame
      split
      · next k p route report =>
        rcases foreign with foreign | wrong
        · have routed := List.find?_some route
          exact absurd (by simpa using routed) (foreign k)
        · have none : Reported.ofByte (nat8At (payloadOf f) 0) = none := by
            unfold Reported.ofByte
            rw [if_neg (by omega), if_neg (by omega), if_neg (by omega)]
          simp [StateReport.ofPayload, none] at report
      · rfl
    rw [Effect, exec_state arrives, untaken]

end Sys2Proof.Machine
end

section
/-! PROOFS. The obligations on phasors (R23 to R26, R32) and on one evaluation of an element (R39 to R49). -/

namespace Sys2Proof.Machine

/-! ## Definite time (R39 to R43) -/

theorem pickupAfter_dropped {i t : Nat} (low : 20 * i < 19 * t) (b : Bool) : pickupAfter i t b = false := by
  rw [pickupAfter, if_neg (by omega), if_pos (by simpa [isDropped] using low)]

theorem pickupAfter_between {i t : Nat} (high : 19 * t ≤ 20 * i) (below : i < t) (b : Bool) :
    pickupAfter i t b = b := by
  rw [pickupAfter, if_neg (by omega), if_neg (by simpa [isDropped] using high)]

theorem pickupAfter_reached {i t : Nat} (above : t ≤ i) (b : Bool) : pickupAfter i t b = true := if_pos above

theorem pickupAfter_held {i t : Nat} (high : 19 * t ≤ 20 * i) : pickupAfter i t true = true := by
  rcases Nat.lt_or_ge i t with below | above
  · exact pickupAfter_between high below true
  · exact pickupAfter_reached above true

section
variable {c : DefiniteSetting} {i : Nat} {e : DefiniteState}

theorem evalDefinite_out (out : c.threshold ≠ 0 → pickupAfter i c.threshold e.pickup = false) :
    evalDefinite c i e = ⟨false, false, false, 0⟩ := by
  unfold evalDefinite
  split
  · rfl
  · next on => rw [if_neg (by simp [out on])]; rfl

theorem evalDefinite_in (on : c.threshold ≠ 0) (picks : pickupAfter i c.threshold e.pickup = true) :
    evalDefinite c i e = if e.pickup = false then e.counted c.delay 0
      else if e.operated then e else e.counted c.delay (e.count + 1) := by
  rw [evalDefinite, if_neg on, if_pos picks]

end

/-- Settles O24, by the pickup that the comparison leaves. -/
theorem definiteTimeElementsCount : Obligations.DefiniteTimeElementsCount := by
  intro c i e
  refine ⟨fun off => ?_, fun on low => ?_, fun on below high idle => ?_, fun on above idle => ?_,
    fun on high picked done => ?_, fun on high picked runs => ?_⟩
  · exact evalDefinite_out fun on => absurd off on
  · exact evalDefinite_out fun _ => pickupAfter_dropped low _
  · exact evalDefinite_out fun _ => by rw [pickupAfter_between high below, idle]
  · rw [evalDefinite_in on (pickupAfter_reached above _), if_pos idle]
    simp [DefiniteState.counted]
  · rw [evalDefinite_in on (picked ▸ pickupAfter_held high), if_neg (by simp [picked]), if_pos done]
  · rw [evalDefinite_in on (picked ▸ pickupAfter_held high), if_neg (by simp [picked]), if_neg (by simp [runs])]
    rfl

/-! ## Inverse time (R39, R45 to R49) -/

section
variable {cs : Vector Curve 8} {c : InverseSetting} {x : Bool} {i : Nat} {e : InverseState}

theorem evalInverse_off (off : c.pickup = 0) : evalInverse cs c x i e = ⟨false, false, false, 0⟩ := if_pos off

theorem evalInverse_dropped (on : c.pickup ≠ 0) (low : 20 * i < 19 * c.pickup) :
    evalInverse cs c x i e = ⟨false, false, false, resetAcc c e.acc⟩ := by
  rw [evalInverse, if_neg on, if_pos (by simpa [isDropped] using low)]

theorem evalInverse_restrained (on : c.pickup ≠ 0) (high : 19 * c.pickup ≤ 20 * i) :
    evalInverse cs c true i e = e := by
  rw [evalInverse, if_neg on, if_neg (by simpa [isDropped] using high), if_pos rfl]

/-- The multiple of pickup reaches 1 where the quantity reaches the pickup (R45, R48). -/
theorem le_multiple_iff (on : c.pickup ≠ 0) : 16 ≤ multiple i c.pickup ↔ c.pickup ≤ i := by
  rw [multiple, le_min_iff, Nat.le_div_iff_mul_le (Nat.pos_of_ne_zero on)]
  omega

theorem evalInverse_below (on : c.pickup ≠ 0) (high : 19 * c.pickup ≤ 20 * i) (below : i < c.pickup) :
    evalInverse cs c false i e = if e.pickup then e else { e with acc := resetAcc c e.acc } := by
  rw [evalInverse, if_neg on, if_neg (by simpa [isDropped] using high), if_neg (by simp),
    if_neg (by rw [le_multiple_iff on]; omega)]

theorem evalInverse_runs (on : c.pickup ≠ 0) (above : c.pickup ≤ i) : evalInverse cs c false i e =
    { e with
      pickup := true
      acc := min accLimit (e.acc + elementRate cs c i)
      operated := e.operated || decide (min accLimit (e.acc + elementRate cs c i) = accLimit) } := by
  rw [evalInverse, if_neg on, if_neg (by simp [isDropped]; omega), if_neg (by simp),
    if_pos ((le_multiple_iff on).2 above)]

theorem elementRate_curve {n : Fin 8} (curve : c.curve = n.val) : elementRate cs c i =
    min 1048576 (max 1 (rateAt (min 640 (16 * i / c.pickup)) cs[n].used * 32 / c.dial)) := by
  have named : curveAt cs c.curve = some cs[n] := by
    rw [curveAt, dif_pos (by omega)]
    simp only [curve]
    rfl
  rw [elementRate, named]
  rfl

end

/-! ### The rate between two points (R46) -/

/-- A point and a later one of a valid curve (R63). -/
def Rises (a b : CurvePoint) : Prop := a.m < b.m ∧ a.rate ≤ b.rate

theorem pointsValid_rising {l : List CurvePoint} (h : pointsValid l = true) : l.Pairwise Rises := by
  have trans : Trans Rises Rises Rises := ⟨fun h k => ⟨h.1.trans k.1, h.2.trans k.2⟩⟩
  rw [← List.isChain_iff_pairwise]
  induction l with
  | nil => exact .nil
  | cons p l ih =>
    cases l with
    | nil => exact .singleton p
    | cons q l =>
      simp only [pointsValid, Bool.and_eq_true, decide_eq_true_eq] at h
      rw [List.isChain_cons_cons]
      exact ⟨h.1.2, ih h.2⟩

/-- The points below a multiple have no part in its rate. -/
theorem rateAt_append {a b : List CurvePoint} {p : CurvePoint} {m : Nat}
    (rising : (a ++ p :: b).Pairwise Rises) (above : p.m ≤ m) :
    rateAt m (a ++ p :: b) = rateAt m (p :: b) := by
  induction a with
  | nil => rfl
  | cons x a ih =>
    rw [List.cons_append, List.pairwise_cons] at rising
    obtain ⟨first, rising⟩ := rising
    rw [← ih rising, List.cons_append]
    have low : x.m < p.m := (first p (by simp)).1
    cases a with
    | nil =>
      rw [List.nil_append, rateAt, if_neg (by omega), if_neg (by omega)]
    | cons y a =>
      have next : y.m ≤ p.m := by
        rw [List.cons_append, List.pairwise_cons] at rising
        exact (rising.1 p (by simp)).1.le
      have step : x.m < y.m := (first y (by simp)).1
      rw [List.cons_append, rateAt, if_neg (by omega), if_neg (by omega)]

theorem rateAt_first {p : CurvePoint} {m : Nat} (below : m ≤ p.m) (b : List CurvePoint) :
    rateAt m (p :: b) = p.rate := by
  cases b with
  | nil => rfl
  | cons q b => rw [rateAt, if_pos below]

theorem rateAt_between {p q : CurvePoint} {m : Nat} {b : List CurvePoint} (rises : Rises p q)
    (above : p.m ≤ m) (below : m ≤ q.m) :
    rateAt m (p :: q :: b) = p.rate + (m - p.m) * (q.rate - p.rate) / (q.m - p.m) := by
  obtain ⟨step, rate⟩ := rises
  rw [rateAt]
  rcases Nat.eq_or_lt_of_le above with same | above
  · rw [if_pos same.ge, same]
    simp
  · rw [if_neg (by omega)]
    rcases Nat.eq_or_lt_of_le below with same | below
    · rw [if_neg (by omega), rateAt_first same.le, same, Nat.mul_div_cancel_left _ (by omega)]
      omega
    · rw [if_pos below]

/-- Settles O25, by the comparisons of R48 in order and the points of the curve. -/
theorem inverseTimeElementsIntegrate : Obligations.InverseTimeElementsIntegrate := by
  refine ⟨fun cs c x i e => ⟨evalInverse_off, evalInverse_dropped, fun on high restrained => ?_,
    fun on high free below => ?_, fun on free above n curve => ?_⟩, fun k a b p q m valid used => ?_⟩
  · subst restrained
    exact evalInverse_restrained on high
  · subst free
    exact evalInverse_below on high below
  · subst free
    rw [evalInverse_runs on above, elementRate_curve curve]
    have reached (z : Nat) : decide (min accLimit z = accLimit) = decide (1048576 ≤ z) := by
      simp [accLimit]
    rw [reached]
    rfl
  · have rising := pointsValid_rising (l := k.used) (by
      simp only [Curve.valid, Bool.and_eq_true] at valid
      exact valid.2)
    rw [used] at rising ⊢
    have rises : Rises p q := by
      have tail := (List.pairwise_append.1 rising).2.1
      exact (List.pairwise_cons.1 tail).1 q (by simp)
    refine ⟨fun above below => ?_, fun first below => ?_, fun last above => ?_⟩
    · rw [rateAt_append rising above, rateAt_between rises above below]
    · rw [first, List.nil_append, rateAt_first below]
    · subst last
      rw [show a ++ [p, q] = (a ++ [p]) ++ [q] by simp] at rising ⊢
      rw [rateAt_append rising above, rateAt]

end Sys2Proof.Machine
end

section
/-! PROOFS. The obligation on phasors: the integer square root, the rounded sums, and W (R23 to R26, R32). -/

namespace Sys2Proof.Machine

/-! ## The integer square root (R25) -/

/-- One bit of the square root: `r` with bit `b`, if the square stays within `n`. -/
def tryBit (n r b : Nat) : Nat := if (r + b) * (r + b) ≤ n then r + b else r

theorem isqrt_eq (n : Nat) : isqrt n = ((List.range 16).reverse.map (2 ^ ·)).foldl (tryBit n) 0 := by
  have bits : sqrtBits = (List.range 16).reverse.map (2 ^ ·) := by decide
  rw [isqrt, bits]
  rfl

/-- A root known up to 2^k is known up to 1 when the k lower bits have been tried. -/
theorem foldl_tryBit {n : Nat} (k r : Nat) (low : r * r ≤ n) (high : n < (r + 2 ^ k) * (r + 2 ^ k)) :
    let x := ((List.range k).reverse.map (2 ^ ·)).foldl (tryBit n) r
    x * x ≤ n ∧ n < (x + 1) * (x + 1) := by
  induction k generalizing r with
  | zero => simpa using ⟨low, high⟩
  | succ k ih =>
    rw [List.range_succ, List.reverse_append, List.reverse_singleton, List.singleton_append, List.map_cons,
      List.foldl_cons, tryBit]
    by_cases bit : (r + 2 ^ k) * (r + 2 ^ k) ≤ n
    · rw [if_pos bit]
      refine ih _ bit ?_
      rwa [Nat.add_assoc, ← Nat.two_mul, ← Nat.pow_succ']
    · rw [if_neg bit]
      exact ih _ low (Nat.lt_of_not_le bit)

theorem isqrt_spec {n : Nat} (h : n < 2 ^ 32) : isqrt n * isqrt n ≤ n ∧ n < (isqrt n + 1) * (isqrt n + 1) := by
  rw [isqrt_eq]
  exact foldl_tryBit 16 0 (by omega) (by omega)

/-- A square of a component of at most 32767. -/
theorem sq_le_of_bounded {x : Int} (low : -32767 ≤ x) (high : x ≤ 32767) : x * x ≤ 32767 * 32767 := by
  nlinarith

/-- A product of two components of at most 32767. -/
theorem mul_bounded {x y : Int} (xLow : -32767 ≤ x) (xHigh : x ≤ 32767) (yLow : -32767 ≤ y) (yHigh : y ≤ 32767) :
    -(32767 * 32767) ≤ x * y ∧ x * y ≤ 32767 * 32767 := by
  constructor <;> nlinarith

theorem magnitude_spec {p : Phasor} (reLow : -32767 ≤ p.re) (reHigh : p.re ≤ 32767) (imLow : -32767 ≤ p.im)
    (imHigh : p.im ≤ 32767) : (p.magnitude : Int) * p.magnitude ≤ p.re * p.re + p.im * p.im ∧
      p.re * p.re + p.im * p.im < ((p.magnitude : Int) + 1) * (p.magnitude + 1) ∧ p.magnitude ≤ 46339 := by
  have re := sq_le_of_bounded reLow reHigh
  have im := sq_le_of_bounded imLow imHigh
  have positive := Int.add_nonneg (mul_self_nonneg p.re) (mul_self_nonneg p.im)
  obtain ⟨n, square⟩ := Int.eq_ofNat_of_zero_le positive
  have root : p.magnitude = isqrt n := by rw [Phasor.magnitude, square, Int.toNat_natCast]
  have small : n ≤ 2147352578 := by omega
  obtain ⟨low, high⟩ := isqrt_spec (n := n) (by omega)
  rw [root, square]
  refine ⟨by exact_mod_cast low, by exact_mod_cast high, ?_⟩
  by_contra big
  have : 46340 * 46340 ≤ isqrt n * isqrt n := Nat.mul_le_mul (by omega) (by omega)
  omega

/-! ## W (R32) -/

theorem residualPower_bounded {i v : Phasor} (iRe : -32767 ≤ i.re ∧ i.re ≤ 32767) (iIm : -32767 ≤ i.im ∧ i.im ≤ 32767)
    (vRe : -32767 ≤ v.re ∧ v.re ≤ 32767) (vIm : -32767 ≤ v.im ∧ v.im ≤ 32767) :
    -65533 ≤ (i.re * v.re + i.im * v.im) / 32768 ∧ (i.re * v.re + i.im * v.im) / 32768 ≤ 65532 := by
  have re := mul_bounded iRe.1 iRe.2 vRe.1 vRe.2
  have im := mul_bounded iIm.1 iIm.2 vIm.1 vIm.2
  generalize i.re * v.re = x at *
  generalize i.im * v.im = y at *
  omega

/-! ## The sums over the window (R23, R24) -/

theorem coeffSum_eq (c : Nat → Int) (w : Vector WindowSlot 32) :
    coeffSum c w = ((List.finRange 32).map fun k => (w[k].value.toInt * c k.val : Int)).sum := by
  rw [coeffSum]
  congr 1
  apply List.ext_getElem
  · simp
  · intro k _ _
    simp

theorem coeffSum_constant {w : Vector WindowSlot 32} {d : BitVec 16} (c : Nat → Int)
    (constant : ∀ k : Fin 32, w[k].value = d) :
    coeffSum c w = d.toInt * ((List.finRange 32).map fun k => c k.val).sum := by
  rw [coeffSum_eq, ← List.sum_map_mul_left]
  simp only [constant]

theorem cosAt_double (k : Nat) : cosAt (2 * k) = cosAt (2 * k % 32) := by
  rw [cosAt, cosAt, Nat.mod_mod]

theorem sinAt_double (k : Nat) : sinAt (2 * k) = sinAt (2 * k % 32) := by
  rw [sinAt, sinAt, Nat.mod_mod]

/-- The coefficients of a full cycle, and of two, cancel. -/
theorem coefficients_cancel : ((List.finRange 32).map fun k => cosAt k.val).sum = 0 ∧
    ((List.finRange 32).map fun k => sinAt k.val).sum = 0 ∧
    ((List.finRange 32).map fun k => cosAt (2 * k.val)).sum = 0 ∧
    ((List.finRange 32).map fun k => sinAt (2 * k.val)).sum = 0 := by
  decide

theorem fundamental_constant {w : Vector WindowSlot 32} {d : BitVec 16} (h : ∀ k : Fin 32, w[k].value = d) :
    fundamental w = ⟨0, 0⟩ := by
  obtain ⟨cos, sin, -, -⟩ := coefficients_cancel
  rw [fundamental, coeffSum_constant cosAt h, coeffSum_constant sinAt h, cos, sin, Int.mul_zero]
  rfl

theorem secondHarmonic_constant {w : Vector WindowSlot 32} {d : BitVec 16} (h : ∀ k : Fin 32, w[k].value = d) :
    secondHarmonic w = ⟨0, 0⟩ := by
  obtain ⟨-, -, cos, sin⟩ := coefficients_cancel
  rw [secondHarmonic, coeffSum_constant _ h, coeffSum_constant _ h, cos, sin, Int.mul_zero]
  rfl

theorem overranged_iff (w : Vector WindowSlot 32) : overranged w = true ↔ ∃ k : Fin 32, w[k].overrange = true := by
  rw [overranged, List.any_eq_true]
  constructor
  · rintro ⟨x, mem, flag⟩
    obtain ⟨k, bound, rfl⟩ := List.getElem_of_mem mem
    exact ⟨⟨k, by simpa using bound⟩, by simpa using flag⟩
  · rintro ⟨k, flag⟩
    exact ⟨w[k], by simp, flag⟩

/-- Settles O23: the square root, W, and then the sums, the constant input and the overrange. -/
theorem phasorsAreRoundedSums : Obligations.PhasorsAreRoundedSums := by
  refine ⟨fun p => magnitude_spec, fun a b => ⟨rfl, fun a1 a2 a3 a4 a5 a6 a7 a8 => ?_⟩, fun w => ⟨?_, ?_, fun d h =>
    ⟨fundamental_constant h, secondHarmonic_constant h⟩, fun flag => ?_, fun within => ?_⟩⟩
  · have bounds := residualPower_bounded ⟨a1, a2⟩ ⟨a3, a4⟩ ⟨a5, a6⟩ ⟨a7, a8⟩
    rw [residualPower]
    rw [clamp, min_eq_right (by omega), max_eq_right (by omega)]
    exact bounds
  · rw [fundamental, coeffSum_eq, coeffSum_eq]
    rfl
  · rw [secondHarmonic, coeffSum_eq, coeffSum_eq]
    simp only [cosAt_double, sinAt_double]
    rfl
  · rw [channelResult, (overranged_iff w).2 flag]
    rfl
  · have none : overranged w = false := by
      rw [← Bool.not_eq_true, overranged_iff]
      simpa using within
    rw [channelResult, none]
    rfl

end Sys2Proof.Machine
end

section
/-! PROOFS. What an evaluation of the district modes comes to, and the obligation on a district's mode (R152, R153,
R159, R164). -/

namespace Sys2Proof.Machine

/-! ## A district's mode (R159) -/

/-- The level `m` is declared for district `d` now (R153). -/
def Declared (s : State) (d : District) (m : Mode) : Prop :=
  ∃ x ∈ s.mdu.declarations, x.district = d ∧ x.level = m ∧ x.day = s.mdu.day ∧
    x.startMinute ≤ s.mdu.ms / 60000 ∧ s.mdu.ms / 60000 < x.endMinute

theorem mem_covering (s : State) (d : District) (x : Declaration) :
    x ∈ (s.mdu.declarations.filter fun x => x.district == d && x.covers s.mdu.day s.minute) ↔
      x ∈ s.mdu.declarations ∧ x.district = d ∧ x.day = s.mdu.day ∧ x.startMinute ≤ s.mdu.ms / 60000 ∧
        s.mdu.ms / 60000 < x.endMinute := by
  simp only [List.mem_filter, Bool.and_eq_true, beq_iff_eq, Declaration.covers, State.minute, and_assoc]
  exact ⟨fun ⟨mem, district, day, low, high⟩ => ⟨mem, district, day, of_decide_eq_true low, of_decide_eq_true high⟩,
    fun ⟨mem, district, day, low, high⟩ => ⟨mem, district, day, decide_eq_true low, decide_eq_true high⟩⟩

theorem declaredLevel_eq_ban_iff (s : State) (d : District) : declaredLevel s d = .ban ↔ Declared s d .ban := by
  rw [declaredLevel, foldl_worse_eq_ban_iff]
  simp only [mem_covering, Declared]
  refine ⟨fun h => ?_, fun ⟨x, mem, district, level, rest⟩ => .inr ⟨x, ⟨mem, district, rest⟩, level⟩⟩
  obtain ⟨x, ⟨mem, district, rest⟩, level⟩ := h.resolve_left (by simp)
  exact ⟨x, mem, district, level, rest⟩

theorem declaredLevel_eq_normal (s : State) (d : District) (noBan : ¬ Declared s d .ban)
    (noSeason : ¬ Declared s d .season) : declaredLevel s d = .normal := by
  rw [declaredLevel, foldl_worse_eq_normal_iff]
  refine ⟨rfl, fun x h => ?_⟩
  obtain ⟨mem, district, rest⟩ := (mem_covering s d x).1 h
  cases level : x.level with
  | normal => rfl
  | season => exact absurd ⟨x, mem, district, level, rest⟩ noSeason
  | ban => exact absurd ⟨x, mem, district, level, rest⟩ noBan

theorem declaredLevel_eq_season (s : State) (d : District) (noBan : ¬ Declared s d .ban)
    (season : Declared s d .season) : declaredLevel s d = .season := by
  refine Mode.eq_season_of_ne (mt (declaredLevel_eq_ban_iff s d).1 noBan) fun normal => ?_
  obtain ⟨x, mem, district, level, rest⟩ := season
  rw [declaredLevel, foldl_worse_eq_normal_iff] at normal
  have := normal.2 x ((mem_covering s d x).2 ⟨mem, district, rest⟩)
  rw [level] at this
  cases this

section
variable {s : State} {d : District}

theorem districtMode_overridden {o : Override} (h : s.mdu.overrides[d] = some o) :
    districtMode s d = (o.mode, .override) := by
  rw [districtMode, h]

theorem districtMode_unset (h : s.mdu.overrides[d] = none) (unset : s.mdu.running = false) :
    districtMode s d = (s.mdu.windows[d].unsetMode, .unsetClock) := by
  rw [districtMode, h]
  exact if_pos unset

theorem districtMode_running (h : s.mdu.overrides[d] = none) (runs : s.mdu.running = true) :
    districtMode s d = ((declaredLevel s d).worse (windowLevel s d),
      if (declaredLevel s d).worse (windowLevel s d) = .normal then .default
      else if declaredLevel s d = (declaredLevel s d).worse (windowLevel s d) then .declaration
      else .seasonWindow) := by
  rw [districtMode, h]
  exact if_neg (by simp [runs])

theorem windowLevel_in (h : s.mdu.windows[d].startDay.toNat ≤ s.mdu.day.toNat ∧
    s.mdu.day.toNat ≤ s.mdu.windows[d].endDay.toNat) : windowLevel s d = .season :=
  if_pos (by simpa [SeasonWindow.contains] using h)

theorem windowLevel_out (h : ¬ (s.mdu.windows[d].startDay.toNat ≤ s.mdu.day.toNat ∧
    s.mdu.day.toNat ≤ s.mdu.windows[d].endDay.toNat)) : windowLevel s d = .normal :=
  if_neg (by simpa [SeasonWindow.contains] using h)

theorem worse_season_window : Mode.season.worse (windowLevel s d) = .season := by
  unfold windowLevel
  split <;> rfl

end

/-- Settles O48, by the override, the clock, the declarations and the season window in turn. -/
theorem districtModeIsDecided : Obligations.DistrictModeIsDecided := by
  intro s d
  refine ⟨fun o => districtMode_overridden, fun free => ⟨districtMode_unset free, fun runs ban => ?_,
    fun runs noBan season => ?_, fun runs noBan noSeason within => ?_, fun runs noBan noSeason out => ?_⟩⟩ <;>
    rw [districtMode_running free runs]
  · rw [(declaredLevel_eq_ban_iff s d).2 ban]
    rfl
  · rw [declaredLevel_eq_season s d noBan season, worse_season_window]
    rfl
  · rw [declaredLevel_eq_normal s d noBan noSeason, windowLevel_in within]
    rfl
  · rw [declaredLevel_eq_normal s d noBan noSeason, windowLevel_out out]
    rfl

/-! ## The evaluation (R159, R164) -/

theorem applyGroup_keeps (w : GroupWay) (n : Option SampleNo) (g : GroupNo) (f : Slot) (s : State) :
    (applyGroup w n g f s).mdu = s.mdu ∧ (applyGroup w n g f s).efs = s.efs := by
  rw [applyGroup, (groupNotify_work f _).mdu, (groupNotify_work f _).efs]
  exact ⟨rfl, rfl⟩

theorem requestGroup_keeps (g : GroupNo) (f : Slot) (s : State) :
    (requestGroup g f s).mdu = s.mdu ∧ (requestGroup g f s).efs = s.efs := by
  unfold requestGroup
  split
  · exact ⟨rfl, rfl⟩
  · split
    · split <;> exact ⟨rfl, rfl⟩
    · split
      · exact ⟨rfl, rfl⟩
      · split
        · exact ⟨rfl, rfl⟩
        · exact applyGroup_keeps _ _ _ _ _

theorem askGroup_keeps (d : District) (m : Mode) (f : Slot) (s : State) :
    (askGroup d m f s).mdu = s.mdu ∧ (askGroup d m f s).efs = s.efs := by
  unfold askGroup
  split
  · dsimp only
    split
    · exact ⟨rfl, rfl⟩
    · split
      · exact requestGroup_keeps _ _ _
      · exact ⟨rfl, rfl⟩
  · exact ⟨rfl, rfl⟩

/-- A step per feeder that leaves a part of the state leaves it. -/
theorem forSlots_reader {α : Type} {g : Slot → State → State} (read : State → α)
    (h : ∀ f s, read (g f s) = read s) (s : State) : read (forSlots g s) = read s :=
  forSlots_keeps (P := fun t => read t = read s) (fun f t e => (h f t).trans e) s rfl

theorem changeMode_mdu (d : District) (m : Mode) (src : ModeSource) (s : State) :
    (changeMode d m src s).mdu = { s.mdu with
      modes := upd s.mdu.modes d m, sources := upd s.mdu.sources d src } := by
  unfold changeMode
  dsimp only
  rw [forSlots_reader State.mdu fun f t => (askGroup_keeps d m f t).1,
    forSlots_reader State.mdu fun f t => (fireFollows_work _ _ _ f t).mdu]
  rfl

theorem evaluateDistrict_mdu (s : State) (d : District) : (evaluateDistrict s d).mdu = { s.mdu with
    modes := upd s.mdu.modes d (districtMode s d).1, sources := upd s.mdu.sources d (districtMode s d).2 } := by
  unfold evaluateDistrict
  dsimp only
  split
  · rfl
  · exact changeMode_mdu _ _ _ _

theorem updateBusMode_mdu (s : State) : (updateBusMode s).mdu = { s.mdu with busMode := derivedBusMode s } := by
  unfold updateBusMode
  dsimp only
  split
  · next same => rw [same]
  · split
    · exact (efsBecameBan_work _).mdu
    · rfl

theorem districtMode_of_work {s t : State} (work : ModeWork s t) (d : District) :
    districtMode t d = districtMode s d := by
  simp only [districtMode, declaredLevel, windowLevel, State.minute, work.overrides, work.running, work.windows,
    work.declarations, work.day, work.ms]
  rfl

theorem evaluateDistricts_work (l : List District) (s : State) : ModeWork s (l.foldl evaluateDistrict s) :=
  ModeWork.foldl evaluateDistrict_work l s

/-- The districts evaluated hold their modes, and the others are as they were. -/
theorem evaluateDistricts_modes (l : List District) (s : State) (d : District) :
    ((l.foldl evaluateDistrict s).mdu.modes[d], (l.foldl evaluateDistrict s).mdu.sources[d]) =
      if d ∈ l then districtMode s d else (s.mdu.modes[d], s.mdu.sources[d]) := by
  induction l generalizing s with
  | nil => simp
  | cons x l ih =>
    rw [List.foldl_cons, ih, districtMode_of_work (evaluateDistrict_work s x), evaluateDistrict_mdu]
    dsimp only
    rw [upd_get, upd_get]
    by_cases own : x = d
    · subst own
      simp
    · simp [own, Ne.symm own]

theorem mem_allDistricts (d : District) : d ∈ allDistricts := by
  revert d
  decide

theorem derivedBusMode_of_same {s t : State} (feeders : t.gst.feeders = s.gst.feeders)
    (modes : t.mdu.modes = s.mdu.modes) : derivedBusMode t = derivedBusMode s := by
  simp only [derivedBusMode, State.feederMode, State.feeder, feeders, modes]

theorem updateBusMode_evaluated {s : State}
    (h : ∀ d : District, (s.mdu.modes[d], s.mdu.sources[d]) = districtMode s d) :
    ModesEvaluated (updateBusMode s) := by
  have work := updateBusMode_work s
  have mdu := updateBusMode_mdu s
  refine ⟨fun d => ?_, ?_⟩
  · rw [districtMode_of_work work, mdu]
    exact h d
  · rw [derivedBusMode_of_same work.feeders (by rw [mdu]), mdu]

/-- After an evaluation every mode is the one that R159 and R164 give. -/
theorem evaluateModes_evaluated (s : State) : ModesEvaluated (evaluateModes s) := by
  have districts (d : District) := (evaluateDistricts_modes allDistricts s d).trans (if_pos (mem_allDistricts d))
  have work := evaluateDistricts_work allDistricts s
  rw [evaluateModes]
  generalize allDistricts.foldl evaluateDistrict s = t at *
  exact updateBusMode_evaluated fun d => (districts d).trans (districtMode_of_work work d).symm

/-- EFS's settings and hunt order (R123, R124). -/
def earthTables (s : State) : EarthSettings × List Slot := (s.efs.settings, s.efs.huntOrder)

theorem EfsWork.earthTables {s t : State} (h : EfsWork s t) : Machine.earthTables t = Machine.earthTables s := by
  rw [Machine.earthTables, h.settings, h.huntOrder]
  rfl

theorem evaluateDistrict_earthTables (s : State) (d : District) :
    earthTables (evaluateDistrict s d) = earthTables s := by
  unfold evaluateDistrict changeMode
  dsimp only
  split
  · rfl
  · rw [forSlots_reader earthTables fun f t => by rw [earthTables, (askGroup_keeps d _ f t).2]; rfl,
      forSlots_reader earthTables fun f t => (fireFollows_work _ _ _ f t).earthTables]
    rfl

theorem updateBusMode_earthTables (s : State) : earthTables (updateBusMode s) = earthTables s := by
  unfold updateBusMode
  dsimp only
  split
  · rfl
  · split
    · exact (efsBecameBan_work _).earthTables
    · rfl

theorem evaluateModes_earthTables (s : State) : earthTables (evaluateModes s) = earthTables s := by
  rw [evaluateModes, updateBusMode_earthTables]
  exact foldl_keeps (P := fun t => earthTables t = earthTables s)
    (fun t d h => (evaluateDistrict_earthTables t d).trans h) allDistricts s rfl

/-- MDU's record differs in its modes and sources alone when its other fields are the same. -/
theorem Mdu.eq_with_modes {s t : State} (work : ModeWork s t) : t.mdu = { s.mdu with
    modes := t.mdu.modes, sources := t.mdu.sources, busMode := t.mdu.busMode } := by
  have running := work.running
  have day := work.day
  have ms := work.ms
  have windows := work.windows
  have declarations := work.declarations
  have overrides := work.overrides
  have invalidTime := work.invalidTime
  generalize t.mdu = b at *
  cases b
  subst running day ms windows declarations overrides invalidTime
  rfl

theorem evaluateModes_only (s : State) : ModesOnly s (evaluateModes s) := by
  have work := evaluateModes_work s
  have tables := evaluateModes_earthTables s
  generalize evaluateModes s = t at *
  obtain ⟨settings, huntOrder⟩ := Prod.ext_iff.mp tables
  exact ⟨work.rpt, work.siu, work.phe, work.elu, work.curves, work.groups, work.feeders,
    Mdu.eq_with_modes work, settings, huntOrder, work.mgr, work.pending⟩

/-! ### Where no mode changes -/

/-- `s` with other deciding sources (R160). -/
def withSources (x : Vector ModeSource 4) (s : State) : State := { s with mdu := { s.mdu with sources := x } }

theorem evaluateDistrict_settled {s : State} {d : District} (x : Vector ModeSource 4)
    (same : (districtMode s d).1 = s.mdu.modes[d]) :
    evaluateDistrict (withSources x s) d = withSources (upd x d (districtMode s d).2) s := by
  have mode : districtMode (withSources x s) d = districtMode s d := rfl
  have modes : upd s.mdu.modes d (districtMode s d).1 = s.mdu.modes := by
    rw [same]
    exact Vector.set_getElem_self ..
  rw [evaluateDistrict, mode]
  refine (if_pos same).trans ?_
  simp only [setMode, withSources, modes]

theorem evaluateDistricts_settled {s : State} (same : ∀ d : District, (districtMode s d).1 = s.mdu.modes[d])
    (l : List District) (x : Vector ModeSource 4) :
    ∃ y, l.foldl evaluateDistrict (withSources x s) = withSources y s := by
  induction l generalizing x with
  | nil => exact ⟨x, rfl⟩
  | cons d l ih =>
    rw [List.foldl_cons, evaluateDistrict_settled x (same d)]
    exact ih _

/-- An evaluation that finds no mode changed writes the deciding sources alone. -/
theorem evaluateModes_settled {s : State} (settled : ModesSettled s) :
    evaluateModes s = { s with mdu := { s.mdu with sources := (evaluateModes s).mdu.sources } } := by
  obtain ⟨y, districts⟩ := evaluateDistricts_settled settled.1 allDistricts s.mdu.sources
  have all : allDistricts.foldl evaluateDistrict s = withSources y s := districts
  have evaluated : evaluateModes s = withSources y s := by
    rw [evaluateModes, all]
    exact if_pos settled.2
  rw [evaluated]
  rfl

end Sys2Proof.Machine
end

section
/-! PROOFS. The obligations on the clock: local ticks, boundaries, TIME frames and OVERRIDE (R150, R151, R156 to
R159). -/

namespace Sys2Proof.Machine

/-! ## The local tick (R150) -/

/-- The clock's part of a tick writes MDU and the marks of what is due. -/
theorem tickClock_eq (s : State) : ∃ m d, tickClock s = { s with mdu := m, due := d } := by
  unfold tickClock
  split
  · split <;> exact ⟨_, _, rfl⟩
  · exact ⟨s.mdu, s.due, rfl⟩

theorem tickClock_unset {s : State} (unset : s.mdu.running = false) : tickClock s = s := by
  rw [tickClock, if_neg (by simp [unset])]

theorem tickClock_runs {s : State} (runs : s.mdu.running = true) (within : s.mdu.ms + 1 < 86400000) :
    tickClock s = { s with
      mdu := { s.mdu with ms := s.mdu.ms + 1 }
      due := { s.due with minute := s.due.minute || (s.mdu.ms + 1) % 60000 == 0 } } := by
  rw [tickClock, if_pos runs]
  exact if_pos within

theorem tickClock_day {s : State} (runs : s.mdu.running = true) (full : 86400000 ≤ s.mdu.ms + 1) :
    tickClock s = { s with
      mdu := { s.mdu with ms := 0, day := s.mdu.day + 1 }
      due := { s.due with minute := true, day := true } } := by
  rw [tickClock, if_pos runs]
  exact if_neg (Nat.not_lt.2 full)

theorem tickClock_busMode (s : State) : (tickClock s).mdu.busMode = s.mdu.busMode := by
  unfold tickClock
  split
  · split <;> rfl
  · rfl

theorem tickHunt_quiet {s : State} (quiet : s.efs.record.state ≠ .hunting) :
    tickHunt s = { s with due := { s.due with huntLimit := false } } := if_neg quiet

theorem tickHunt_hunting {s : State} (hunting : s.efs.record.state = .hunting) : tickHunt s =
    { s.setHunt { s.efs.hunt with elapsed := min 3600000 (s.efs.hunt.elapsed + 1) } with
      due := { s.due with
        huntLimit := s.efs.hunt.abortCause == .none &&
          decide (1000 * (s.earthMode s.mdu.busMode).huntLimit ≤ min 3600000 (s.efs.hunt.elapsed + 1)) } } :=
  if_pos hunting

/-- What the hunt's part of a tick leaves. -/
theorem tickHunt_keeps (s : State) : (tickHunt s).mdu = s.mdu ∧ (tickHunt s).due.minute = s.due.minute ∧
    (tickHunt s).due.day = s.due.day ∧ (tickHunt s).siu = s.siu ∧ (tickHunt s).oru = s.oru ∧
    (tickHunt s).rcs = s.rcs ∧ (tickHunt s).rpt = s.rpt ∧ (tickHunt s).phe = s.phe ∧ (tickHunt s).elu = s.elu ∧
    (tickHunt s).gst = s.gst ∧ (tickHunt s).mgr = s.mgr ∧ (tickHunt s).raised = s.raised ∧
    (tickHunt s).pending = s.pending := by
  unfold tickHunt
  split <;> exact ⟨rfl, rfl, rfl, rfl, rfl, rfl, rfl, rfl, rfl, rfl, rfl, rfl, rfl⟩

/-- The hunt's part of a tick, by the state of EFS (R141). -/
theorem tickHunt_efs (s : State) :
    (s.efs.record.state ≠ .hunting → (tickHunt s).efs = s.efs ∧ (tickHunt s).due.huntLimit = false) ∧
    (s.efs.record.state = .hunting →
      (tickHunt s).efs = { s.efs with hunt := { s.efs.hunt with
        elapsed := min 3600000 (s.efs.hunt.elapsed + 1) } } ∧
      (tickHunt s).due.huntLimit = decide (s.efs.hunt.abortCause = .none ∧
        1000 * (s.earthMode s.mdu.busMode).huntLimit ≤ min 3600000 (s.efs.hunt.elapsed + 1))) := by
  refine ⟨fun quiet => ?_, fun hunting => ?_⟩
  · rw [tickHunt_quiet quiet]
    exact ⟨rfl, rfl⟩
  · rw [tickHunt_hunting hunting]
    refine ⟨rfl, ?_⟩
    dsimp only
    rw [Bool.decide_and]
    congr 1

/-- The timers' part of a tick: every running timer falls. -/
theorem tickTimers_readers (s : State) : (∀ r, (tickTimers s).stream r = (s.stream r).tick) ∧
    (∀ f, (tickTimers s).switch f = (s.switch f).tick) ∧ (∀ f, (tickTimers s).order f = (s.order f).tick) ∧
    ∀ f, (tickTimers s).seq f = (s.seq f).tick :=
  ⟨mapV_get _ _, mapV_get _ _, mapV_get _ _, mapV_get _ _⟩

theorem tick_eq (s : State) : tick s = tickHunt (tickTimers (tickClock s)) := rfl

/-- Settles O45: the clock's part, the timers' and the hunt's. -/
theorem ticksMoveClockAndTimers : Obligations.TicksMoveClockAndTimers := by
  intro s
  have run : Effect .localTick s (tick s) := rfl
  have parts := tick_eq s
  obtain ⟨m, d, clock⟩ := tickClock_eq s
  have unset := tickClock_unset (s := s)
  have runs := tickClock_runs (s := s)
  have full := tickClock_day (s := s)
  have busMode := tickClock_busMode s
  generalize tickClock s = c at *
  subst clock
  have keeps := tickHunt_keeps (tickTimers { s with mdu := m, due := d })
  have efs := tickHunt_efs (tickTimers { s with mdu := m, due := d })
  rw [← parts] at keeps efs
  obtain ⟨mdu, minute, day, siu, oru, rcs, rpt, phe, elu, gst, mgr, raised, pending⟩ := keeps
  obtain ⟨stream, switch, order, seq⟩ := tickTimers_readers { s with mdu := m, due := d }
  generalize tick s = u at *
  have mode : (tickTimers { s with mdu := m, due := d }).earthMode m.busMode = s.earthMode s.mdu.busMode := by
    rw [show m.busMode = s.mdu.busMode from busMode]
    rfl
  rw [show (tickTimers { s with mdu := m, due := d }).mdu = m from rfl, mode] at efs
  have streams (r : Role) : u.stream r = (s.stream r).tick :=
    (congrArg (fun x : Siu => x.streams[r]) siu).trans (stream r)
  have switches (f : Slot) : u.switch f = (s.switch f).tick :=
    (congrArg (fun x : Oru => x.switches[f]) oru).trans (switch f)
  have orders (f : Slot) : u.order f = (s.order f).tick :=
    (congrArg (fun x : Oru => x.orders[f]) oru).trans (order f)
  have seqs (f : Slot) : u.seq f = (s.seq f).tick :=
    (congrArg (fun x : Rcs => x.seqs[f]) rcs).trans (seq f)
  refine ⟨u, run, fun h => ?_, fun h within => ?_, fun h last => ?_, streams,
    fun f => ⟨switches f, orders f, seqs f⟩, efs.1, fun hunting => ?_, ?_⟩
  · rw [mdu, minute, day, unset h]
    exact ⟨rfl, rfl, rfl⟩
  · rw [mdu, minute, day, runs h within]
    exact ⟨rfl, rfl, rfl⟩
  · rw [mdu, minute, day, full h last]
    exact ⟨rfl, rfl, rfl⟩
  · obtain ⟨hunt, limit⟩ := efs.2 hunting
    exact ⟨hunt, limit.trans (by rw [hunt]; rfl)⟩
  · rw [rpt, phe, elu, gst, mgr, siu, oru, raised, pending]
    exact ⟨rfl, rfl, rfl, rfl, rfl, rfl, rfl, rfl, rfl, rfl, rfl, rfl⟩

/-! ## Boundaries (R150, R156, R158) -/

/-- What a tick makes of the clock. -/
theorem tick_clock (s : State) : (tick s).mdu = (tickClock s).mdu ∧
    (tick s).due.minute = (tickClock s).due.minute ∧ (tick s).due.day = (tickClock s).due.day := by
  obtain ⟨mdu, minute, day, -⟩ := tickHunt_keeps (tickTimers (tickClock s))
  exact ⟨mdu, minute, day⟩

theorem checkOverrides_mdu (s : State) : checkOverrides s = { s with
    mdu := { s.mdu with overrides := (checkOverrides s).mdu.overrides } } := by
  unfold checkOverrides
  split <;> rfl

theorem checkOverrides_overrides (s : State) (d : District) :
    (checkOverrides s).mdu.overrides[d] = checkedOverride s d := by
  unfold checkOverrides checkedOverride
  by_cases runs : s.mdu.running = true
  · rw [if_pos runs]
    dsimp only
    rw [mapV_get]
    cases h : s.mdu.overrides[d] with
    | none => rfl
    | some o =>
      by_cases past : o.reached s.mdu.day s.minute = true
      · have expired := of_decide_eq_true past
        exact Eq.trans (by simp [past]) (if_pos ⟨runs, expired⟩).symm
      · have lasts := of_decide_eq_false (Bool.not_eq_true _ ▸ past)
        exact Eq.trans (by simp [past]) (if_neg fun h => lasts h.2).symm
  · rw [if_neg runs]
    cases h : s.mdu.overrides[d] with
    | none => rfl
    | some o => exact (if_neg fun h => runs h.1).symm

/-- The state that MINUTE_BOUNDARY evaluates: a purge still due is made, and the overrides are checked (R150,
R158). -/
def minuteChecked (s : State) : State :=
  checkOverrides { s with
    mdu := { s.mdu with
      declarations := if s.due.day = true then purged s.mdu.day s.mdu.declarations else s.mdu.declarations }
    due := { s.due with minute := false, day := false } }

theorem minuteWork_eq (s : State) : minuteWork s = evaluateModes (minuteChecked s) := by
  unfold minuteWork minuteChecked
  dsimp only
  cases day : s.due.day with
  | true =>
    rw [if_pos rfl, if_pos rfl]
    rfl
  | false =>
    rw [if_neg (by simp), if_neg (by simp), ← day]

theorem exec_dayChange_due {s : State} (due : s.due.day = true) :
    exec .dayChange s = .next (finish (dayWork s)) := by
  have same : dayTick s = s := if_neg (by simp [due])
  change execDayChange s = _
  unfold execDayChange
  dsimp only
  rw [same, if_pos due]

theorem exec_dayChange_tick {s : State} (due : s.due.day = false) (runs : s.mdu.running = true)
    (full : 86400000 ≤ s.mdu.ms + 1) : exec .dayChange s = .next (finish (dayWork (tick s))) := by
  have ticked : dayTick s = tick s := if_pos ⟨due, runs, full⟩
  have day : (tick s).due.day = true := by rw [(tick_clock s).2.2, tickClock_day runs full]
  change execDayChange s = _
  unfold execDayChange
  dsimp only
  rw [ticked, if_pos day]

theorem exec_dayChange_none {s : State} (due : s.due.day = false)
    (waits : s.mdu.running = false ∨ s.mdu.ms + 1 < 86400000) : exec .dayChange s = .next s := by
  have same : dayTick s = s := if_neg fun ⟨_, runs, full⟩ =>
    waits.elim (fun h => by simp [runs] at h) fun h => absurd full (Nat.not_le.2 h)
  change execDayChange s = _
  unfold execDayChange
  dsimp only
  rw [same, if_neg (by simp [due])]

theorem exec_minuteBoundary_due {s : State} (due : s.due.minute = true) :
    exec .minuteBoundary s = .next (finish (evaluateModes (minuteChecked s))) := by
  have same : minuteTick s = s := if_neg (by simp [due])
  change execMinuteBoundary s = _
  unfold execMinuteBoundary
  dsimp only
  rw [same, if_pos due, minuteWork_eq]

/-- The tick of a minute boundary marks the minute's work due. -/
theorem tick_minute {s : State} (runs : s.mdu.running = true) (boundary : (s.mdu.ms + 1) % 60000 = 0) :
    (tick s).due.minute = true := by
  rw [(tick_clock s).2.1]
  rcases Nat.lt_or_ge (s.mdu.ms + 1) 86400000 with within | full
  · rw [tickClock_runs runs within]
    simp [boundary]
  · rw [tickClock_day runs full]

theorem tick_ms {s : State} (runs : s.mdu.running = true) (low : s.mdu.ms < 86400000) :
    (tick s).mdu.ms = (s.mdu.ms + 1) % 86400000 := by
  rw [(tick_clock s).1]
  rcases Nat.lt_or_ge (s.mdu.ms + 1) 86400000 with within | full
  · rw [tickClock_runs runs within]
    exact (Nat.mod_eq_of_lt within).symm
  · rw [tickClock_day runs full, show s.mdu.ms + 1 = 86400000 by omega]

theorem exec_minuteBoundary_tick {s : State} (due : s.due.minute = false) (runs : s.mdu.running = true)
    (boundary : (s.mdu.ms + 1) % 60000 = 0) :
    exec .minuteBoundary s = .next (finish (evaluateModes (minuteChecked (tick s)))) := by
  have ticked : minuteTick s = tick s := if_pos ⟨due, runs, boundary⟩
  change execMinuteBoundary s = _
  unfold execMinuteBoundary
  dsimp only
  rw [ticked, if_pos (tick_minute runs boundary), minuteWork_eq]

theorem exec_minuteBoundary_none {s : State} (due : s.due.minute = false)
    (waits : s.mdu.running = false ∨ (s.mdu.ms + 1) % 60000 ≠ 0) : exec .minuteBoundary s = .next s := by
  have same : minuteTick s = s := if_neg fun ⟨_, runs, boundary⟩ =>
    waits.elim (fun h => by simp [runs] at h) fun h => h boundary
  change execMinuteBoundary s = _
  unfold execMinuteBoundary
  dsimp only
  rw [same, if_neg (by simp [due])]

theorem minuteChecked_eq (s : State) : minuteChecked s = { s with
    mdu := { s.mdu with
      declarations := if s.due.day = true then purged s.mdu.day s.mdu.declarations else s.mdu.declarations
      overrides := (minuteChecked s).mdu.overrides }
    due := { s.due with minute := false, day := false } } := by
  unfold minuteChecked
  exact checkOverrides_mdu _

theorem minuteChecked_overrides (s : State) (d : District) :
    (minuteChecked s).mdu.overrides[d] = checkedOverride s d := by
  unfold minuteChecked
  exact checkOverrides_overrides _ d

/-- Settles O46: what is due at once, the tick that has not come yet, and the row that does not apply. -/
theorem boundariesEvaluateModes : Obligations.BoundariesEvaluateModes := by
  refine ⟨fun s => ⟨exec_dayChange_due, fun due runs full => ?_, exec_dayChange_none⟩,
    fun s => ⟨fun due => ?_, fun due runs boundary low => ?_, exec_minuteBoundary_none⟩⟩
  · obtain ⟨mdu, minute, -⟩ := tick_clock s
    rw [tickClock_day runs full] at mdu minute
    have run := exec_dayChange_tick due runs full
    generalize tick s = u at *
    refine ⟨dayWork u, run, rfl, minute, ?_⟩
    change { u.mdu with declarations := purged u.mdu.day u.mdu.declarations } = _
    rw [mdu]
  · have run := exec_minuteBoundary_due due
    have checked := minuteChecked_eq s
    have overrides := minuteChecked_overrides s
    generalize minuteChecked s = t at *
    exact ⟨t, evaluateModes t, run, checked, overrides, rfl, evaluateModes_only t, evaluateModes_evaluated t,
      evaluateModes_settled⟩
  · have run := exec_minuteBoundary_tick due runs boundary
    have ms := tick_ms runs low
    have work := evaluateModes_work (minuteChecked (tick s))
    have evaluated := evaluateModes_evaluated (minuteChecked (tick s))
    have checked := minuteChecked_eq (tick s)
    generalize evaluateModes (minuteChecked (tick s)) = u at *
    refine ⟨u, run, ?_, ?_, evaluated⟩
    · rw [work.dueMinute, checked]
    · rw [work.ms, checked]
      exact ms

/-! ## TIME frames (R151) -/

/-- A TIME frame to 63 goes to MDU and is forwarded (R172, R174). -/
theorem exec_time {f : RxFrame} {s : State} (arrives : Arrives 3 f s) (all : destinationOf f = 63) :
    exec (.time f) s = .next (finish (forwarded f (takeTime (Tod.ofPayload (payloadOf f)) s))) := by
  obtain ⟨wellFormed, source, kind⟩ := arrives
  have time : FrameKind.ofByte (byteAt f.bytes 2) = some .time := by
    rw [frameKind_ofByte, show (byteAt f.bytes 2).toNat = 3 from kind]
    rfl
  have handled : handleFrame f.bytes s = forwardFrame f.bytes (takeTime (Tod.ofPayload (payloadOf f)) s) := by
    unfold handleFrame
    dsimp only
    rw [if_neg source, time]
    exact if_pos all
  rw [exec_received _ f s (by simp), receiveFrame_wellFormed f s wellFormed, handled, forwardFrame_eq]

theorem takeTime_invalid {new : Tod} (h : 86400000 ≤ new.ms) (s : State) : takeTime new s =
    { s with mdu := { s.mdu with invalidTime := min 65535 (s.mdu.invalidTime + 1) } } := by
  rw [← countUp_eq_min]
  exact if_pos h

/-- `s` with the clock set to `new`, and no boundary work due (R151). -/
def clockSet (new : Tod) (s : State) : State :=
  { s with
    mdu := { s.mdu with running := true, day := new.day, ms := new.ms }
    due := { s.due with minute := false, day := false } }

/-- The state that a valid TIME frame has evaluated (R151, R156, R158). -/
def timeTaken (new : Tod) (s : State) : State :=
  checkOverrides (purge (raiseClockSet s.tod new (clockSet new s)))

theorem takeTime_valid {new : Tod} (h : new.ms < 86400000) (s : State) :
    takeTime new s = evaluateModes (timeTaken new s) := if_neg (Nat.not_le.2 h)

theorem raiseClockSet_eq (old : Option Tod) (new : Tod) (s : State) : raiseClockSet old new s =
    { s with raised := (raiseClockSet old new s).raised } := by
  unfold raiseClockSet
  split
  · rfl
  · split <;> rfl

theorem timeTaken_eq (new : Tod) (s : State) : timeTaken new s = { s with
    mdu := { s.mdu with
      running := true
      day := new.day
      ms := new.ms
      declarations := purged new.day s.mdu.declarations
      overrides := (timeTaken new s).mdu.overrides }
    due := { s.due with minute := false, day := false }
    raised := (timeTaken new s).raised } := by
  unfold timeTaken
  rw [checkOverrides_mdu, raiseClockSet_eq]
  rfl

theorem timeTaken_overrides (new : Tod) (s : State) (d : District) : (timeTaken new s).mdu.overrides[d] =
    checkedOverride { s with mdu := { s.mdu with running := true, day := new.day, ms := new.ms } } d := by
  unfold timeTaken
  rw [checkOverrides_overrides, raiseClockSet_eq]
  rfl

theorem timeTaken_raised (new : Tod) (s : State) :
    (timeTaken new s).raised = (raiseClockSet s.tod new (clockSet new s)).raised := by
  unfold timeTaken
  rw [checkOverrides_mdu]
  rfl

theorem raiseClockSet_unset (new : Tod) (s : State) : (raiseClockSet none new (clockSet new s)).raised =
    s.raised ++ [⟨none, some new, none, .clockSet none new none⟩] := rfl

/-- CLOCK_SET is raised where the step is of more than a second, either way (R151). -/
theorem raiseClockSet_step (old new : Tod) (s : State) :
    (1000 < clockStep old new ∨ clockStep old new < -1000 →
      (raiseClockSet (some old) new (clockSet new s)).raised =
        s.raised ++ [⟨none, some new, none, .clockSet (some old) new (some (clockStep old new))⟩]) ∧
    (-1000 ≤ clockStep old new → clockStep old new ≤ 1000 →
      (raiseClockSet (some old) new (clockSet new s)).raised = s.raised) := by
  refine ⟨fun far => ?_, fun low high => ?_⟩
  · have steps : 1000 < (clockStep old new).natAbs := by omega
    rw [raiseClockSet, if_pos steps]
    rfl
  · have stays : ¬ 1000 < (clockStep old new).natAbs := by omega
    rw [raiseClockSet, if_neg stays]
    rfl

/-- Settles O47: an invalid time is counted; a valid one sets the clock, and the modes are evaluated. -/
theorem timeFramesSetTheClock : Obligations.TimeFramesSetTheClock := by
  intro f s arrives all
  have run := exec_time arrives all
  refine ⟨fun invalid => ?_, fun valid => ?_⟩
  · rw [takeTime_invalid (new := Tod.ofPayload (payloadOf f)) invalid] at run
    exact run
  · rw [takeTime_valid (new := Tod.ofPayload (payloadOf f)) valid] at run
    have taken := timeTaken_eq (Tod.ofPayload (payloadOf f)) s
    have overrides := timeTaken_overrides (Tod.ofPayload (payloadOf f)) s
    have raised := timeTaken_raised (Tod.ofPayload (payloadOf f)) s
    generalize timeTaken (Tod.ofPayload (payloadOf f)) s = t at *
    refine ⟨t, evaluateModes t, run, taken, overrides, fun unset => ?_, fun runs => ?_, rfl,
      evaluateModes_only t, evaluateModes_evaluated t, (evaluateModes_work t).raised, evaluateModes_settled⟩
    · rw [raised, State.tod, if_neg (by simp [unset])]
      exact raiseClockSet_unset _ _
    · rw [raised, State.tod, if_pos runs]
      exact raiseClockSet_step ⟨s.mdu.day, s.mdu.ms⟩ (Tod.ofPayload (payloadOf f)) s

/-! ## OVERRIDE (R157) -/

section
variable {q : Request} {s : State}

theorem fin4OfByte_eq (b : Nat) (d : District) : fin4OfByte b = some d ↔ b = d.val := by
  unfold fin4OfByte
  split
  · next h => rw [Option.some.injEq, Fin.ext_iff]
  · next h => simp; omega

theorem doOverride_district (fits : q.payload.length = 2 + 6) {d : District} (district : nat8At q.payload 2 = d.val) :
    doOverride q s = if nat8At q.payload 3 = 255 then ⟨.ok, [], setOverride d none s⟩
      else
        match Mode.ofByte (nat8At q.payload 3) with
        | none => refused .invalid s
        | some m => overrideMode d ⟨m, word16At q.payload 4, nat16At q.payload 6⟩ s := by
  rw [doOverride, withForm_fits fits, show fin4OfByte (q.param 0) = some d from (fin4OfByte_eq _ d).2 district]
  rfl

theorem doOverride_badIndex (fits : q.payload.length = 2 + 6) (beyond : 4 ≤ nat8At q.payload 2) :
    doOverride q s = refused .badIndex s := by
  have none : fin4OfByte (q.param 0) = none := dif_neg (Nat.not_lt.2 beyond)
  rw [doOverride, withForm_fits fits, none]

/-- An until-time out of the day's minutes, or reached already, is refused (R157). -/
theorem overrideMode_refused {d : District} {o : Override}
    (bad : 1439 < o.untilMinute ∨ s.mdu.running = true ∧
      (o.untilDay.toNat < s.mdu.day.toNat ∨ o.untilDay = s.mdu.day ∧ o.untilMinute ≤ s.mdu.ms / 60000)) :
    overrideMode d o s = refused .invalid s := by
  unfold overrideMode
  split
  · rfl
  · next low => exact if_pos ((bad.resolve_left low).imp_right decide_eq_true)

theorem overrideMode_set {d : District} {o : Override} (low : o.untilMinute ≤ 1439)
    (ahead : ¬ (s.mdu.running = true ∧
      (o.untilDay.toNat < s.mdu.day.toNat ∨ o.untilDay = s.mdu.day ∧ o.untilMinute ≤ s.mdu.ms / 60000))) :
    overrideMode d o s = ⟨.ok, [], setOverride d (some o) s⟩ := by
  rw [overrideMode, if_neg (Nat.not_lt.2 low), if_neg]
  exact fun h => ahead (h.imp_right of_decide_eq_true)

end

/-- The mode that the mode byte of OVERRIDE names (R157). -/
theorem mode_ofByte_le {m : Nat} (h : m ≤ 2) : ∃ x, Mode.ofByte m = some x := by
  unfold Mode.ofByte
  split
  · exact ⟨_, rfl⟩
  · split
    · exact ⟨_, rfl⟩
    · exact ⟨_, if_pos (by omega)⟩

theorem mode_ofByte_none {m : Nat} (h : 2 < m) : Mode.ofByte m = none := by
  rw [Mode.ofByte, if_neg (by omega), if_neg (by omega), if_neg (by omega)]

/-- An override set or cleared, and the evaluation that follows it. -/
theorem override_replies {q : Request} {rest : List Request} {s : State} (head : AtHead 10 6 q rest s)
    {k : District} {o : Option Override} (done : doOverride q (begun rest s) = ⟨.ok, [], setOverride k o (begun rest s)⟩) :
    ∃ t v, Replies .override s q .ok [] v ∧
      t = { begun rest s with mdu := { s.mdu with overrides := upd s.mdu.overrides k o } } ∧
      v = evaluateModes t ∧ ModesOnly t v ∧ ModesEvaluated v ∧
      (ModesSettled t → v = { t with mdu := { t.mdu with sources := v.mdu.sources } }) := by
  have run := runRequest_head head doOverride
  rw [done] at run
  dsimp only at run
  obtain ⟨t, changed⟩ : ∃ t : State, t = { begun rest s with mdu := { s.mdu with
    overrides := upd s.mdu.overrides k o } } := ⟨_, rfl⟩
  have set : setOverride k o (begun rest s) = evaluateModes t := by
    subst changed
    unfold setOverride
    rfl
  rw [set] at run
  exact ⟨t, evaluateModes t, run, changed, rfl, evaluateModes_only t, evaluateModes_evaluated t,
    evaluateModes_settled⟩

/-- Settles O51, by the district, the mode byte and the until-time. -/
theorem overridesSetModes : Obligations.OverridesSetModes := by
  intro q rest s head
  have run := runRequest_head head doOverride
  obtain ⟨-, -, fits, -⟩ := id head
  refine ⟨fun beyond => ?_, fun district high other => ?_, fun district low bad => ?_, fun k o district form => ?_⟩
  · rw [doOverride_badIndex fits beyond] at run
    exact run
  · have invalid : doOverride q (begun rest s) = refused .invalid (begun rest s) := by
      rw [doOverride_district (d := ⟨_, district⟩) fits rfl, if_neg other, mode_ofByte_none high]
    rw [invalid] at run
    exact run
  · obtain ⟨m, mode⟩ := mode_ofByte_le low
    have invalid : doOverride q (begun rest s) = refused .invalid (begun rest s) := by
      rw [doOverride_district (d := ⟨_, district⟩) fits rfl, if_neg (by omega), mode]
      exact overrideMode_refused bad
    rw [invalid] at run
    exact run
  · refine override_replies head ?_
    rw [doOverride_district fits district]
    rcases form with ⟨clear, rfl⟩ | ⟨minute, ahead, ⟨mode, rfl⟩ | ⟨mode, rfl⟩ | ⟨mode, rfl⟩⟩
    · exact if_pos clear
    all_goals
      rw [mode]
      exact overrideMode_set minute ahead

end Sys2Proof.Machine
end

section
/-! PROOFS. The obligation on GST's group requests (R73 to R75, R114). -/

namespace Sys2Proof.Machine

section
variable {g : GroupNo} {f : Slot} {s : State}

/-! ## A group becomes active (R74, R75, R114) -/

/-- `s` with group `g` active for feeder `f`, none pending, and the notice raised (R76). -/
def groupSet (w : GroupWay) (n : Option SampleNo) (g : GroupNo) (f : Slot) (s : State) : State :=
  raise (some f) n (.groupChange (s.activeGroup f) g w n) (s.setGroups f (some g) none)

theorem applyGroup_eq (w : GroupWay) (n : Option SampleNo) (g : GroupNo) (f : Slot) (s : State) :
    applyGroup w n g f s = groupNotify f (groupSet w n g f s) := rfl

theorem groupSet_maxShots (w : GroupWay) (n : Option SampleNo) :
    maxShots (groupSet w n g f s) f = (s.group f g).maxShots := by
  simp [maxShots, State.settings, groupSet]

theorem groupNotify_stays (h : ¬ (s.acting f = true ∧ (s.seq f).state = .dead ∧ maxShots s f < (s.seq f).shot)) :
    groupNotify f s = s := if_neg h

theorem groupNotify_shots (acts : s.acting f = true) (dead : (s.seq f).state = .dead)
    (shots : maxShots s f < (s.seq f).shot) : groupNotify f s = withLockout .shots f s := by
  rw [groupNotify, if_pos ⟨acts, dead, shots⟩, enterLockout_eq _ _ _ (by simp [dead])]

/-- What the new group leaves of GST. -/
theorem applyGroup_groups (w : GroupWay) (n : Option SampleNo) :
    (applyGroup w n g f s).activeGroup f = some g ∧ (applyGroup w n g f s).pendingGroup f = none := by
  have gst := (groupNotify_work f (groupSet w n g f s)).gst
  rw [applyGroup_eq]
  unfold State.activeGroup State.pendingGroup
  rw [gst]
  exact ⟨(State.activeGroup_setGroups f f (some g) none s).trans (if_pos rfl),
    (State.pendingGroup_setGroups f f (some g) none s).trans (if_pos rfl)⟩

theorem applyGroup_raised (w : GroupWay) (n : Option SampleNo) :
    (s.raised ++ [⟨some f, s.tod, n, .groupChange (s.activeGroup f) g w n⟩]) <+:
      (applyGroup w n g f s).raised := (groupNotify_work f (groupSet w n g f s)).raised

/-! ## MDU's request (R73, R75) -/

theorem requestGroup_none (none : s.activeGroup f = none) : requestGroup g f s = s := by
  rw [requestGroup, none]

variable {a : GroupNo}

theorem requestGroup_kept_none (active : s.activeGroup f = some a) (same : g = a) (free : s.pendingGroup f = none) :
    requestGroup g f s = s := by
  simp only [requestGroup, active, if_pos same, free]

theorem requestGroup_recalled (active : s.activeGroup f = some a) (same : g = a) (pends : s.pendingGroup f ≠ none) :
    requestGroup g f s =
      { s.setGroups f (some a) none with
        raised := s.raised ++ [⟨some f, s.tod, none, .groupDeferred a none (s.feederMode f)⟩] } := by
  obtain ⟨p, pending⟩ := Option.ne_none_iff_exists'.mp pends
  simp only [requestGroup, active, if_pos same, pending]
  rfl

theorem requestGroup_pends (active : s.activeGroup f = some a) (other : g ≠ a) (pending : s.pendingGroup f = some g) :
    requestGroup g f s = s := by
  simp only [requestGroup, active, if_neg other, if_pos pending]

theorem delivers_iff (r : Role) (s : State) : (s.stream r).state.delivers = true ↔ Delivering r s := by
  unfold Delivering
  cases (s.stream r).state <;> simp [StreamState.delivers]

theorem requestGroup_deferred (active : s.activeGroup f = some a) (other : g ≠ a)
    (pending : s.pendingGroup f ≠ some g) (delivers : Delivering f.role s) : requestGroup g f s =
      { s.setGroups f (some a) (some g) with
        raised := s.raised ++ [⟨some f, s.tod, none, .groupDeferred a (some g) (s.feederMode f)⟩] } := by
  simp only [requestGroup, active, if_neg other, if_neg pending, if_pos ((delivers_iff _ s).2 delivers)]
  rfl

theorem requestGroup_atOnce (active : s.activeGroup f = some a) (other : g ≠ a)
    (pending : s.pendingGroup f ≠ some g) (silent : ¬ Delivering f.role s) :
    requestGroup g f s = applyGroup .atOnce none g f s := by
  simp only [requestGroup, active, if_neg other, if_neg pending, if_neg (mt (delivers_iff _ s).1 silent)]

/-- What RCS makes of a group that becomes active at once (R114). -/
theorem applyGroup_rcs (w : GroupWay) (n : Option SampleNo) :
    ((s.seq f).state ≠ .dead → (applyGroup w n g f s).rcs = s.rcs) ∧
    (s.acting f = true → (s.seq f).state = .dead → (s.seq f).shot ≤ (s.group f g).maxShots →
      (applyGroup w n g f s).rcs = s.rcs) ∧
    (s.acting f = true → (s.seq f).state = .dead → (s.group f g).maxShots < (s.seq f).shot →
      (applyGroup w n g f s).seq f = lockedOut .shots (s.seq f)) := by
  have shots := groupSet_maxShots (g := g) (f := f) (s := s) w n
  rw [applyGroup_eq]
  refine ⟨fun live => ?_, fun acts dead most => ?_, fun acts dead beyond => ?_⟩
  · rw [groupNotify_stays (s := groupSet w n g f s) fun h => live h.2.1]
    rfl
  · rw [groupNotify_stays fun h => absurd h.2.2 (by rw [shots]; exact Nat.not_lt.2 most)]
    rfl
  · rw [groupNotify_shots (s := groupSet w n g f s) acts dead (by rw [shots]; exact beyond)]
    exact seq_setSeq_eq (groupSet w n g f s) f _

theorem applyPending_some (n : SampleNo) (pending : s.pendingGroup f = some g) :
    applyPending n f s = applyGroup .atCompletion (some n) g f s := by
  rw [applyPending, pending]

end

/-- Settles O28, by the active and the pending group and the feeder's stream. -/
theorem groupRequestsActivateOrPend : Obligations.GroupRequestsActivateOrPend := by
  intro g f s
  refine ⟨requestGroup_none, fun a active => ⟨requestGroup_kept_none active, requestGroup_recalled active,
    requestGroup_pends active, requestGroup_deferred active, fun other pending silent => ?_⟩, fun n pending => ?_⟩
  · have groups := applyGroup_groups (g := g) (f := f) (s := s) .atOnce none
    have raised := applyGroup_raised (g := g) (f := f) (s := s) .atOnce none
    obtain ⟨live, most, beyond⟩ := applyGroup_rcs (g := g) (f := f) (s := s) .atOnce none
    rw [active] at raised
    refine ⟨_, rfl, ?_⟩
    rw [requestGroup_atOnce active other pending silent]
    exact ⟨groups.1, groups.2, raised, live, most, beyond⟩
  · rw [applyPending_some n pending]
    obtain ⟨active, none⟩ := applyGroup_groups (g := g) (f := f) (s := s) .atCompletion (some n)
    exact ⟨active, none, (applyGroup_raised .atCompletion (some n)).subset
      (List.mem_append_right _ (List.mem_singleton_self _))⟩

end Sys2Proof.Machine
end

section
/-! PROOFS. The obligation on what a change of mode brings about (R159, R161 to R165, R94). -/

namespace Sys2Proof.Machine

/-! ## One feeder's turn -/

section
variable {α : Type} {P : α → Prop} {R : α → α → Prop} {g : Slot → α → α} {f : Slot}

theorem foldl_apart (refl : ∀ s, R s s) (trans : ∀ {s t u}, R s t → R t u → R s u)
    (keeps : ∀ k s, P s → P (g k s)) (other : ∀ k s, k ≠ f → P s → R s (g k s)) (l : List Slot) (absent : f ∉ l)
    (s : α) (hs : P s) : R s (l.foldl (fun t k => g k t) s) ∧ P (l.foldl (fun t k => g k t) s) := by
  induction l generalizing s with
  | nil => exact ⟨refl s, hs⟩
  | cons k l ih =>
    rw [List.mem_cons, not_or] at absent
    obtain ⟨distinct, absent⟩ := absent
    obtain ⟨rest, holds⟩ := ih absent (g k s) (keeps k s hs)
    exact ⟨trans (other k s (Ne.symm distinct) hs) rest, holds⟩

/-- What is done for every feeder in turn is, for one feeder, what is done at its turn: `R` relates the states
between which the other feeders have theirs. -/
theorem foldl_turn (refl : ∀ s, R s s) (trans : ∀ {s t u}, R s t → R t u → R s u)
    (keeps : ∀ k s, P s → P (g k s)) (other : ∀ k s, k ≠ f → P s → R s (g k s)) (s : α) (hs : P s) :
    ∃ t, P t ∧ R s t ∧ R (g f t) (allSlots.foldl (fun t k => g k t) s) := by
  obtain ⟨a, b, split⟩ := List.append_of_mem (mem_allSlots f)
  have nodup : (a ++ f :: b).Nodup := split ▸ (by decide)
  obtain ⟨-, tail, apart⟩ := List.nodup_append.mp nodup
  have before : f ∉ a := fun h => apart f h f List.mem_cons_self rfl
  have after : f ∉ b := (List.nodup_cons.mp tail).1
  obtain ⟨earlier, holds⟩ := foldl_apart refl trans keeps other a before s hs
  refine ⟨_, holds, earlier, ?_⟩
  have later := (foldl_apart refl trans keeps other b after _ (keeps f _ holds)).1
  rw [split, List.foldl_append, List.foldl_cons]
  exact later

end

theorem forSlots_turn {P : State → Prop} {R : State → State → Prop} {g : Slot → State → State} {f : Slot}
    (refl : ∀ s, R s s) (trans : ∀ {s t u}, R s t → R t u → R s u) (keeps : ∀ k s, P s → P (g k s))
    (other : ∀ k s, k ≠ f → P s → R s (g k s)) (s : State) (hs : P s) :
    ∃ t, P t ∧ R s t ∧ R (g f t) (forSlots g s) := foldl_turn refl trans keeps other s hs

/-- What one feeder sees of the others' turns: its own records and the blocks that hold no feeder's are as they
were, and the notices raised have grown. -/
structure Apart (f : Slot) (s t : State) : Prop where
  seq : t.seq f = s.seq f
  order : t.order f = s.order f
  switch : t.switch f = s.switch f
  active : t.activeGroup f = s.activeGroup f
  pendingGroup : t.pendingGroup f = s.pendingGroup f
  groups : t.gst.groups = s.gst.groups
  feeders : t.gst.feeders = s.gst.feeders
  siu : t.siu = s.siu
  mdu : t.mdu = s.mdu
  mgr : t.mgr = s.mgr
  efs : t.efs = s.efs
  raised : s.raised <+: t.raised

namespace Apart

theorem refl (f : Slot) (s : State) : Apart f s s :=
  ⟨rfl, rfl, rfl, rfl, rfl, rfl, rfl, rfl, rfl, rfl, rfl, List.prefix_rfl⟩

theorem trans {f : Slot} {s t u : State} (a : Apart f s t) (b : Apart f t u) : Apart f s u :=
  ⟨b.seq.trans a.seq, b.order.trans a.order, b.switch.trans a.switch, b.active.trans a.active,
    b.pendingGroup.trans a.pendingGroup, b.groups.trans a.groups, b.feeders.trans a.feeders, b.siu.trans a.siu,
    b.mdu.trans a.mdu, b.mgr.trans a.mgr, b.efs.trans a.efs, a.raised.trans b.raised⟩

theorem of_own {f k : Slot} {s t : State} (h : OwnFeeder k s t) (distinct : k ≠ f) : Apart f s t := by
  obtain ⟨-, siu, -, -, gst, mdu, mgr, -, -⟩ := h.outside
  obtain ⟨switch, order, seq⟩ := h.others f distinct.symm
  exact ⟨seq, order, switch, by rw [State.activeGroup, gst]; rfl, by rw [State.pendingGroup, gst]; rfl,
    by rw [gst], by rw [gst], siu, mdu, mgr, h.efs, h.raised⟩

theorem setGroups {f k : Slot} (distinct : k ≠ f) (a p : Option GroupNo) (s : State) :
    Apart f s (s.setGroups k a p) :=
  ⟨rfl, rfl, rfl, by simp [distinct], by simp [distinct], rfl, rfl, rfl, rfl, rfl, rfl, List.prefix_rfl⟩

theorem acting {f : Slot} {s t : State} (h : Apart f s t) : t.acting f = s.acting f := by
  simp only [State.acting, State.feeder, h.feeders, h.mgr]

theorem feederMode {f : Slot} {s t : State} (h : Apart f s t) : t.feederMode f = s.feederMode f := by
  simp only [State.feederMode, State.feeder, h.feeders, h.mdu]

end Apart

/-! ## GST is asked (R163) -/

theorem groupNotify_own (k : Slot) (s : State) : OwnFeeder k s (groupNotify k s) := by
  unfold groupNotify
  exact .ite (enterLockout_own _ k s) (.refl k s)

theorem askGroup_apart {f k : Slot} (distinct : k ≠ f) (d : District) (m : Mode) (s : State) :
    Apart f s (askGroup d m k s) := by
  have raised (b : NoticeBody) (t : State) : Apart f t (raise (some k) none b t) :=
    .of_own (.raise k _ _ _ t) distinct
  have applied (g : GroupNo) : Apart f s (applyGroup .atOnce none g k s) :=
    applyGroup_eq .atOnce none g k s ▸
      ((Apart.setGroups distinct _ _ s).trans (raised _ _)).trans (.of_own (groupNotify_own k _) distinct)
  have asked (g : GroupNo) : Apart f s (requestGroup g k s) := by
    unfold requestGroup
    split
    · exact .refl f s
    · split
      · split
        · exact .refl f s
        · exact (Apart.setGroups distinct _ _ s).trans (raised _ _)
      · split
        · exact .refl f s
        · split
          · exact (Apart.setGroups distinct _ _ s).trans (raised _ _)
          · exact applied g
  unfold askGroup
  split
  · dsimp only
    split
    · exact .refl f s
    · split
      · exact asked _
      · exact .refl f s
  · exact .refl f s

/-! ## FIRE follows (R161, R94) -/

theorem withdrawable_iff (o : OrderRecord) : o.withdrawable = true ↔
    o.state = .requested ∧ o.kind = .close ∧ (o.origin = .reclose ∨ o.origin = .earth) := by
  simp [OrderRecord.withdrawable, and_assoc]

/-- A withdrawal moves EFS in a hunt alone (R125). -/
theorem efsReport_withdrawn {p : OrderReport} {s : State} (happened : p.happened = .withdrawn)
    (quiet : s.efs.record.state ≠ .hunting) : efsReport p s = s := by
  unfold efsReport
  split
  · split
    · unfold identifiedReport
      simp [happened]
    · next hunting => exact absurd hunting quiet
    · unfold busTripReport
      simp [happened]
    · rfl
  · rfl

/-- The report WITHDRAWN of the order in flight of feeder `f` (R94). -/
def withdrawnReport (f : Slot) (s : State) : OrderReport := reportOf .withdrawn f (s.order f)

section
variable {f : Slot} {s : State}

theorem addFire_held (held : s.holds f .fire = true) : addFire f s = s := if_pos held

theorem addFire_kept_order (absent : s.holds f .fire = false) (stays : ¬ (s.order f).withdrawable = true) :
    addFire f s = addReason .fire f s := by
  have order : (addReason .fire f s).order f = s.order f := (addReason_work _ _ s).order_eq f
  unfold addFire
  dsimp only
  rw [if_neg (by simp [absent]), order, if_neg stays]

theorem addFire_withdraws (absent : s.holds f .fire = false) (withdraws : (s.order f).withdrawable = true) :
    addFire f s = deliver (withdrawnReport f s) (withdrawOrder f (addReason .fire f s)) := by
  have order : (addReason .fire f s).order f = s.order f := (addReason_work _ _ s).order_eq f
  unfold addFire withdrawnReport
  dsimp only
  rw [if_neg (by simp [absent]), order, if_pos withdraws]

theorem withdrawOrder_own (f : Slot) (s : State) : OwnFeeder f s (withdrawOrder f s) := putOrder_own f _ s

/-- Outside a hunt the withdrawal is RCS's alone. -/
theorem addFire_withdraws_quiet (absent : s.holds f .fire = false) (withdraws : (s.order f).withdrawable = true)
    (quiet : s.efs.record.state ≠ .hunting) :
    addFire f s = rcsReport (withdrawnReport f s) (withdrawOrder f (addReason .fire f s)) := by
  have efs := ((addReason_own .fire f s).trans (withdrawOrder_own f _)).trans
    (rcsReport_own (withdrawnReport f s) _) |>.efs
  rw [addFire_withdraws absent withdraws, deliver, efsReport_withdrawn rfl]
  rwa [efs]

theorem addFire_own (quiet : s.efs.record.state ≠ .hunting) : OwnFeeder f s (addFire f s) := by
  cases held : s.holds f .fire with
  | true =>
    rw [addFire_held held]
    exact .refl f s
  | false =>
    by_cases withdraws : (s.order f).withdrawable = true
    · rw [addFire_withdraws_quiet held withdraws quiet]
      exact ((addReason_own .fire f s).trans (withdrawOrder_own f _)).trans (rcsReport_own (withdrawnReport f s) _)
    · rw [addFire_kept_order held withdraws]
      exact addReason_own .fire f s

theorem fireFollows_own (quiet : s.efs.record.state ≠ .hunting) (d : District) (l m : Mode) :
    OwnFeeder f s (fireFollows d l m f s) := by
  unfold fireFollows
  exact .ite (.ite (addFire_own quiet) (.ite (removeReason_own _ f s) (.refl f s))) (.refl f s)

/-- FIRE, or the withdrawal that its addition brings, sends the sequencer to LOCKOUT (R94, R103). -/
def FireBlocks (f : Slot) (s : State) : Prop :=
  s.acting f = true ∧ ((s.seq f).state = .dead ∨
    (s.seq f).state = .closing ∧ (s.order f).withdrawable = true ∧ (s.seq f).awaited = some (s.order f).number)

/-- The sequencer of feeder `f` with FIRE written. -/
def seqFire (b : Bool) (f : Slot) (s : State) : SeqRecord :=
  { s.seq f with reasons := { (s.seq f).reasons with fire := b } }

theorem addReason_fire_seq : (addReason .fire f s).seq f = (s.seq f).aligned (s.acting f) .fire true := by
  have aligned := alignReason_seq .fire true f s
  rwa [alignReason, if_pos rfl] at aligned

/-- What the addition of FIRE leaves of the feeder's records, outside a hunt. -/
theorem addFire_withdrawn_records (absent : s.holds f .fire = false) (withdraws : (s.order f).withdrawable = true)
    (quiet : s.efs.record.state ≠ .hunting) :
    (addFire f s).order f = (s.order f).idled ∧ (addFire f s).switch f =
      { s.switch f with position := derivePosition (s.switch f).reported (s.order f).idled } := by
  have added := addReason_work .fire f s
  rw [addFire_withdraws_quiet absent withdraws quiet, (rcsReport_work _ _).order_eq, (rcsReport_work _ _).switch_eq,
    withdrawOrder, putOrder_order, putOrder_switch, added.order_eq, added.switch_eq]
  exact ⟨rfl, rfl⟩

theorem addFire_kept_records (stays : ¬ ((s.order f).withdrawable = true ∧ s.holds f .fire = false)) :
    (addFire f s).order f = s.order f ∧ (addFire f s).switch f = s.switch f := by
  cases held : s.holds f .fire with
  | true => rw [addFire_held held]; exact ⟨rfl, rfl⟩
  | false =>
    rw [addFire_kept_order held fun h => stays ⟨h, held⟩]
    exact ⟨(addReason_work .fire f s).order_eq f, (addReason_work .fire f s).switch_eq f⟩

/-- The report WITHDRAWN ends the CLOSE that a sequencer awaits in CLOSING, and nothing else (R94). -/
theorem rcsReport_withdrawnReport (f : Slot) (s : State) (o : OrderRecord) :
    (rcsReport (reportOf .withdrawn f o) s).seq f =
      if s.acting f = true ∧ (s.seq f).state = .closing ∧ (s.seq f).awaited = some o.number then
        lockedOut .blocked (s.seq f)
      else s.seq f := by
  cases acts : s.acting f with
  | false =>
    rw [rcsReport_resting (p := reportOf .withdrawn f o) acts, if_neg (by simp)]
  | true =>
    have report : rcsReport (reportOf .withdrawn f o) s =
        if (s.seq f).state = .closing ∧ (s.seq f).awaits (reportOf .withdrawn f o) = true then
          enterLockout .blocked f s
        else s := rcsReport_withdrawn acts rfl
    have awaits : (s.seq f).awaits (reportOf .withdrawn f o) = true ↔ (s.seq f).awaited = some o.number := by
      rw [awaits_iff]
      simp [reportOf, eq_comm]
    rw [report]
    simp only [awaits]
    by_cases ends : (s.seq f).state = .closing ∧ (s.seq f).awaited = some o.number
    · rw [if_pos ends, if_pos ⟨trivial, ends⟩, enterLockout_eq _ _ _ (by simp [ends.1])]
      exact seq_setSeq_eq s f _
    · rw [if_neg ends, if_neg fun h => ends h.2]

theorem addFire_withdrawn_seq (absent : s.holds f .fire = false) (withdraws : (s.order f).withdrawable = true)
    (quiet : s.efs.record.state ≠ .hunting) : (addFire f s).seq f =
      if s.acting f = true ∧ ((s.seq f).aligned (s.acting f) .fire true).state = .closing ∧
          ((s.seq f).aligned (s.acting f) .fire true).awaited = some (s.order f).number then
        lockedOut .blocked ((s.seq f).aligned (s.acting f) .fire true)
      else (s.seq f).aligned (s.acting f) .fire true := by
  have acting : (withdrawOrder f (addReason .fire f s)).acting f = s.acting f :=
    ((addReason_own .fire f s).trans (withdrawOrder_own f _)).acting f
  have seq : (withdrawOrder f (addReason .fire f s)).seq f = (s.seq f).aligned (s.acting f) .fire true :=
    addReason_fire_seq
  rw [addFire_withdraws_quiet absent withdraws quiet, withdrawnReport, rcsReport_withdrawnReport, acting, seq]

theorem addFire_blocked (absent : s.holds f .fire = false) (quiet : s.efs.record.state ≠ .hunting)
    (blocks : FireBlocks f s) : (addFire f s).seq f = lockedOut .blocked (seqFire true f s) := by
  obtain ⟨acts, blocks⟩ := blocks
  by_cases dead : (s.seq f).state = .dead
  · have locked : (s.seq f).aligned (s.acting f) .fire true = lockedOut .blocked (seqFire true f s) := by
      rw [acts]
      exact aligned_added ⟨rfl, absent⟩ dead
    by_cases withdraws : (s.order f).withdrawable = true
    · rw [addFire_withdrawn_seq absent withdraws quiet, locked, if_neg (by simp)]
    · rw [addFire_kept_order absent withdraws, addReason_fire_seq, locked]
  · obtain ⟨closing, withdraws, awaited⟩ := blocks.resolve_left dead
    rw [addFire_withdrawn_seq absent withdraws quiet, aligned_live dead, if_pos ⟨acts, closing, awaited⟩]
    rfl

theorem addFire_live (quiet : s.efs.record.state ≠ .hunting) (live : (s.seq f).state ≠ .dead)
    (blocks : s.holds f .fire = false → ¬ FireBlocks f s) : (addFire f s).seq f = seqFire true f s := by
  have aligned : (s.seq f).aligned (s.acting f) .fire true = seqFire true f s := aligned_live live _ _ _
  cases held : s.holds f .fire with
  | true =>
    rw [addFire_held held, ← aligned, aligned_live live, put_has held]
  | false =>
    by_cases withdraws : (s.order f).withdrawable = true
    · rw [addFire_withdrawn_seq held withdraws quiet, aligned, if_neg]
      exact fun ⟨acts, closing, awaited⟩ => blocks held ⟨acts, .inr ⟨closing, withdraws, awaited⟩⟩
    · rw [addFire_kept_order held withdraws, addReason_fire_seq, aligned]

end

section
variable {d : District} {l m : Mode} {f : Slot} {s : State}

/-- FIRE's addition withdraws the order in flight (R94). -/
def FireWithdraws (m : Mode) (f : Slot) (s : State) : Prop :=
  m = .ban ∧ s.holds f .fire = false ∧ (s.order f).withdrawable = true

theorem fireFollows_ban (own : (s.feeder f).district = d) : fireFollows d l .ban f s = addFire f s := if_pos own

theorem fireFollows_lifted (own : (s.feeder f).district = d) (new : m ≠ .ban) :
    fireFollows d .ban m f s = removeReason .fire f s := by
  rw [fireFollows, if_pos own, if_neg new, if_pos rfl]

theorem fireFollows_still (new : m ≠ .ban) (left : l ≠ .ban) : fireFollows d l m f s = s := by
  rw [fireFollows, if_neg new, if_neg left, ite_self]

theorem fireFollows_other (other : (s.feeder f).district ≠ d) : fireFollows d l m f s = s := if_neg other

theorem fireFollows_withdrawn (own : (s.feeder f).district = d) (quiet : s.efs.record.state ≠ .hunting)
    (withdraws : FireWithdraws m f s) : (fireFollows d l m f s).order f = (s.order f).idled ∧
      (fireFollows d l m f s).switch f =
        { s.switch f with position := derivePosition (s.switch f).reported (s.order f).idled } := by
  obtain ⟨rfl, absent, withdraws⟩ := withdraws
  rw [fireFollows_ban own]
  exact addFire_withdrawn_records absent withdraws quiet

theorem fireFollows_kept_records (own : (s.feeder f).district = d) (stays : ¬ FireWithdraws m f s) :
    (fireFollows d l m f s).order f = s.order f ∧ (fireFollows d l m f s).switch f = s.switch f := by
  by_cases new : m = .ban
  · subst new
    rw [fireFollows_ban own]
    exact addFire_kept_records fun h => stays ⟨rfl, h.2, h.1⟩
  · by_cases left : l = .ban
    · subst left
      rw [fireFollows_lifted own new]
      exact ⟨rfl, rfl⟩
    · rw [fireFollows_still new left]
      exact ⟨rfl, rfl⟩

theorem fireFollows_live (own : (s.feeder f).district = d) (quiet : s.efs.record.state ≠ .hunting)
    (live : (s.seq f).state ≠ .dead) (blocks : ¬ (m = .ban ∧ s.holds f .fire = false ∧ FireBlocks f s)) :
    (fireFollows d l m f s).seq f =
      seqFire (if m = .ban then true else if l = .ban then false else s.holds f .fire) f s := by
  by_cases new : m = .ban
  · subst new
    rw [fireFollows_ban own, if_pos rfl]
    exact addFire_live quiet live fun absent h => blocks ⟨rfl, absent, h⟩
  · rw [if_neg new]
    by_cases left : l = .ban
    · subst left
      rw [fireFollows_lifted own new, if_pos rfl]
      exact seq_setSeq_eq s f _
    · rw [fireFollows_still new left, if_neg left]
      rfl

end

/-! ## The groups asked for (R163) -/

/-- What R163 makes of feeder `f`'s groups, where its mode has become `m`. -/
def GroupAsked (m : Mode) (f : Slot) (s u : State) : Prop :=
  let g := (s.feeder f).modeMap[m.index]
  let kept := u.activeGroup f = s.activeGroup f ∧ u.pendingGroup f = s.pendingGroup f
  ((s.feeder f).inService = false ∨ s.activeGroup f = none → kept) ∧
  ∀ a, (s.feeder f).inService = true → s.activeGroup f = some a →
    (g = a → s.pendingGroup f = none ∨ s.pendingGroup f = some g → kept) ∧
    (∀ p, g = a → s.pendingGroup f = some p → p ≠ g →
      u.activeGroup f = some a ∧ u.pendingGroup f = none ∧
      ⟨some f, s.tod, none, .groupDeferred a none m⟩ ∈ u.raised) ∧
    (g ≠ a → s.pendingGroup f = some g → kept) ∧
    (g ≠ a → s.pendingGroup f ≠ some g → Delivering f.role s →
      u.activeGroup f = some a ∧ u.pendingGroup f = some g ∧
      ⟨some f, s.tod, none, .groupDeferred a (some g) m⟩ ∈ u.raised) ∧
    (g ≠ a → s.pendingGroup f ≠ some g → ¬ Delivering f.role s →
      u.activeGroup f = some g ∧ u.pendingGroup f = none ∧
      ⟨some f, s.tod, none, .groupChange (some a) g .atOnce none⟩ ∈ u.raised)

section
variable {d : District} {m : Mode} {f : Slot} {s t u : State}

theorem askGroup_other (other : (s.feeder f).district ≠ d) : askGroup d m f s = s := if_neg fun h => other h.1

theorem askGroup_resting (rests : (s.feeder f).inService = false) : askGroup d m f s = s :=
  if_neg fun h => by simp [rests] at h

theorem askGroup_none (none : s.activeGroup f = none) : askGroup d m f s = s := by
  unfold askGroup
  simp only [none, ite_self]

theorem askGroup_some {a : GroupNo} (own : (s.feeder f).district = d) (serves : (s.feeder f).inService = true)
    (active : s.activeGroup f = some a) : askGroup d m f s =
      if (s.feeder f).modeMap[m.index] ≠ a ∨
          (s.pendingGroup f ≠ none ∧ s.pendingGroup f ≠ some (s.feeder f).modeMap[m.index]) then
        requestGroup (s.feeder f).modeMap[m.index] f s
      else s := by
  unfold askGroup
  rw [if_pos ⟨own, serves⟩, active]

theorem askGroup_asked (own : (s.feeder f).district = d) (mode : s.feederMode f = m) :
    GroupAsked m f s (askGroup d m f s) := by
  refine ⟨fun h => ?_, fun a serves active => ?_⟩
  · rcases h with rests | none
    · rw [askGroup_resting rests]; exact ⟨rfl, rfl⟩
    · rw [askGroup_none none]; exact ⟨rfl, rfl⟩
  · rw [askGroup_some own serves active]
    refine ⟨fun same pends => ?_, fun p same pends other => ?_, fun differs pends => ?_,
      fun differs pends delivers => ?_, fun differs pends silent => ?_⟩
    · rw [if_neg (by rintro (h | ⟨h, h'⟩); exacts [h same, pends.elim h h'])]
      exact ⟨rfl, rfl⟩
    · have waits : s.pendingGroup f ≠ none := by simp [pends]
      rw [if_pos (.inr ⟨waits, by rw [pends]; simpa using other⟩), requestGroup_recalled active same waits, mode]
      refine ⟨?_, ?_, by simp⟩
      · exact (State.activeGroup_setGroups f f (some a) none s).trans (if_pos rfl)
      · exact (State.pendingGroup_setGroups f f (some a) none s).trans (if_pos rfl)
    · rw [if_pos (.inl differs), requestGroup_pends active differs pends]
      exact ⟨rfl, rfl⟩
    · rw [if_pos (.inl differs), requestGroup_deferred active differs pends delivers, mode]
      refine ⟨?_, ?_, by simp⟩
      · exact (State.activeGroup_setGroups f f (some a) _ s).trans (if_pos rfl)
      · exact (State.pendingGroup_setGroups f f (some a) _ s).trans (if_pos rfl)
    · have raised := applyGroup_raised (g := (s.feeder f).modeMap[m.index]) (f := f) (s := s) .atOnce none
      rw [if_pos (.inl differs), requestGroup_atOnce active differs pends silent]
      obtain ⟨now, free⟩ := applyGroup_groups (g := (s.feeder f).modeMap[m.index]) (f := f) (s := s) .atOnce none
      rw [active] at raised
      exact ⟨now, free, raised.subset (by simp)⟩

/-- `GroupAsked` looks at the feeder, its groups, its stream and the time before, and at its groups and the
notices after. -/
theorem GroupAsked.of_same {v : State} (h : GroupAsked m f t u) (feeder : t.feeder f = s.feeder f)
    (active : t.activeGroup f = s.activeGroup f) (pending : t.pendingGroup f = s.pendingGroup f)
    (siu : t.siu = s.siu) (tod : t.tod = s.tod) (after : Apart f u v) : GroupAsked m f s v := by
  have delivering : Delivering f.role t ↔ Delivering f.role s := by
    unfold Delivering State.stream
    rw [siu]
  unfold GroupAsked at h ⊢
  dsimp only at h ⊢
  rw [feeder, active, pending, tod, delivering] at h
  rw [after.active, after.pendingGroup]
  obtain ⟨resting, h⟩ := h
  refine ⟨resting, fun a serves now => ?_⟩
  obtain ⟨kept, recalled, pends, deferred, atOnce⟩ := h a serves now
  have reaches {x : Notice} (h : x ∈ u.raised) : x ∈ v.raised := after.raised.subset h
  exact ⟨kept, fun p a b c => (recalled p a b c).imp_right (.imp_right reaches), pends,
    fun a b c => (deferred a b c).imp_right (.imp_right reaches),
    fun a b c => (atOnce a b c).imp_right (.imp_right reaches)⟩

theorem requestGroup_records (g : GroupNo) (f : Slot) (s : State) : (requestGroup g f s).oru = s.oru ∧
    ((s.seq f).state ≠ .dead → (requestGroup g f s).rcs = s.rcs) := by
  unfold requestGroup
  split
  · exact ⟨rfl, fun _ => rfl⟩
  · split
    · split <;> exact ⟨rfl, fun _ => rfl⟩
    · split
      · exact ⟨rfl, fun _ => rfl⟩
      · split
        · exact ⟨rfl, fun _ => rfl⟩
        · refine ⟨?_, (applyGroup_rcs .atOnce none).1⟩
          rw [applyGroup_eq, (groupNotify_work f _).oru]
          rfl

theorem askGroup_records (d : District) (m : Mode) (f : Slot) (s : State) : (askGroup d m f s).oru = s.oru ∧
    ((s.seq f).state ≠ .dead → (askGroup d m f s).rcs = s.rcs) := by
  unfold askGroup
  split
  · dsimp only
    split
    · exact ⟨rfl, fun _ => rfl⟩
    · split
      · exact requestGroup_records _ f s
      · exact ⟨rfl, fun _ => rfl⟩
  · exact ⟨rfl, fun _ => rfl⟩

end

/-! ## A district's change of mode (R162) -/

/-- `s` with the district's new mode, and its notice raised (R162, steps 1 and 2). -/
def modeRaised (d : District) (m : Mode) (src : ModeSource) (s : State) : State :=
  raise none none (.modeChange d s.mdu.modes[d] m src) (setMode d m src s)

/-- FIRE has followed on every feeder (R162, step 3). -/
def fireFollowed (d : District) (m : Mode) (src : ModeSource) (s : State) : State :=
  forSlots (fireFollows d s.mdu.modes[d] m) (modeRaised d m src s)

theorem changeMode_eq (d : District) (m : Mode) (src : ModeSource) (s : State) :
    changeMode d m src s = forSlots (askGroup d m) (fireFollowed d m src s) := rfl

section
variable {d : District} {m : Mode} {src : ModeSource} {s : State} {f : Slot}

theorem fireFollowed_work : EfsWork (modeRaised d m src s) (fireFollowed d m src s) :=
  .forSlots (fun f t => fireFollows_work d _ m f t) _

theorem fireFollowed_gst : (fireFollowed d m src s).gst = s.gst := fireFollowed_work.gst

theorem changeMode_raised :
    (s.raised ++ [⟨none, s.tod, none, .modeChange d s.mdu.modes[d] m src⟩]) <+: (changeMode d m src s).raised := by
  rw [changeMode_eq]
  exact (fireFollowed_work (d := d) (m := m) (src := src) (s := s)).raised.trans
    (ModeWork.forSlots (askGroup_work d m) _).raised

theorem changeMode_fire : (changeMode d m src s).holds f .fire =
    fireAfter s.mdu.modes[d] m (decide ((s.feeder f).district = d)) (s.holds f .fire) := by
  rw [changeMode_eq, (RecordsKept.forSlots (askGroup_kept d m) _).reasons f .fire earthReason_none.1]
  exact forSlots_read (fun t f => t.holds f .fire) (fun t => t.gst)
    (fun gst f => fireAfter s.mdu.modes[d] m (decide ((gst.feeders[f]).district = d)))
    (fun t f => holds_fireFollows_own _ _ _ f t) (fun t f k e => holds_fireFollows_other _ _ _ e t)
    (fun t f => fireFollows_gst _ _ _ f t) (modeRaised d m src s) f

/-- Feeder `f`'s turn at FIRE, outside a hunt: the others' leave its records. -/
theorem fireFollowed_turn (quiet : s.efs.record.state ≠ .hunting) (f : Slot) :
    ∃ t, Apart f (modeRaised d m src s) t ∧
      Apart f (fireFollows d s.mdu.modes[d] m f t) (fireFollowed d m src s) := by
  obtain ⟨t, -, before, after⟩ := forSlots_turn (f := f) (P := fun t => t.efs.record.state ≠ .hunting)
    (R := Apart f) (g := fireFollows d s.mdu.modes[d] m) (.refl f) Apart.trans
    (fun k t h => by rwa [(fireFollows_own h d _ m).efs])
    (fun k t distinct h => .of_own (fireFollows_own h d _ m) distinct) (modeRaised d m src s) quiet
  exact ⟨t, before, after⟩

/-- Feeder `f`'s turn at GST. -/
theorem changeMode_turn (d : District) (m : Mode) (src : ModeSource) (s : State) (f : Slot) :
    ∃ t, Apart f (fireFollowed d m src s) t ∧ Apart f (askGroup d m f t) (changeMode d m src s) := by
  obtain ⟨t, -, before, after⟩ := forSlots_turn (f := f) (P := fun _ => True) (R := Apart f) (g := askGroup d m)
    (.refl f) Apart.trans (fun _ _ _ => trivial) (fun k t distinct _ => askGroup_apart distinct d m t)
    (fireFollowed d m src s) trivial
  exact ⟨t, before, after⟩

theorem changeMode_asked (own : (s.feeder f).district = d) : GroupAsked m f s (changeMode d m src s) := by
  obtain ⟨t, before, after⟩ := changeMode_turn d m src s f
  have work := fireFollowed_work (d := d) (m := m) (src := src) (s := s)
  have gst := fireFollowed_gst (d := d) (m := m) (src := src) (s := s)
  have feeder : t.feeder f = s.feeder f := by rw [State.feeder, before.feeders, gst]; rfl
  have mode : t.feederMode f = m := by
    rw [before.feederMode, feederMode_of_same work.mdu (by rw [gst]; rfl), modeRaised, feederMode_raise,
      feederMode_setMode, if_pos own]
  refine (askGroup_asked (feeder ▸ own) mode).of_same feeder ?_ ?_ ?_ ?_ after
  · rw [before.active, State.activeGroup, gst]; rfl
  · rw [before.pendingGroup, State.pendingGroup, gst]; rfl
  · rw [before.siu, work.siu]; rfl
  · rw [State.tod, before.mdu, work.mdu]; rfl

theorem changeMode_groups_other (other : (s.feeder f).district ≠ d) :
    (changeMode d m src s).activeGroup f = s.activeGroup f ∧
      (changeMode d m src s).pendingGroup f = s.pendingGroup f := by
  obtain ⟨t, before, after⟩ := changeMode_turn d m src s f
  have gst := fireFollowed_gst (d := d) (m := m) (src := src) (s := s)
  have feeder : t.feeder f = s.feeder f := by rw [State.feeder, before.feeders, gst]; rfl
  rw [askGroup_other (feeder ▸ other)] at after
  rw [after.active, after.pendingGroup, before.active, before.pendingGroup, State.activeGroup, State.pendingGroup,
    gst]
  exact ⟨rfl, rfl⟩

/-- Feeder `f`'s records in a change of mode, outside a hunt: those FIRE's turn leaves, unless GST's turn finds
the sequencer in its dead time. -/
theorem changeMode_records (quiet : s.efs.record.state ≠ .hunting) (f : Slot) :
    ∃ t, Apart f (modeRaised d m src s) t ∧
      (changeMode d m src s).order f = (fireFollows d s.mdu.modes[d] m f t).order f ∧
      (changeMode d m src s).switch f = (fireFollows d s.mdu.modes[d] m f t).switch f ∧
      ((s.feeder f).district ≠ d ∨ ((fireFollows d s.mdu.modes[d] m f t).seq f).state ≠ .dead →
        (changeMode d m src s).seq f = (fireFollows d s.mdu.modes[d] m f t).seq f) := by
  obtain ⟨t, first, fired⟩ := fireFollowed_turn (d := d) (m := m) (src := src) quiet f
  obtain ⟨v, before, after⟩ := changeMode_turn d m src s f
  obtain ⟨oru, rcs⟩ := askGroup_records d m f v
  have gst := fireFollowed_gst (d := d) (m := m) (src := src) (s := s)
  have feeder : v.feeder f = s.feeder f := by rw [State.feeder, before.feeders, gst]; rfl
  refine ⟨t, first, ?_, ?_, fun h => ?_⟩
  · rw [after.order, State.order, oru, ← fired.order, ← before.order]; rfl
  · rw [after.switch, State.switch, oru, ← fired.switch, ← before.switch]; rfl
  · rw [after.seq, ← fired.seq, ← before.seq]
    rcases h with other | live
    · rw [askGroup_other (feeder ▸ other)]
    · rw [← fired.seq, ← before.seq] at live
      rw [State.seq, rcs live]
      rfl

theorem changeMode_efs (quiet : s.efs.record.state ≠ .hunting) : (changeMode d m src s).efs = s.efs := by
  have fired : (fireFollowed d m src s).efs = s.efs :=
    forSlots_keeps (P := fun t => t.efs = s.efs)
      (fun f t h => (fireFollows_own (by rwa [h]) d _ m).efs.trans h) (modeRaised d m src s) rfl
  rw [changeMode_eq, forSlots_reader State.efs fun f t => (askGroup_keeps d m f t).2]
  exact fired

theorem changeMode_records_other (quiet : s.efs.record.state ≠ .hunting) (other : (s.feeder f).district ≠ d) :
    (changeMode d m src s).seq f = s.seq f ∧ (changeMode d m src s).order f = s.order f ∧
      (changeMode d m src s).switch f = s.switch f := by
  obtain ⟨t, before, order, switch, seq⟩ := changeMode_records (d := d) (m := m) (src := src) quiet f
  have feeder : t.feeder f = s.feeder f := by rw [State.feeder, before.feeders]; rfl
  rw [order, switch, seq (.inl other), fireFollows_other (feeder ▸ other)]
  exact ⟨before.seq, before.order, before.switch⟩

/-- What FIRE's turn decides by is what stood before the change. -/
theorem FireBlocks.of_apart {t u : State} (h : Apart f t u) : FireBlocks f u ↔ FireBlocks f t := by
  rw [FireBlocks, FireBlocks, h.acting, h.seq, h.order]

theorem FireWithdraws.of_apart {t u : State} (h : Apart f t u) : FireWithdraws m f u ↔ FireWithdraws m f t := by
  rw [FireWithdraws, FireWithdraws, State.holds, State.holds, h.seq, h.order]

/-- What a change of mode leaves of the records of a feeder of its district, outside a hunt (R94, R161, R103). -/
theorem changeMode_records_own (quiet : s.efs.record.state ≠ .hunting) (own : (s.feeder f).district = d) :
    let u := changeMode d m src s
    let fire := if m = .ban then true else if s.mdu.modes[d] = .ban then false else s.holds f .fire
    (FireWithdraws m f s → u.order f = (s.order f).idled ∧ u.switch f =
      { s.switch f with position := derivePosition (s.switch f).reported (s.order f).idled }) ∧
    (¬ FireWithdraws m f s → u.order f = s.order f ∧ u.switch f = s.switch f) ∧
    (m = .ban ∧ s.holds f .fire = false ∧ FireBlocks f s → u.seq f = lockedOut .blocked (seqFire fire f s)) ∧
    (¬ (m = .ban ∧ s.holds f .fire = false ∧ FireBlocks f s) → (s.seq f).state ≠ .dead →
      u.seq f = seqFire fire f s) := by
  obtain ⟨t, before, order, switch, seq⟩ := changeMode_records (d := d) (m := m) (src := src) quiet f
  have feeder : t.feeder f = s.feeder f := by rw [State.feeder, before.feeders]; rfl
  have quietly : t.efs.record.state ≠ .hunting := by rw [before.efs]; exact quiet
  have holds : t.holds f .fire = s.holds f .fire := by rw [State.holds, before.seq]; rfl
  have fired (b : Bool) : seqFire b f t = seqFire b f s := by rw [seqFire, before.seq]; rfl
  have recordsOf : FireWithdraws m f t ↔ FireWithdraws m f s :=
    (FireWithdraws.of_apart before).trans Iff.rfl
  have blocksOf : FireBlocks f t ↔ FireBlocks f s := (FireBlocks.of_apart before).trans Iff.rfl
  dsimp only
  refine ⟨fun h => ?_, fun h => ?_, fun ⟨new, absent, blocks⟩ => ?_, fun h live => ?_⟩
  · obtain ⟨o, x⟩ := fireFollows_withdrawn (l := s.mdu.modes[d]) (feeder ▸ own) quietly (recordsOf.2 h)
    rw [order, switch, o, x, before.order, before.switch]
    exact ⟨rfl, rfl⟩
  · obtain ⟨o, x⟩ := fireFollows_kept_records (l := s.mdu.modes[d]) (d := d) (feeder ▸ own) (mt recordsOf.1 h)
    rw [order, switch, o, x, before.order, before.switch]
    exact ⟨rfl, rfl⟩
  · subst new
    have locked := addFire_blocked (holds.trans absent) quietly (blocksOf.2 blocks)
    rw [fireFollows_ban (feeder ▸ own), locked] at seq
    rw [seq (.inr (by simp)), fired]
    rfl
  · have kept := fireFollows_live (d := d) (l := s.mdu.modes[d]) (m := m) (feeder ▸ own) quietly
      (by rw [before.seq]; exact live) (by rw [holds, blocksOf]; exact h)
    rw [holds, fired] at kept
    rw [kept] at seq
    exact seq (.inr live)

end

/-! ## The evaluation (R159, R164, R165) -/

theorem updateBusMode_changed {s : State} (changed : derivedBusMode s ≠ s.mdu.busMode) : updateBusMode s =
    if derivedBusMode s = .ban then efsBecameBan { s with mdu := { s.mdu with busMode := derivedBusMode s } }
    else { s with mdu := { s.mdu with busMode := derivedBusMode s } } := if_neg changed

theorem evaluateDistrict_same {s : State} {d : District} (same : (districtMode s d).1 = s.mdu.modes[d]) :
    evaluateDistrict s d =
      { s with mdu := { s.mdu with sources := upd s.mdu.sources d (districtMode s d).2 } } :=
  evaluateDistrict_settled s.mdu.sources same

theorem evaluateDistrict_changed {s : State} {d : District} (changed : (districtMode s d).1 ≠ s.mdu.modes[d]) :
    evaluateDistrict s d = changeMode d (districtMode s d).1 (districtMode s d).2 s := if_neg changed

/-- The district's FIRE after a change of its mode. -/
theorem changeMode_fire_own {d : District} {m : Mode} {src : ModeSource} {s : State} {f : Slot}
    (own : (s.feeder f).district = d) : (changeMode d m src s).holds f .fire =
      if m = .ban then true else if s.mdu.modes[d] = .ban then false else s.holds f .fire := by
  rw [changeMode_fire, decide_eq_true own]
  rfl

theorem changeMode_fire_other {d : District} {m : Mode} {src : ModeSource} {s : State} {f : Slot}
    (other : (s.feeder f).district ≠ d) : (changeMode d m src s).holds f .fire = s.holds f .fire := by
  rw [changeMode_fire, decide_eq_false other]
  rfl

/-- Settles O50, feeder by feeder: each takes its own turn at FIRE and at GST, and the others' turns leave its
records. -/
theorem modeChangesReachEveryBlock : Obligations.ModeChangesReachEveryBlock := by
  refine ⟨fun s => ⟨rfl, fun same => if_pos same, fun changed mild => ?_, fun changed ban => ?_, fun d =>
    ⟨evaluateDistrict_same, evaluateDistrict_changed⟩⟩, fun d m source s => ⟨changeMode_mdu d m source s,
    changeMode_raised, changeMode_efs, fun f other => ?_, fun f own => ?_⟩⟩
  · rw [updateBusMode_changed changed, if_neg mild]
  · rw [updateBusMode_changed changed, if_pos ban]
  · obtain ⟨active, pending⟩ := changeMode_groups_other (m := m) (src := source) other
    exact ⟨active, pending, changeMode_fire_other other, fun quiet => changeMode_records_other quiet other⟩
  · obtain ⟨resting, asked⟩ := changeMode_asked (m := m) (src := source) own
    refine ⟨changeMode_fire_own own, fun quiet => ?_, resting, asked⟩
    obtain ⟨withdrawn, kept, blocked, live⟩ := changeMode_records_own (m := m) (src := source) quiet own
    simp only [FireWithdraws, FireBlocks, withdrawable_iff, derivePosition_eq_positionOf] at withdrawn kept blocked live
    refine ⟨withdrawn, kept, fun ⟨new, absent, acts, blocks⟩ => blocked ⟨new, absent, acts, ?_⟩, fun h => live ?_⟩
    · exact blocks.imp_right fun ⟨closing, ⟨_, _, takes⟩, awaited⟩ => ⟨closing, takes, awaited⟩
    · exact fun ⟨new, absent, acts, blocks⟩ => h ⟨new, absent, acts,
        blocks.imp_right fun ⟨closing, takes, awaited⟩ => ⟨closing, ⟨new, absent, takes⟩, awaited⟩⟩

end Sys2Proof.Machine
end

section
/-! PROOFS. The obligations on next samples, on FILLING, on streams started afresh and on their loss (R4, R7, R10,
R12 to R16, R22, R27, R30). -/

namespace Sys2Proof.Machine

/-! ## What PHE hands on (R22, R27, R30) -/

theorem StreamState.delivers_iff (st : StreamState) : st.delivers = true ↔ st = .locked ∨ st = .patched := by
  cases st <;> simp [StreamState.delivers]

section
variable {r : Role} {x : Sample} {filled : Bool} {st : StreamState} {s : State}

theorem update_window (p : PheStream) : (p.update r x filled st).window = p.window.store x filled := by
  unfold PheStream.update PheStream.updateBus PheStream.updateFeeder
  split
  · rfl
  · dsimp only
    split <;> rfl

theorem update_phasors (delivers : st.delivers = true) (p : PheStream) :
    PhasorsUpdated r x filled st p (p.update r x filled st) := by
  rw [PhasorsUpdated, update_window]
  refine ⟨store_slotsReplaced x filled p.window, ?_, ?_⟩
  · by_cases bus : r = busRole
    · simp [PheStream.update, PheStream.updateBus, bus]
    · simp [PheStream.update, PheStream.updateFeeder, bus, delivers]
  · by_cases bus : r = busRole
    · simp [PheStream.update, PheStream.updateBus, bus, delivers, completes, coeffIndex, pushResult, busResult, cycleOf]
      rfl
    · simp [PheStream.update, PheStream.updateFeeder, bus, delivers, completes, coeffIndex, pushResult, feederResult,
        cycleOf, cycleResultOf]
      rfl

theorem cycleResultOf_feeder {k : Slot} {w : Window} :
    cycleResultOf k.role x st w = feederResult x.number (st == .patched) w := by
  rw [cycleResultOf, if_neg (role_ne_busRole k)]
  rfl

theorem hand_handedOn (delivers : st.delivers = true) : HandedOn r x filled st s (hand r x filled st s) := by
  refine ⟨(s.pheStream r).update r x filled st, update_phasors delivers _, fun k role => ?_, fun bus => ?_⟩
  · subst role
    have update : (s.pheStream k.role).update k.role x filled st = (s.pheStream k.role).updateFeeder x filled st :=
      if_neg (role_ne_busRole k)
    refine ⟨coeffIndex x.number, rfl, fun last => ?_, fun last => ?_⟩
    · have completed : completes x.number = false := by simpa [completes] using last
      rw [update, hand_feeder, handFeeder]
      dsimp only
      rw [if_pos delivers, completedResult, if_neg (by simp [completed])]
    · have completed : completes x.number = true := by simpa [completes] using last
      rw [update, hand_feeder, handFeeder, cycleResultOf_feeder]
      dsimp only
      rw [if_pos delivers, completedResult, if_pos completed]
  · subst bus
    have update : (s.pheStream busRole).update busRole x filled st = (s.pheStream busRole).updateBus x filled st :=
      if_pos rfl
    rw [update, hand_bus, handBus]
    simp only [delivers, Bool.true_and, completes, coeffIndex, beq_iff_eq]
    rfl

/-- The handing of a sample leaves the other streams. -/
theorem hand_others {q : Role} (other : q ≠ r) : (hand r x filled st s).stream q = s.stream q ∧
    (hand r x filled st s).pheStream q = s.pheStream q := by
  refine ⟨?_, (hand_pheStream ..).trans (if_neg other.symm)⟩
  rw [State.stream, hand_siu]
  rfl

theorem hand_stream (q : Role) : (hand r x filled st s).stream q = s.stream q := by
  rw [State.stream, hand_siu]
  rfl

theorem hand_pheStream_own : (hand r x filled st s).pheStream r = (s.pheStream r).update r x filled st :=
  (hand_pheStream ..).trans (if_pos rfl)

/-- In CONFIGURING PHE alone works. -/
theorem hand_configuring (configuring : s.mgr.device = .configuring) :
    hand r x filled st s = s.setPheStream r ((s.pheStream r).update r x filled st) := by
  have evaluated (k : Slot) (h : HandOver) (t : State) (mgr : t.mgr = s.mgr) : evaluate k h t = t :=
    if_neg (by simp [State.acting, mgr, configuring])
  have result (k : Slot) (c : CycleResult) (t : State) (mgr : t.mgr = s.mgr) : efsFeederResult k c t = t :=
    if_neg (by simp [mgr, configuring])
  have completion (c : CycleResult) (t : State) (mgr : t.mgr = s.mgr) : efsBusCompletion c t = t :=
    if_neg (by simp [mgr, configuring])
  unfold hand
  split
  · next k hk =>
    obtain rfl := role_of_slotOf hk
    rw [PheStream.update, if_neg (role_ne_busRole k)]
    unfold handFeeder
    dsimp only
    split
    · rw [evaluated k _ (s.setPheStream k.role _) rfl]
      split
      · exact result k _ _ rfl
      · rfl
    · rfl
  · next hk =>
    obtain rfl := eq_busRole_of_slotOf hk
    rw [PheStream.update, if_pos rfl]
    unfold handBus
    dsimp only
    split
    · exact completion _ _ rfl
    · rfl

end

/-! ## Next samples (R7, R14) -/

theorem setStream_setStream (r : Role) (p q : StreamRecord) (s : State) :
    (s.setStream r p).setStream r q = s.setStream r q := by
  simp [State.setStream, upd]

theorem takeSample_next {r : Role} {x : Sample} {s : State} (delivering : Delivering r s)
    (next : distanceOf r x s = 1) : takeSample r x s = acceptNext r x s := by
  have isNext : classify (distance (s.stream r).lastSample x.number) = .next := congrArg classify next
  rw [takeSample_delivering x delivering, takeDelivering, isNext]

/-- The stream record after a next sample, and the state it is in (R7, R14). -/
theorem acceptNext_eq {r : Role} {s : State} (x : Sample) (delivering : Delivering r s) :
    let st : StreamState :=
      if (s.stream r).state = .patched ∧ 1 < (s.stream r).patch then .patched else .locked
    acceptNext r x s = hand r x false st (s.setStream r { s.stream r with
      lastSample := x.number
      supervision := some 20
      state := st
      patch := if (s.stream r).state = .patched then (s.stream r).patch - 1 else (s.stream r).patch }) := by
  have state : (if (s.stream r).state = .patched ∧ (s.stream r).patch ≤ 1 then StreamState.locked
      else (s.stream r).state) =
      if (s.stream r).state = .patched ∧ 1 < (s.stream r).patch then .patched else .locked := by
    rcases delivering with locked | patched
    · simp [locked]
    · by_cases last : (s.stream r).patch ≤ 1
      · simp [patched, last]
      · simp [patched, last]
  rw [acceptNext]
  dsimp only
  rw [state]

/-- Settles O17, by the equation of an accepted sample and the hand-over of PHE. -/
theorem nextSamplesAreAccepted : Obligations.NextSamplesAreAccepted := by
  intro f r x s arrives delivering next
  have taken := effect_sample arrives
  rw [takeSample_next delivering next, acceptNext_eq x delivering] at taken
  have delivers : (if (s.stream r).state = .patched ∧ 1 < (s.stream r).patch then StreamState.patched
      else .locked).delivers = true := by split <;> rfl
  generalize (if (s.stream r).state = .patched ∧ 1 < (s.stream r).patch then StreamState.patched
    else .locked) = st at *
  have kept (q : StreamRecord) : (s.setStream r q).pheStream r = s.pheStream r := rfl
  refine ⟨_, taken, hand_handedOn delivers, ?_, ?_, ?_, fun configuring => ?_⟩
  · rw [hand_stream, State.stream_setStream, if_pos rfl]
  · rw [hand_pheStream_own, kept]
    exact update_phasors delivers _
  · refine ((SampleWork.setStream _ _ s).trans (hand_work _ _ _ _ _)).streamOnly fun k other => ?_
    obtain ⟨stream, phe⟩ := hand_others (x := x) (filled := false) (st := st) (s := s.setStream r _) other
    rw [stream, phe, State.stream_setStream, if_neg other.symm]
    exact ⟨rfl, rfl⟩
  · rw [hand_configuring (s := s.setStream r _) configuring]
    exact ⟨rfl, rfl, rfl, rfl, rfl, rfl, rfl⟩

/-! ## FILLING (R12, R13) -/

theorem takeSample_fillNext {r : Role} {x : Sample} {s : State} (filling : (s.stream r).state = .filling)
    (next : distanceOf r x s = 1) : takeSample r x s = fillNext r x s := by
  have isNext : classify (distance (s.stream r).lastSample x.number) = .next := congrArg classify next
  rw [takeSample_filling x filling, takeFilling, isNext]

/-- The stream record when a next sample in FILLING has been counted (R12). -/
def StreamRecord.counted (x : Sample) (q : StreamRecord) : StreamRecord :=
  { q with lastSample := x.number, supervision := some 20, consecutive := q.consecutive + 1 }

/-- The stream record at the entry to LOCKED with sample `x` (R13). -/
def StreamRecord.full (x : Sample) (q : StreamRecord) : StreamRecord :=
  { q with lastSample := x.number, supervision := some 20, state := .locked, consecutive := 0 }

theorem fillNext_counts {r : Role} {s : State} (x : Sample) (short : (s.stream r).consecutive + 1 < 32) :
    fillNext r x s = (s.setStream r ((s.stream r).counted x)).setPheStream r
      { s.pheStream r with window := (s.pheStream r).window.store x false } := by
  rw [fillNext]
  dsimp only
  rw [if_neg (by omega), hand_notDelivering _ _ _ _ _ rfl]
  rfl

theorem fillNext_locks {r : Role} {s : State} (x : Sample) (full : 32 ≤ (s.stream r).consecutive + 1) :
    fillNext r x s = hand r x false .locked (enterLocked r x.number (s.setStream r ((s.stream r).counted x))) :=
  if_pos full

theorem setStream_counted_full (r : Role) (x : Sample) (s : State) :
    (s.setStream r ((s.stream r).counted x)).setStream r
      { (s.setStream r ((s.stream r).counted x)).stream r with state := .locked, consecutive := 0 } =
      s.setStream r ((s.stream r).full x) := by
  rw [setStream_setStream, State.stream_setStream, if_pos rfl]
  rfl

/-- The entry to LOCKED of a feeder's stream: STREAM goes, and the notice is raised (R13, R16, R17). -/
theorem enterLocked_feeder (k : Slot) (x : Sample) (s : State) :
    enterLocked k.role x.number (s.setStream k.role ((s.stream k.role).counted x)) =
      raise (some k) (some x.number) (.streamState .locked .filling)
        (removeReason .stream k (s.setStream k.role ((s.stream k.role).full x))) := by
  have state : ((s.setStream k.role ((s.stream k.role).full x)).stream k.role).state = .locked := by
    rw [State.stream_setStream, if_pos rfl]
    rfl
  rw [enterLocked]
  dsimp only
  rw [setStream_counted_full, slotOf_role, raiseStream, slotOf_role]
  dsimp only
  rw [(removeReason_work .stream k _).feeder.stream, state]

theorem enterLocked_bus (x : Sample) (s : State) :
    enterLocked busRole x.number (s.setStream busRole ((s.stream busRole).counted x)) =
      raise none (some x.number) (.streamState .locked .filling)
        (s.setStream busRole ((s.stream busRole).full x)) := by
  have state : ((s.setStream busRole ((s.stream busRole).full x)).stream busRole).state = .locked := by
    rw [State.stream_setStream, if_pos rfl]
    rfl
  rw [enterLocked]
  dsimp only
  rw [setStream_counted_full, slotOf_bus, raiseStream, slotOf_bus]
  dsimp only
  rw [state]

/-- Beside the stream's own record, the entry to LOCKED is a feeder's work (R13, R16, R17). -/
theorem enterLocked_own (r : Role) (x : Sample) (s : State) :
    FeederWork (s.setStream r ((s.stream r).full x))
      (enterLocked r x.number (s.setStream r ((s.stream r).counted x))) := by
  cases role : slotOf r with
  | some k =>
    obtain rfl := role_of_slotOf role
    rw [enterLocked_feeder]
    exact (removeReason_work .stream k _).feeder.trans ((EfsWork.raise _ _ _ _).feeder)
  | none =>
    obtain rfl := eq_busRole_of_slotOf role
    rw [enterLocked_bus]
    exact (EfsWork.raise _ _ _ _).feeder

/-- Settles O20, by the count of consecutive samples. -/
theorem fillingLeadsToLocked : Obligations.FillingLeadsToLocked := by
  intro f r x s arrives filling next
  have taken := effect_sample arrives
  rw [takeSample_fillNext filling next] at taken
  refine ⟨fun short => ?_, fun full => ?_⟩
  · rw [fillNext_counts x short] at taken
    exact ⟨_, store_slotsReplaced x false _, taken⟩
  · rw [fillNext_locks x full] at taken
    have entered := enterLocked_own r x s
    have work := hand_work r x false .locked (enterLocked r x.number (s.setStream r ((s.stream r).counted x)))
    refine ⟨_, taken, ?_, ?_, ?_, fun k role => ?_, fun bus => ?_⟩
    · rw [hand_stream, entered.stream, State.stream_setStream, if_pos rfl]
      rfl
    · rw [hand_pheStream_own, entered.pheStream]
      exact update_phasors rfl _
    · refine ((SampleWork.setStream _ _ s).trans (entered.sample.trans work)).streamOnly fun k other => ?_
      obtain ⟨stream, phe⟩ := hand_others (x := x) (filled := false) (st := .locked)
        (s := enterLocked r x.number (s.setStream r ((s.stream r).counted x))) other
      rw [stream, phe, entered.stream, entered.pheStream, State.stream_setStream, if_neg other.symm]
      exact ⟨rfl, rfl⟩
    · subst role
      rw [enterLocked_feeder] at work ⊢
      refine ⟨?_, work.raised.subset (List.mem_append_right _ (List.mem_singleton_self _)), hand_handedOn rfl⟩
      rw [(hand_kept _ _ _ _ _).reasons k .stream earthReason_stream, holds_raise, holds_removeReason,
        if_pos ⟨rfl, rfl⟩]
    · subst bus
      rw [enterLocked_bus] at work ⊢
      exact ⟨work.raised.subset (List.mem_append_right _ (List.mem_singleton_self _)), hand_handedOn rfl⟩

/-! ## A stream started afresh (R10, R12, R15) -/

theorem effect_sampleFrame {f : RxFrame} {s : State} (arrives : Arrives 1 f s) :
    Effect (.sample f) s (forwarded f (takeSampleFrame (sourceOf f) (payloadOf f) s)) := by
  obtain ⟨good, source, kind⟩ := arrives
  have named : FrameKind.ofByte (byteAt f.bytes 2) = some .sample := by
    rw [frameKind_ofByte]
    exact if_pos kind
  have handled :
      handleFrame f.bytes s = forwardFrame f.bytes (takeSampleFrame (sourceOf f) (payloadOf f) s) := by
    unfold handleFrame
    simp only [named]
    rw [if_neg source]
    rfl
  rw [Effect, exec_received _ f s (.inl rfl), receiveFrame_wellFormed f s good, handled, forwardFrame_eq]

theorem routeSample_none {s : State} {a : RingAddr} (foreign : ∀ r : Role, s.samplingAddress r ≠ a) :
    routeSample s a = none := by
  rw [routeSample, List.find?_eq_none]
  exact fun r _ => by simpa using foreign r

/-- `s` with stream `r` filling afresh from sample `x`, its resync counter at `n` (R10). -/
def startedAfresh (r : Role) (x : Sample) (n : Nat) (s : State) : State :=
  (s.setStream r { (s.stream r).filling x with resyncs := n }).setPheStream r
    ⟨Window.empty.store x false, none, []⟩

theorem takeSample_idle {r : Role} {s : State} (x : Sample)
    (idle : (s.stream r).state = .absent ∨ (s.stream r).state = .lost) :
    takeSample r x s = streamEntered r (startedAfresh r x (s.stream r).resyncs s) := by
  have started : takeSample r x s = startFilling r x s := by
    unfold takeSample
    rcases idle with state | state <;> rw [state]
  rw [started, startFilling, enterFilling_eq]
  rfl

theorem countResync_refilled (r : Role) (x : Sample) (s : State) : refilled r x (countResync r s) =
    startedAfresh r x (min 65535 ((s.stream r).resyncs + 1)) s := by
  rw [refilled, countResync, setStream_setStream, State.stream_setStream, if_pos rfl, countUp_eq_min]
  rfl

theorem classify_lost {d : Nat} (low : 2 ≤ d) (high : d ≤ 65531) : classify d = .break ∨ ∃ k, classify d = .gap k := by
  by_cases gap : d ≤ 4
  · exact .inr ⟨d - 1, by rw [classify, if_neg (by omega), if_pos ⟨low, gap⟩]⟩
  · exact .inl (classify_break (by omega) high)

theorem takeSample_resync {r : Role} {x : Sample} {s : State} (filling : (s.stream r).state = .filling)
    (low : 2 ≤ distanceOf r x s) (high : distanceOf r x s ≤ 65531) : takeSample r x s =
      streamEntered r (startedAfresh r x (min 65535 ((s.stream r).resyncs + 1)) s) := by
  have started : takeFilling r x s = startFilling r x (countResync r s) := by
    rw [takeFilling, distance]
    rcases classify_lost low high with c | ⟨k, c⟩ <;> rw [c]
  rw [takeSample_filling x filling, started, startFilling, enterFilling_eq, countResync_refilled]

theorem startedAfresh_stream (r k : Role) (x : Sample) (n : Nat) (s : State) :
    (startedAfresh r x n s).stream k = if r = k then { (s.stream r).filling x with resyncs := n }
      else s.stream k := State.stream_setStream ..

theorem startedAfresh_pheStream (r k : Role) (x : Sample) (n : Nat) (s : State) :
    (startedAfresh r x n s).pheStream k = if r = k then ⟨Window.empty.store x false, none, []⟩
      else s.pheStream k := State.pheStream_setPheStream ..

/-- What the entry into FILLING brings about leaves what `StreamOnly` names. -/
theorem streamEntered_only (r : Role) (x : Sample) (n : Nat) (s : State) :
    StreamOnly r s (streamEntered r (startedAfresh r x n s)) := by
  have work := streamEntered_work r (startedAfresh r x n s)
  refine (((SampleWork.setStream _ _ s).trans (.setPheStream _ _ _)).trans work.sample).streamOnly fun k other => ?_
  rw [work.stream, work.pheStream, startedAfresh_stream, startedAfresh_pheStream, if_neg other.symm,
    if_neg other.symm]
  exact ⟨rfl, rfl⟩

theorem applyPendingAtEntry_none {k : Slot} {s : State} (none : s.pendingGroup k = none) :
    applyPendingAtEntry k s = s := by
  rw [applyPendingAtEntry, none]

/-- Settles O21: a stream in ABSENT or LOST, and one in FILLING that loses samples, fill a window anew. -/
theorem streamsStartAfresh : Obligations.StreamsStartAfresh := by
  refine ⟨fun f r x s n arrives starts => ?_, fun f s arrives foreign => ?_⟩
  · have taken := effect_sample arrives
    have started : takeSample r x s = streamEntered r (startedAfresh r x n s) := by
      rcases starts with ⟨idle, rfl⟩ | ⟨filling, low, high, rfl⟩
      · exact takeSample_idle x idle
      · exact takeSample_resync filling low high
    rw [started] at taken
    have work := streamEntered_work r (startedAfresh r x n s)
    have stream := (work.stream r).trans ((startedAfresh_stream r r x n s).trans (if_pos rfl))
    have phe := (work.pheStream r).trans ((startedAfresh_pheStream r r x n s).trans (if_pos rfl))
    have only := streamEntered_only r x n s
    refine ⟨Window.empty.store x false, store_empty_onlySample x, fun k role => ⟨fun none => ?_, fun g some => ?_⟩,
      fun bus => ⟨fun still => ?_, fun hunts => ?_⟩⟩
    · subst role
      rwa [streamEntered_feeder, applyPendingAtEntry_none (s := startedAfresh k.role x n s) none] at taken
    · subst role
      obtain ⟨gone, active⟩ := applyPendingAtEntry_groups k (startedAfresh k.role x n s)
      rw [← streamEntered_feeder] at gone active
      exact ⟨_, ⟨taken, only, stream, phe⟩, active g some, gone⟩
    · subst bus
      rwa [streamEntered_bus, abortHunt_not_underWay _ (startedAfresh busRole x n s) still] at taken
    · subst bus
      have aborted := abortHunt_aborted .busStream (startedAfresh busRole x n s) hunts
      exact ⟨_, ⟨taken, only, stream, phe⟩, aborted⟩
  · have taken := effect_sampleFrame arrives
    rw [takeSampleFrame, routeSample_none foreign] at taken
    rw [← countUp_eq_min]
    exact taken

/-! ## Silence (R15) -/

/-- The stream record when its supervision timer has run out (R15, R18). -/
def StreamRecord.silent (q : StreamRecord) : StreamRecord :=
  { q with state := .lost, supervision := none, consecutive := 0, patch := 0, notDropped := false }

theorem streamLost_eq (r : Role) (s : State) : streamLost r s =
    streamStopped r none (s.stream r).state (s.setStream r (s.stream r).silent) := rfl

theorem streamLost_stopped (r : Role) (s : State) : StreamStopped r none .lost s (streamLost r s) := by
  have lost : ((s.setStream r (s.stream r).silent).stream r).state = .lost := by
    rw [State.stream_setStream, if_pos rfl]
    rfl
  rw [streamLost_eq]
  refine ⟨fun k role => ?_, fun bus => ?_⟩
  · subst role
    have stopped := streamStopped_feeder k none (s.stream k.role).state
      (s.setStream k.role (s.stream k.role).silent)
    rwa [lost] at stopped
  · subst bus
    have stopped := streamStopped_bus none (s.stream busRole).state
      (s.setStream busRole (s.stream busRole).silent)
    rwa [lost] at stopped

/-- Settles O22, by the stop of the stream. -/
theorem silenceLosesStreams : Obligations.SilenceLosesStreams := by
  intro r s
  refine ⟨fun expired => ⟨streamLost r s, if_pos expired, ?_, ?_, ?_, streamLost_stopped r s⟩, fun runs =>
    if_neg runs⟩
  · rw [streamLost_eq, (streamStopped_work ..).stream, State.stream_setStream, if_pos rfl]
    rfl
  · refine (streamLost_work r s).streamOnly fun k other => ?_
    rw [streamLost_eq, (streamStopped_work ..).stream, (streamStopped_work ..).pheStream, State.stream_setStream,
      if_neg other.symm]
    exact ⟨rfl, rfl⟩
  · rw [streamLost_eq, (streamStopped_work ..).pheStream]
    rfl

end Sys2Proof.Machine
end

section
/-! PROOFS. The obligation on gaps (R8, R22): the filled samples of a gap, and the window they leave. -/

namespace Sys2Proof.Machine

section
variable {r : Role} {s : State}

theorem classify_gap {d : Nat} (low : 2 ≤ d) (high : d ≤ 4) : classify d = .gap (d - 1) := by
  rw [classify, if_neg (by omega), if_pos ⟨low, high⟩]

theorem takeSample_gap {x : Sample} (delivering : Delivering r s) (low : 2 ≤ distanceOf r x s)
    (high : distanceOf r x s ≤ 4) : takeSample r x s = bridgeGap r x (distanceOf r x s - 1) s := by
  have isGap : classify (distance (s.stream r).lastSample x.number) = .gap (distanceOf r x s - 1) :=
    classify_gap low high
  rw [takeSample_delivering x delivering, takeDelivering, isGap]

/-- The filled sample for the number `i + 1` after that of `x` (R8). -/
def nthAfter (x : Sample) (i : Nat) : Sample := { x with number := x.number + BitVec.ofNat 16 (i + 1) }

theorem fillGap_succ (r : Role) (x : Sample) (n : Nat) (s : State) : fillGap r x (List.range (n + 1)) s =
    hand r (nthAfter x n) true .patched (fillGap r x (List.range n) s) := by
  simp only [fillGap, List.range_succ, List.foldl_append, List.foldl_cons, List.foldl_nil]
  rfl

theorem fillGap_stream (x : Sample) (l : List Nat) (k : Role) : (fillGap r x l s).stream k = s.stream k := by
  rw [State.stream, fillGap_siu]
  rfl

theorem fillGap_pheStream_other (x : Sample) (n : Nat) {k : Role} (other : k ≠ r) :
    (fillGap r x (List.range n) s).pheStream k = s.pheStream k := by
  induction n with
  | zero => rfl
  | succ n ih => rw [fillGap_succ, (hand_others other).2, ih]

/-- The window of a gap's filled samples. -/
def filledWindow (x : Sample) (n : Nat) (w : Window) : Window :=
  (List.range n).foldl (fun v i => v.store (nthAfter x i) true) w

theorem filledWindow_succ (x : Sample) (n : Nat) (w : Window) :
    filledWindow x (n + 1) w = (filledWindow x n w).store (nthAfter x n) true := by
  simp [filledWindow, List.range_succ]

theorem fillGap_window (x : Sample) (n : Nat) : ((fillGap r x (List.range n) s).pheStream r).window =
    filledWindow x n (s.pheStream r).window := by
  induction n with
  | zero => rfl
  | succ n ih => rw [fillGap_succ, hand_pheStream_own, update_window, ih, filledWindow_succ]

theorem store_slot (x : Sample) (filled : Bool) (w : Window) (ch : Fin 4) (k : Fin 32) :
    (w.store x filled).channels[ch][k] =
      if k = coeffIndex x.number then ⟨x.values[ch], x.overs[ch], filled, true⟩ else w.channels[ch][k] := by
  rw [(store_slotsReplaced x filled w).1 ch k]
  simp only [Fin.ext_iff, coeffIndex]

/-- Numbers less than 32 apart have different coefficient indexes (R19). -/
theorem coeffIndex_add_ne (n : SampleNo) {i j : Nat} (less : i < j) (near : j < 32) :
    coeffIndex (n + BitVec.ofNat 16 i) ≠ coeffIndex (n + BitVec.ofNat 16 j) := by
  simp only [coeffIndex, ne_eq, Fin.mk.injEq, BitVec.toNat_add, BitVec.toNat_ofNat]
  omega

theorem coeffIndex_nthAfter_ne (x : Sample) {i j : Nat} (less : i < j) (near : j < 31) :
    coeffIndex (nthAfter x i).number ≠ coeffIndex (nthAfter x j).number :=
  coeffIndex_add_ne x.number (Nat.succ_lt_succ less) (by omega)

theorem filledWindow_slot (x : Sample) {n : Nat} (small : n < 31) (w : Window) (ch : Fin 4) :
    (∀ i < n, (filledWindow x n w).channels[ch][coeffIndex (nthAfter x i).number] =
      ⟨x.values[ch], x.overs[ch], true, true⟩) ∧
    ∀ k : Fin 32, (∀ i < n, k ≠ coeffIndex (nthAfter x i).number) →
      (filledWindow x n w).channels[ch][k] = w.channels[ch][k] := by
  induction n with
  | zero => exact ⟨fun i h => absurd h (Nat.not_lt_zero i), fun _ _ => rfl⟩
  | succ n ih =>
    obtain ⟨filled, kept⟩ := ih (by omega)
    rw [filledWindow_succ]
    refine ⟨fun i within => ?_, fun k apart => ?_⟩
    · rw [store_slot]
      by_cases last : i = n
      · subst last
        exact if_pos rfl
      · have earlier : i < n := by omega
        rw [if_neg (coeffIndex_nthAfter_ne x earlier (by omega)), filled i earlier]
    · rw [store_slot, if_neg (apart n (Nat.lt_succ_self n)), kept k fun i h => apart i (Nat.lt_succ_of_lt h)]

/-- The sample that a gap repeats: the window's slots of the last accepted number (log entry 24). -/
def repeatedSample (r : Role) (s : State) : Sample := (s.pheStream r).window.sampleAt (s.stream r).lastSample

/-- The stream record of a gap in which `n` samples of the patch are still to come (R8). -/
def StreamRecord.bridging (n : Nat) (q : StreamRecord) : StreamRecord :=
  { q with gaps := min 65535 (q.gaps + 1), state := .patched, patch := n }

/-- `s` with the stream PATCHED and `i` filled samples handed on (R8). -/
def bridged (r : Role) (s : State) (i : Nat) : State :=
  fillGap r (repeatedSample r s) (List.range i) (s.setStream r ((s.stream r).bridging 32))

/-- The stream record when the sample after the gap is accepted (R7, R8). -/
def StreamRecord.acrossGap (x : Sample) (q : StreamRecord) : StreamRecord :=
  { q.bridging 31 with lastSample := x.number, supervision := some 20 }

theorem bridged_stream (i : Nat) (k : Role) : (bridged r s i).stream k =
    if r = k then (s.stream r).bridging 32 else s.stream k := by
  rw [bridged, fillGap_stream, State.stream_setStream]

theorem bridged_work (i : Nat) : SampleWork s (bridged r s i) :=
  (SampleWork.setStream _ _ s).trans (fillGap_work r _ _ _)

theorem bridged_pheStream_other (i : Nat) {k : Role} (other : k ≠ r) :
    (bridged r s i).pheStream k = s.pheStream k := fillGap_pheStream_other _ i other

theorem bridged_window (i : Nat) : ((bridged r s i).pheStream r).window =
    filledWindow (repeatedSample r s) i (s.pheStream r).window := fillGap_window _ i

theorem bridgeGap_eq (x : Sample) (n : Nat) : bridgeGap r x n s =
    hand r x false .patched ((bridged r s n).setStream r ((s.stream r).acrossGap x)) := by
  have stream : (bridged r s n).stream r = (s.stream r).bridging 32 := (bridged_stream n r).trans (if_pos rfl)
  have begun : bridgeGap r x n s = acceptNext r x (bridged r s n) := by
    rw [bridgeGap, countUp_eq_min]
    rfl
  rw [begun, acceptNext, stream]
  rfl

theorem repeatedSample_slot (ch : Fin 4) :
    (⟨(repeatedSample r s).values[ch], (repeatedSample r s).overs[ch], true, true⟩ : WindowSlot) =
      { (s.pheStream r).window.channels[ch][coeffIndex (s.stream r).lastSample] with
        filled := true, occupied := true } := by
  simp [repeatedSample, Window.sampleAt]

/-- The number of a sample lies its distance after the last one's (R6). -/
theorem number_eq (x : Sample) : x.number = (s.stream r).lastSample + BitVec.ofNat 16 (distanceOf r x s) := by
  have toNat : BitVec.ofNat 16 (distanceOf r x s) = x.number - (s.stream r).lastSample :=
    (BitVec.ofNat_toNat _ _).trans (BitVec.setWidth_eq _)
  rw [toNat, BitVec.add_comm, BitVec.sub_add_cancel]

/-- What a gap leaves of the window (R8, R22). -/
theorem gap_slots {x : Sample} (low : 2 ≤ distanceOf r x s) (high : distanceOf r x s ≤ 4) :
    let w := s.pheStream r |>.window
    let last := (s.stream r).lastSample
    let u := (filledWindow (repeatedSample r s) (distanceOf r x s - 1) w).store x false
    (∀ ch : Fin 4, u.channels[ch][coeffIndex x.number] = ⟨x.values[ch], x.overs[ch], false, true⟩) ∧
    (∀ (i : Nat) (ch : Fin 4), i + 1 < distanceOf r x s →
      u.channels[ch][coeffIndex (last + BitVec.ofNat 16 (i + 1))] =
        { w.channels[ch][coeffIndex last] with filled := true, occupied := true }) ∧
    ∀ (ch : Fin 4) (k : Fin 32), k ≠ coeffIndex x.number →
      (∀ i : Nat, i + 1 < distanceOf r x s → k ≠ coeffIndex (last + BitVec.ofNat 16 (i + 1))) →
      u.channels[ch][k] = w.channels[ch][k] := by
  have number := number_eq (r := r) (s := s) x
  refine ⟨fun ch => (store_slot ..).trans (if_pos rfl), fun i ch within => ?_, fun ch k apart unfilled => ?_⟩
  · have differs : coeffIndex ((s.stream r).lastSample + BitVec.ofNat 16 (i + 1)) ≠ coeffIndex x.number := by
      rw [number]
      exact coeffIndex_add_ne _ within (by omega)
    have filled := (filledWindow_slot (repeatedSample r s) (n := distanceOf r x s - 1) (by omega)
      (s.pheStream r).window ch).1 i (by omega)
    rw [store_slot, if_neg differs, ← repeatedSample_slot]
    exact filled
  · rw [store_slot, if_neg apart]
    exact (filledWindow_slot (repeatedSample r s) (by omega) (s.pheStream r).window ch).2 k
      fun i within => unfilled i (by omega)

end

/-- Settles O18, by the fold over the missing numbers. -/
theorem gapsAreBridged : Obligations.GapsAreBridged := by
  intro f r x s arrives delivering low high
  have taken := effect_sample arrives
  rw [takeSample_gap delivering low high, bridgeGap_eq] at taken
  have window : ((hand r x false .patched ((bridged r s (distanceOf r x s - 1)).setStream r
      ((s.stream r).acrossGap x))).pheStream r).window =
      (filledWindow (repeatedSample r s) (distanceOf r x s - 1) (s.pheStream r).window).store x false := by
    rw [hand_pheStream_own, update_window, State.pheStream_setStream, bridged_window]
  obtain ⟨own, filled, kept⟩ := gap_slots (r := r) (s := s) (x := x) low high
  refine ⟨bridged r s, _, taken, ?_, rfl, fun i _ => ?_, hand_handedOn rfl, ?_, ?_, ?_, ?_⟩
  · refine (((bridged_work _).trans (.setStream _ _ _)).trans (hand_work _ _ _ _ _)).streamOnly fun k other => ?_
    obtain ⟨stream, phe⟩ := hand_others (x := x) (filled := false) (st := .patched)
      (s := (bridged r s (distanceOf r x s - 1)).setStream r ((s.stream r).acrossGap x)) other
    rw [stream, phe, State.stream_setStream, if_neg other.symm, bridged_stream, if_neg other.symm,
      State.pheStream_setStream, bridged_pheStream_other _ other]
    exact ⟨rfl, rfl⟩
  · rw [bridged, bridged, fillGap_succ]
    exact hand_handedOn rfl
  · rw [hand_stream, State.stream_setStream, if_pos rfl]
    rfl
  all_goals rw [window]
  · exact own
  · exact filled
  · exact kept

end Sys2Proof.Machine
end

section
/-! PROOFS. The obligations on one evaluation of a feeder's elements and on its trip (R38, R39, R50, R56 to R59). -/

namespace Sys2Proof.Machine

/-! ## One evaluation (R38, R39, R50) -/

theorem findRestraint_iff (p : Nat) (r : CycleResult) : findRestraint p r = true ↔
    p ≠ 0 ∧ ∃ i2, r.second = some i2 ∧ ∃ i : Fin 3, 64 ≤ r.channels[i.castSucc].magnitude ∧
      p * r.channels[i.castSucc].magnitude ≤ 100 * i2[i].magnitude := by
  unfold findRestraint
  cases r.second with
  | none => simp
  | some i2 =>
    simp only [Bool.and_eq_true, bne_iff_ne, Bool.or_eq_true, phaseRestrains, decide_eq_true_eq, Fin.exists_fin_succ]
    simp [or_assoc]

section
variable {f : Slot} {h : HandOver} {s : State}

/-- The state in which the elements are evaluated: a pending group applied at a cycle completion (R74). -/
def groupApplied (f : Slot) (h : HandOver) (s : State) : State :=
  match h.result with
  | none => s
  | some _ => applyPending h.sampleNo f s

/-- The element state record from which the evaluation begins: the elements turned on are cleared (R39). -/
def begunElement (f : Slot) (h : HandOver) (gr : GroupRecord) (s : State) : ElementState :=
  match h.result, s.activeGroup f with
  | some _, some a => ((groupApplied f h s).element f).turnedOn (s.group f a) gr
  | _, _ => (groupApplied f h s).element f

theorem evaluate_resting (rests : s.acting f = false) : evaluate f h s = s := if_neg (by simp [rests])

theorem groupApplied_midCycle (none : h.result = none) : groupApplied f h s = s := by rw [groupApplied, none]

theorem groupApplied_completed {r : CycleResult} (some : h.result = some r) :
    groupApplied f h s = applyPending h.sampleNo f s := by rw [groupApplied, some]

theorem applyAtCompletion_completed {r : CycleResult} (some : h.result = some r) :
    applyAtCompletion f h s = clearTurnedOn f (s.activeGroup f) (groupApplied f h s) := by
  rw [applyAtCompletion, some, groupApplied_completed some]

theorem applyAtCompletion_activeGroup :
    (applyAtCompletion f h s).activeGroup f = (groupApplied f h s).activeGroup f := by
  cases result : h.result with
  | none => rw [applyAtCompletion, result, groupApplied_midCycle result]
  | some r => rw [applyAtCompletion_completed result, clearTurnedOn_activeGroup]

theorem groupApplied_group (g : GroupNo) : (groupApplied f h s).group f g = s.group f g := by
  cases result : h.result with
  | none => rw [groupApplied_midCycle result]
  | some r =>
    rw [groupApplied_completed result, State.group, (applyPending_work h.sampleNo f s).groups]
    rfl

theorem applyAtCompletion_inactive (none : (groupApplied f h s).activeGroup f = none) :
    applyAtCompletion f h s = groupApplied f h s := by
  cases result : h.result with
  | none => rw [applyAtCompletion, result, groupApplied_midCycle result]
  | some r =>
    rw [applyAtCompletion_completed result]
    unfold clearTurnedOn
    rw [none]
    cases s.activeGroup f <;> rfl

/-- The elements change in the record of feeder `f` alone at a cycle completion (R39). -/
theorem setElement_applyAtCompletion {g : GroupNo} (active : (groupApplied f h s).activeGroup f = some g)
    (x : ElementState → ElementState) :
    (applyAtCompletion f h s).setElement f (x ((applyAtCompletion f h s).element f)) =
      (groupApplied f h s).setElement f (x (begunElement f h (s.group f g) s)) := by
  cases result : h.result with
  | none => simp only [applyAtCompletion, begunElement, result, groupApplied_midCycle result]
  | some r =>
    rw [applyAtCompletion_completed result, begunElement, result]
    unfold clearTurnedOn
    rw [active]
    cases left : s.activeGroup f with
    | none => rfl
    | some a =>
      simp only [groupApplied_group, State.element_setElement, if_true]
      simp [State.setElement, upd]

theorem evaluate_inactive (acts : s.acting f = true) (none : (groupApplied f h s).activeGroup f = none) :
    evaluate f h s = groupApplied f h s := by
  have inactive : (applyAtCompletion f h s).activeGroup f = Option.none := applyAtCompletion_activeGroup.trans none
  rw [evaluate, if_pos acts]
  dsimp only
  rw [inactive]
  exact applyAtCompletion_inactive none

theorem evaluate_active {g : GroupNo} (acts : s.acting f = true)
    (active : (groupApplied f h s).activeGroup f = some g) : evaluate f h s =
      decideFeederTrip f g (s.group f g) h ((groupApplied f h s).setElement f
        (evalElements (groupApplied f h s).gst.curves (s.group f g) h (begunElement f h (s.group f g) s))) := by
  have work := applyAtCompletion_work f h s
  have applied : (groupApplied f h s).gst.curves = s.gst.curves := by
    cases result : h.result with
    | none => rw [groupApplied_midCycle result]
    | some r =>
      rw [groupApplied_completed result]
      exact (applyPending_work h.sampleNo f s).curves
  have group : (applyAtCompletion f h s).group f g = s.group f g := by
    rw [State.group, work.groups]
    rfl
  rw [evaluate, if_pos acts]
  dsimp only
  rw [applyAtCompletion_activeGroup, active]
  dsimp only
  rw [group, work.curves, applied, setElement_applyAtCompletion active (evalElements s.gst.curves (s.group f g) h)]

theorem begunElement_kept {gr : GroupRecord} (still : h.result = none ∨ s.activeGroup f = none) :
    begunElement f h gr s = (groupApplied f h s).element f := by
  unfold begunElement
  rcases still with none | none <;> rw [none]
  cases h.result <;> rfl

theorem begunElement_cleared {gr : GroupRecord} {r : CycleResult} {a : GroupNo} (result : h.result = some r)
    (left : s.activeGroup f = some a) :
    BegunCleared (s.group f a) gr ((groupApplied f h s).element f) (begunElement f h gr s) := by
  rw [begunCleared_iff, begunElement, result, left]

section
variable {curves : Vector Curve 8} {gr : GroupRecord} {e : ElementState}

theorem evalElements_highSets :
    (evalElements curves gr h e).phHs = evalDefinite gr.phHs (phaseQuantity h.present) e.phHs ∧
      (evalElements curves gr h e).efHs = evalDefinite gr.efHs (earthQuantity h.present) e.efHs := by
  unfold evalElements
  split <;> exact ⟨rfl, rfl⟩

theorem evalElements_midCycle (none : h.result = none) :
    (evalElements curves gr h e).phIt = e.phIt ∧ (evalElements curves gr h e).efIt = e.efIt ∧
      (evalElements curves gr h e).sef = e.sef ∧ (evalElements curves gr h e).restraint = e.restraint := by
  rw [evalElements, none]
  exact ⟨rfl, rfl, rfl, rfl⟩

theorem evalElements_completed {r : CycleResult} (result : h.result = some r) :
    evalElements curves gr h e = evalCycle curves gr h.present r (evalHighSets gr h.present e) := by
  rw [evalElements, result]

end

end

/-- Settles O26, by whether the hand-over completes a cycle. -/
theorem evaluationsRunTheElements : Obligations.EvaluationsRunTheElements := by
  intro f h s
  refine ⟨evaluate_resting, evaluate_inactive, fun g acts active => ?_⟩
  have evaluated := evaluate_active acts active
  rw [← groupApplied_group (f := f) (h := h) (s := s) g] at evaluated
  obtain ⟨phHs, efHs⟩ := evalElements_highSets (curves := (groupApplied f h s).gst.curves)
    (gr := (groupApplied f h s).group f g) (h := h) (e := begunElement f h ((groupApplied f h s).group f g) s)
  refine ⟨begunElement f h ((groupApplied f h s).group f g) s, evalElements (groupApplied f h s).gst.curves
    ((groupApplied f h s).group f g) h (begunElement f h ((groupApplied f h s).group f g) s), evaluated,
    begunElement_kept, fun r a => begunElement_cleared, phHs, efHs, evalElements_midCycle, fun r result => ?_⟩
  rw [evalElements_completed result]
  exact ⟨rfl, rfl, rfl, findRestraint_iff _ r⟩

/-! ## The trip (R56 to R59) -/

theorem ElementSet.nonempty_iff (t : ElementSet) : t.nonempty = true ↔ t ≠ ElementSet.empty := by
  obtain ⟨a, b, c, d, e⟩ := t
  simp only [ElementSet.nonempty, ElementSet.empty, Bool.or_eq_true, ne_eq, ElementSet.mk.injEq]
  cases a <;> simp
  cases b <;> simp
  cases c <;> simp
  cases d <;> simp

/-- A report of a protection trip's OPEN that no block acts on outside a hunt (R92, R109, R125). -/
def OrderReport.Passing (p : OrderReport) : Prop :=
  p.SilentAnswer ∨ p.happened = .superseded ∨ p.happened = .failed ∧ p.number = none

theorem efsReport_superseded {p : OrderReport} {s : State} (happened : p.happened = .superseded)
    (quiet : s.efs.record.state ≠ .hunting) : efsReport p s = s := by
  unfold efsReport
  split
  · split
    · unfold identifiedReport
      simp [happened]
    · next hunting => exact absurd hunting quiet
    · unfold busTripReport
      simp [happened]
    · rfl
  · rfl

theorem efsReport_unnumbered {p : OrderReport} {s : State} (none : p.number = none) : efsReport p s = s :=
  if_neg (by simp [none])

theorem deliver_passing {p : OrderReport} {s : State} (passing : p.Passing)
    (quiet : s.efs.record.state ≠ .hunting) : deliver p s = s := by
  rcases passing with ⟨answer, origin⟩ | superseded | ⟨failed, none⟩
  · exact deliver_answer p s answer origin
  · rw [deliver, rcsReport_passed_over (.inl superseded), efsReport_superseded superseded quiet]
  · have rcs : rcsReport p s = s := by
      unfold rcsReport
      split
      · simp only [failed]
        exact rcsFailed_unnumbered p s none
      · rfl
    rw [deliver, rcs, efsReport_unnumbered none]

theorem deliverAll_passing {ps : List OrderReport} {s : State} (passing : ∀ p ∈ ps, p.Passing)
    (quiet : s.efs.record.state ≠ .hunting) : deliverAll ps s = s := by
  unfold deliverAll
  induction ps with
  | nil => rfl
  | cons p ps ih =>
    rw [List.foldl_cons, deliver_passing (passing p List.mem_cons_self) quiet]
    exact ih fun x h => passing x (List.mem_cons_of_mem _ h)

section
variable {f : Slot} {s : State}

theorem askOrder_protection_passing (f : Slot) (s : State) :
    ∀ p ∈ (askOrder .open .protection f s).reports, p.Passing := by
  have silent (ps : List OrderReport) (h : ∀ p ∈ ps, p.SilentAnswer) : ∀ p ∈ ps, p.Passing :=
    fun p mem => .inl (h p mem)
  rcases eq_or_ne (s.switchAddress f) 0 with none | unit
  · rw [askOrder_noSwitch (by simp) none]
    simp [refuseNoSwitch, OrderReport.Passing, OrderReport.SilentAnswer]
  · have passes : Passes .protection f s := passes_automatic (by decide) unit
    by_cases idle : (s.order f).state = .idle
    · rw [askOrder_open_idle passes idle]
      exact silent _ (take_silent (by decide))
    · cases kind : (s.order f).kind with
      | close =>
        rw [askOrder_open_superseding passes idle kind]
        simp [OrderReport.Passing, OrderReport.SilentAnswer]
      | _ =>
        rw [askOrder_open_merging passes idle kind]
        simp [OrderReport.Passing, OrderReport.SilentAnswer]

/-- Outside a hunt a protection OPEN is ORU's taking alone. -/
theorem ask_protection_quiet (quiet : s.efs.record.state ≠ .hunting) :
    (ask .open .protection f s).2 = (askOrder .open .protection f s).state := by
  have efs := (askOrder_rcs_efs .open .protection f s).2
  exact deliverAll_passing (askOrder_protection_passing f s) (by rwa [efs])

/-- The order record after a protection OPEN (R90 to R93). -/
theorem askOrder_protection_taken (unit : s.switchAddress f ≠ 0)
    (free : (s.order f).state = .idle ∨ (s.order f).kind = .close) :
    (askOrder .open .protection f s).state.order f = requested .open .protection (fresh s f) := by
  have passes : Passes .protection f s := passes_automatic (by decide) unit
  by_cases idle : (s.order f).state = .idle
  · rw [askOrder_open_idle passes idle, take_eq]
    exact withRequest_order
  · rw [askOrder_open_superseding passes idle (free.resolve_left idle)]
    exact withRequest_order

theorem askOrder_protection_merged (unit : s.switchAddress f ≠ 0) (flight : (s.order f).state ≠ .idle)
    (kind : (s.order f).kind = .open) : (askOrder .open .protection f s).state.order f =
      { s.order f with joined := if (s.order f).origin = .protection then (s.order f).joined
        else { (s.order f).joined with protection := true } } := by
  rw [askOrder_open_merging (passes_automatic (by decide) unit) flight kind]
  dsimp only
  rw [State.order_setOrder, if_pos rfl, joinOrigin]
  simp only [eq_comm (a := Origin.protection)]
  rfl

theorem askOrder_protection_noSwitch (none : s.switchAddress f = 0) :
    (askOrder .open .protection f s).state = raise (some f) Option.none
      (.orderFail .open .protection .empty Option.none (s.switch f).failCount (s.switch f).health) s := by
  rw [askOrder_noSwitch (by simp) none]
  rfl

/-- A hunt under way aborts at a trip (R142). -/
theorem orderTrip_aborts (i : Bool) (under : HuntUnderWay (tripReport i f (ask .open .protection f s).2)) :
    HuntAborted .protection (tripReport i f (ask .open .protection f s).2) (orderTrip i f s) := by
  have trips : orderTrip i f s = abortHunt .protection (tripReport i f (ask .open .protection f s).2) := rfl
  rw [trips]
  exact abortHunt_aborted .protection _ under

/-- What steps 3 to 5 of R57 are outside a hunt. -/
theorem orderTrip_quiet (i : Bool) (quiet : s.efs.record.state ≠ .hunting) :
    orderTrip i f s = tripReport i f (askOrder .open .protection f s).state := by
  have efs : (tripReport i f (askOrder .open .protection f s).state).efs = s.efs := by
    rw [(tripReport_work _ _ _).efs, (askOrder_rcs_efs .open .protection f s).2]
  rw [orderTrip, ask_protection_quiet quiet]
  exact abortHunt_not_underWay _ _ fun under => quiet (efs ▸ under.2.1)

theorem orderTrip_own (i : Bool) (quiet : s.efs.record.state ≠ .hunting) : OwnFeeder f s (orderTrip i f s) := by
  rw [orderTrip_quiet i quiet]
  exact (askOrder_own .open .protection f s).trans (tripReport_own i f _)

theorem orderTrip_order (i : Bool) (quiet : s.efs.record.state ≠ .hunting) :
    (orderTrip i f s).order f = (askOrder .open .protection f s).state.order f := by
  rw [orderTrip_quiet i quiet, (tripReport_work _ _ _).order_eq]

/-- A trip without an order in flight ends the sequence (R107). -/
theorem tripReport_idle {i : Bool} (acts : s.acting f = true)
    (state : (s.seq f).state = .ready ∨ (s.seq f).state = .reclaim ∨ (s.seq f).state = .closing)
    (idle : (s.order f).state = .idle) : (tripReport i f s).seq f = lockedOut .order (s.seq f) := by
  have live : (s.seq f).state ≠ .lockout := by rcases state with h | h | h <;> simp [h]
  rw [tripReport_decides acts state, decideTrip_noOrder live fun h => h.1 idle]
  exact seq_setSeq_eq s f _

/-- A trip of a feeder without a switch unit: no order, ORDER_FAIL, and the sequence ends (R90, R107). -/
theorem orderTrip_noSwitch (i : Bool) (quiet : s.efs.record.state ≠ .hunting) (none : s.switchAddress f = 0) :
    (orderTrip i f s).order f = s.order f ∧ (orderTrip i f s).switch f = s.switch f ∧
      ⟨some f, s.tod, Option.none, .orderFail .open .protection ⟨false, false, false, false⟩ Option.none
        (s.switch f).failCount (s.switch f).health⟩ ∈ (orderTrip i f s).raised ∧
      (s.acting f = true → (s.seq f).state = .ready ∨ (s.seq f).state = .reclaim ∨ (s.seq f).state = .closing →
        (s.order f).state = .idle → (orderTrip i f s).seq f = lockedOut .order (s.seq f)) := by
  rw [orderTrip_quiet i quiet, askOrder_protection_noSwitch none]
  have work := tripReport_work i f (raise (some f) Option.none
    (.orderFail .open .protection .empty Option.none (s.switch f).failCount (s.switch f).health) s)
  refine ⟨work.order_eq f, work.switch_eq f,
    work.raised.subset (List.mem_append_right _ (List.mem_singleton_self _)), fun acts state idle => ?_⟩
  exact tripReport_idle (s := raise (some f) Option.none _ s) acts state idle

end

/-- The state of a trip before its order: the acted flags, the trip record and TRIP (R56 to R58). -/
def tripWritten (f : Slot) (g : GroupNo) (gr : GroupRecord) (t : ElementSet) (h : HandOver) (s : State) : State :=
  raise (some f) (some h.sampleNo)
    (.trip t g (s.seq f).state (s.seq f).shot (t.inter gr.initiate).nonempty
      ((s.switch f).position == .opened))
    ((s.setElement f ((s.element f).act t)).setTrip f (tripRecordOf s f g gr t h))

theorem decideFeederTrip_none {f : Slot} {g : GroupNo} {gr : GroupRecord} {h : HandOver} {s : State}
    (none : trippingSet (liveSet gr (s.seq f).state (s.seq f).shot) (s.element f) = ElementSet.empty) :
    decideFeederTrip f g gr h s = s := by
  rw [decideFeederTrip]
  rw [none]
  rfl

theorem decideFeederTrip_some {f : Slot} {g : GroupNo} {gr : GroupRecord} {h : HandOver} {s : State} {t : ElementSet}
    (tripping : trippingSet (liveSet gr (s.seq f).state (s.seq f).shot) (s.element f) = t)
    (some : t ≠ ElementSet.empty) : decideFeederTrip f g gr h s =
      if (s.switch f).position = .opened then tripWritten f g gr t h s
      else orderTrip (t.inter gr.initiate).nonempty f (tripWritten f g gr t h s) := by
  rw [decideFeederTrip]
  rw [tripping, if_pos ((ElementSet.nonempty_iff t).2 some), tripFeeder]
  by_cases opened : (s.switch f).position = .opened
  · rw [if_pos opened]
    exact if_pos (by simp [tripRecordOf, opened])
  · rw [if_neg opened]
    exact if_neg (by simp [tripRecordOf, opened])

/-- Settles O27, by whether the switch is open and whether a hunt is under way. -/
theorem operatedLiveElementsTrip : Obligations.OperatedLiveElementsTrip := by
  intro f g gr h s
  dsimp only
  refine ⟨decideFeederTrip_none, fun tripping => ?_⟩
  have decided := decideFeederTrip_some (g := g) (h := h) rfl tripping
  generalize trip : trippingSet (liveSet gr (s.seq f).state (s.seq f).shot) (s.element f) = t at decided
  rw [trippingSet] at trip
  rw [trip]
  have aborts := orderTrip_aborts (f := f) (s := tripWritten f g gr t h s) (t.inter gr.initiate).nonempty
  have still := abortHunt_not_underWay .protection
    (tripReport (t.inter gr.initiate).nonempty f (ask .open .protection f (tripWritten f g gr t h s)).2)
  have work := orderTrip_work (t.inter gr.initiate).nonempty f (tripWritten f g gr t h s)
  refine ⟨tripRecordOf s f g gr t h, tripWritten f g gr t h s, rfl, fun ch => ⟨mapV_get _ _ ch, mapV_get _ _ ch⟩,
    rfl, fun isOpen => decided.trans (if_pos isOpen), fun closed => ?_⟩
  rw [decided, if_neg closed]
  refine ⟨aborts, still, work.elu, work.raised, fun quiet => ?_⟩
  have own := orderTrip_own (f := f) (s := tripWritten f g gr t h s) (t.inter gr.initiate).nonempty quiet
  have order := orderTrip_order (f := f) (s := tripWritten f g gr t h s) (t.inter gr.initiate).nonempty quiet
  have noSwitch := orderTrip_noSwitch (f := f) (s := tripWritten f g gr t h s) (t.inter gr.initiate).nonempty quiet
  exact ⟨own.only, own.efs, fun unit free => order.trans (askOrder_protection_taken unit free),
    fun unit flight kind => order.trans (askOrder_protection_merged unit flight kind), noSwitch⟩

end Sys2Proof.Machine
end

section
/-! PROOFS. The obligations on votes and on the detection of an earth fault (R127 to R131), and the newest VN that
every completion leaves. -/

namespace Sys2Proof.Machine

/-! ## Votes (R129, R148) -/

/-- A pair of cycle `c` may be formed for feeder `f` (R129). -/
def Pairable (s : State) (f : Slot) (c : CycleNo) : Prop :=
  ∃ w, s.efs.record.windowFirst = some w ∧ (c - w).toNat < s.efs.settings.windowCycles ∧
    ∀ p, s.efs.record.lastPaired[f] = some p → (p - w).toNat < (c - w).toNat

theorem pairable_iff (s : State) (f : Slot) (c : CycleNo) : pairable s f c = true ↔ Pairable s f c := by
  unfold pairable Pairable
  cases s.efs.record.windowFirst with
  | none => simp
  | some w => cases s.efs.record.lastPaired[f] <;> simp

/-- The vote of a pair is withheld (R129). -/
def Withheld (s : State) (f : Slot) (a b : CycleResult) : Prop :=
  a.patched = true ∨ b.patched = true ∨
    (∃ ch : Fin 4, a.channels[ch].overrange = true ∨ b.channels[ch].overrange = true) ∨
    (s.switch f).position ≠ .closed ∨ (s.feeder f).inService = false

theorem anyOverrange_iff (r : CycleResult) : r.anyOverrange = true ↔ ∃ ch : Fin 4, r.channels[ch].overrange = true := by
  rw [CycleResult.anyOverrange, List.any_eq_true]
  refine ⟨fun ⟨x, mem, beyond⟩ => ?_, fun ⟨ch, beyond⟩ => ⟨r.channels[ch], ?_, beyond⟩⟩
  · obtain ⟨i, within, rfl⟩ := List.getElem_of_mem mem
    exact ⟨⟨i, by simpa using within⟩, by simpa using beyond⟩
  · simp

theorem voteWithheld_iff (s : State) (f : Slot) (a b : CycleResult) :
    voteWithheld s f a b = true ↔ Withheld s f a b := by
  simp only [voteWithheld, Bool.or_eq_true, anyOverrange_iff, bne_iff_ne, Bool.not_eq_true', Withheld, exists_or]
  tauto

section
variable {f : Slot} {a b : CycleResult} {s : State}

theorem formPair_none (unpairable : ¬ Pairable s f a.cycle) : formPair f a b s = s :=
  if_neg (mt (pairable_iff s f a.cycle).1 unpairable)

theorem formPair_withheld (pairs : Pairable s f a.cycle)
    (withheld : Withheld s f a b ∨ -(s.efs.settings.wSet : Int) < residualPower a b) :
    formPair f a b s = s.setEfs { s.efs.record with
      lastPaired := upd s.efs.record.lastPaired f (some a.cycle) } := by
  have earns : ¬ earnsVote s f a b = true := by
    rw [earnsVote, Bool.and_eq_true, decide_eq_true_eq, Bool.not_eq_true', Bool.eq_false_iff, ne_eq,
      voteWithheld_iff]
    rintro ⟨free, low⟩
    rcases withheld with withheld | high
    · exact free withheld
    · omega
  rw [formPair, if_pos ((pairable_iff s f a.cycle).2 pairs), if_neg earns]

theorem formPair_votes (pairs : Pairable s f a.cycle) (free : ¬ Withheld s f a b)
    (low : residualPower a b ≤ -(s.efs.settings.wSet : Int)) :
    formPair f a b s = s.setEfs { s.efs.record with
      lastPaired := upd s.efs.record.lastPaired f (some a.cycle)
      votes := upd s.efs.record.votes f (min 250 (s.efs.record.votes[f] + 1)) } := by
  have earns : earnsVote s f a b = true := by
    rw [earnsVote, Bool.and_eq_true, decide_eq_true_eq, Bool.not_eq_true', Bool.eq_false_iff, ne_eq,
      voteWithheld_iff]
    exact ⟨free, low⟩
  rw [formPair, if_pos ((pairable_iff s f a.cycle).2 pairs), if_pos earns]

end

/-- Settles O39, by the checks of R129 in order. -/
theorem pairsEarnVotes : Obligations.PairsEarnVotes := by
  refine ⟨fun f a s => ?_, fun f a b s => ⟨formPair_none, formPair_withheld, formPair_votes⟩⟩
  refine ⟨fun h => ?_, fun b ⟨serves, state, delivers⟩ found => ?_⟩
  · unfold efsFeederResult
    split
    · next takes =>
      obtain ⟨serves, state, delivers⟩ := takes
      have none := h.resolve_left fun h => h ⟨serves, state, (delivers_iff _ s).1 delivers⟩
      rw [lookupResult, none]
    · rfl
  · rw [efsFeederResult, if_pos ⟨serves, state, (delivers_iff _ s).2 delivers⟩, lookupResult, found]

/-! ## The newest VN (R127) -/

/-- The newest VN magnitude and the VN dropped flag. -/
def newestVn (s : State) : Nat × Bool := (s.efs.record.newestVn, s.efs.record.vnDropped)

/-- The newest VN stays. -/
structure VnKept (s t : State) : Prop where
  same : newestVn t = newestVn s

namespace VnKept

theorem refl (s : State) : VnKept s s := ⟨rfl⟩

theorem trans {s t u : State} (a : VnKept s t) (b : VnKept t u) : VnKept s u := ⟨b.same.trans a.same⟩

theorem ite {c : Prop} [Decidable c] {s t u : State} (a : VnKept s t) (b : VnKept s u) :
    VnKept s (if c then t else u) := by
  split <;> assumption

theorem of_rcs {s t : State} (a : RcsWork s t) : VnKept s t := by
  refine ⟨?_⟩
  rw [newestVn, a.efs]
  rfl

theorem ask (k : OrderKind) (f : Slot) (s : State) : VnKept s (efsAsk k f s).2 := by
  refine ⟨?_⟩
  rw [newestVn, efsAsk_efs]
  rfl

theorem setHunt (x : HuntRecord) (s : State) : VnKept s (s.setHunt x) := ⟨rfl⟩

theorem setEfs {x : EfsRecord} {s : State} (vn : x.newestVn = s.efs.record.newestVn)
    (dropped : x.vnDropped = s.efs.record.vnDropped) : VnKept s (s.setEfs x) := ⟨Prod.ext vn dropped⟩

theorem raise (o : Option Slot) (n : Option SampleNo) (b : NoticeBody) (s : State) :
    VnKept s (Machine.raise o n b s) := ⟨rfl⟩

end VnKept

theorem enterState_vn (x : EfsState) (s : State) : VnKept s (enterState x s) := ⟨rfl⟩

theorem writeOutcome_vn (o : EarthOutcome) (k : Option Slot) (s : State) : VnKept s (writeOutcome o k s) := ⟨rfl⟩

theorem endEpisode_vn (o : EarthOutcome) (k : Option Slot) (s : State) : VnKept s (endEpisode o k s) := ⟨rfl⟩

theorem addReason_vn (r : Reason) (f : Slot) (s : State) : VnKept s (addReason r f s) := .of_rcs (addReason_work r f s)

theorem removeReason_vn (r : Reason) (f : Slot) (s : State) : VnKept s (removeReason r f s) :=
  .of_rcs (removeReason_work r f s)

theorem leftOpen_vn (f : Slot) (s : State) : VnKept s (demandLockout f (addReason .earth f s)) :=
  (addReason_vn _ f s).trans (.of_rcs (demandLockout_work f _))

theorem busTripFeeder_vn (a : State × SlotSet) (f : Slot) : VnKept a.1 (busTripFeeder a f).1 := by
  have asked := (addReason_vn .earth f a.1).trans (.ask .open f _)
  unfold busTripFeeder
  dsimp only
  split
  · split
    · exact asked.trans (.setEfs rfl rfl)
    · exact asked.trans (.setEfs rfl rfl)
    · exact asked
  · exact .refl _

theorem busTrip_vn (s : State) : VnKept s (busTrip s) := by
  have feeders (l : List Slot) (a : State × SlotSet) : VnKept a.1 (l.foldl busTripFeeder a).1 := by
    induction l generalizing a with
    | nil => exact .refl _
    | cons f l ih => exact (busTripFeeder_vn a f).trans (ih _)
  exact ((feeders allSlots (s, SlotSet.empty)).trans (.raise _ _ _ _)).trans (enterState_vn _ _)

theorem persistent_vn (s : State) : VnKept s (writeOutcome .persistent none (enterState .persistent s)) :=
  (enterState_vn .persistent s).trans (writeOutcome_vn _ _ _)

theorem huntExhausted_vn (s : State) : VnKept s (huntExhausted s) := by
  unfold huntExhausted
  dsimp only
  split
  · exact (persistent_vn s).trans (busTrip_vn _)
  · exact persistent_vn s

theorem beginStep_vn (f : Slot) (s : State) : VnKept s (beginStep f s) :=
  ((VnKept.setHunt _ s).trans (addReason_vn .hunt f _)).trans (.raise _ _ _ _)

theorem nextIndex_vn (s : State) : VnKept s (nextIndex s) := .setHunt _ s

theorem stepEnded_vn (f : Slot) (s : State) : VnKept s (nextIndex (clearStep (removeReason .hunt f s))) :=
  ((removeReason_vn .hunt f s).trans (.setHunt _ _)).trans (nextIndex_vn _)

theorem startSteps_vn (n : Nat) (s : State) : VnKept s (startSteps n s) := by
  induction n generalizing s with
  | zero => exact .refl s
  | succ n ih =>
    unfold startSteps
    split
    · exact huntExhausted_vn s
    · next f _ =>
      have asked := (beginStep_vn f s).trans (.ask .open f _)
      split
      · exact ((VnKept.raise _ _ _ s).trans (nextIndex_vn _)).trans (ih _)
      · dsimp only
        split
        · exact asked.trans (.setHunt _ _)
        · exact asked.trans (.setHunt _ _)
        · exact (asked.trans (stepEnded_vn f _)).trans (ih _)

theorem endStep_vn (f : Slot) (s : State) : VnKept s (endStep f s) :=
  (stepEnded_vn f s).trans (startSteps_vn _ _)

theorem startHunt_vn (o : HuntOrigin) (s : State) : VnKept s (startHunt o s) := by
  have begun (x : HuntRecord) (b : Due) : VnKept s (enterState .hunting { s.setHunt x with due := b }) := ⟨rfl⟩
  exact (begun _ _).trans (startSteps_vn _ _)

theorem decide131_vn (s : State) : VnKept s (decide131 s) := by
  unfold decide131
  exact .ite (busTrip_vn s) (.ite (startHunt_vn .auto s) (enterState_vn _ s))

theorem abortEnd_vn (s : State) : VnKept s (abortEnd s) := by
  have written (k : Option Slot) : VnKept s (clearStep (writeOutcome .aborted k s)) :=
    (writeOutcome_vn .aborted k s).trans (.setHunt _ _)
  unfold abortEnd
  exact (written _).trans (.ite (busTrip_vn _) (.ite (enterState_vn _ _) (.ite (busTrip_vn _)
    (.ite ((enterState_vn _ _).trans (.setEfs rfl rfl)) (enterState_vn _ _)))))

theorem restoreFailed_vn (f : Slot) (s : State) : VnKept s (restoreFailed f s) := by
  have demanded : VnKept s (demandLockout f s) := .of_rcs (demandLockout_work f s)
  unfold restoreFailed
  exact .ite (demanded.trans (endStep_vn f _)) ((demanded.trans (removeReason_vn .hunt f _)).trans (abortEnd_vn _))

theorem askRestore_vn (f : Slot) (s : State) : VnKept s (askRestore f s) := by
  have asked (x : HuntRecord) : VnKept s (efsAsk .close f (s.setHunt x)).2 :=
    (VnKept.setHunt x s).trans (.ask .close f _)
  unfold askRestore
  dsimp only
  split
  · exact (asked _).trans (.setHunt _ _)
  · exact (asked _).trans (.setHunt _ _)
  · exact (asked _).trans (restoreFailed_vn f _)

theorem displacementPersists_vn (f : Slot) (s : State) : VnKept s (displacementPersists f s) := by
  have reopened (t : State) : VnKept t (reopen f t) := by
    unfold reopen
    exact .ite (.ask .open f t) (.refl t)
  have left := (leftOpen_vn f s).trans (reopened _)
  unfold displacementPersists
  dsimp only
  generalize reopen f (demandLockout f (addReason .earth f s)) = t at left ⊢
  refine VnKept.trans ?_ (decide131_vn _)
  exact left.trans (.setEfs rfl rfl)

theorem tripIdentified_vn (f : Slot) (s : State) : VnKept s (tripIdentified f s) := by
  have marked (x : Bool) : VnKept s (s.setEfs { s.efs.record with recloseMark := x }) := ⟨rfl⟩
  have earthed (t : State) : VnKept t (if t.feederMode f = .normal then t else addReason .earth f t) :=
    .ite (.refl t) (addReason_vn .earth f t)
  have begun := (marked (recloseMarkOf s f)).trans (earthed _)
  unfold tripIdentified
  dsimp only at begun ⊢
  generalize (if (s.setEfs _).feederMode f = .normal then _ else _) = u at begun ⊢
  refine .ite (begun.trans (.setEfs rfl rfl)) (VnKept.trans ?_ (.of_rcs (tripReport_work _ f _)))
  have asked := begun.trans (.ask .open f u)
  split
  · exact asked.trans (.setEfs rfl rfl)
  · exact asked.trans (.setEfs rfl rfl)
  · exact asked.trans (displacementPersists_vn f _)

theorem formPair_vn (f : Slot) (a b : CycleResult) (s : State) : VnKept s (formPair f a b s) := .ite ⟨rfl⟩ (.refl s)

theorem formBusPairs_vn (b : CycleResult) (s : State) : VnKept s (formBusPairs b s) := by
  have formed (f : Slot) (t : State) : VnKept t (match lookupResult b.cycle (t.pheStream f.role).results with
      | some r => formPair f r b t
      | none => t) := by
    split
    · exact formPair_vn f _ b t
    · exact .refl t
  unfold formBusPairs
  exact .ite (forSlots_keeps (P := VnKept s) (fun f t h => h.trans (formed f t)) s (.refl s)) (.refl s)

theorem countDown_vn (s : State) : VnKept s (countDown s).2 := by
  unfold countDown
  split <;> exact ⟨rfl⟩

theorem stepCountDown_vn (s : State) : VnKept s (stepCountDown s).2 := by
  unfold stepCountDown
  split <;> exact ⟨rfl⟩

theorem windowEnd_vn (s : State) : VnKept s (windowEnd s) := by
  have ended (x : SlotSet) : VnKept s (s.setEfs { s.efs.record with candidates := x, countdown := none }) := ⟨rfl⟩
  unfold windowEnd
  dsimp only
  split
  · exact (ended _).trans (.setEfs rfl rfl)
  · exact (ended _).trans (decide131_vn _)

theorem delayCompletion_vn (f : Slot) (s : State) : VnKept s (delayCompletion f s) := by
  have counted (n : Nat) : VnKept s (s.setEfs { s.efs.record with delayCount := n }) := ⟨rfl⟩
  unfold delayCompletion
  exact .ite (endEpisode_vn _ _ s) (.ite ((counted _).trans (tripIdentified_vn f _)) (counted _))

theorem observingCompletion_vn (f : Slot) (s : State) : VnKept s (observingCompletion f s) := by
  have left : VnKept s (if s.efs.record.recloseMark = true then s else demandLockout f (addReason .earth f s)) :=
    .ite (.refl s) (leftOpen_vn f s)
  unfold observingCompletion
  exact .ite (left.trans (endEpisode_vn _ _ _))
    (.ite ((countDown_vn s).trans (displacementPersists_vn f _)) (countDown_vn s))

theorem identifiedCompletion_vn (s : State) : VnKept s (identifiedCompletion s) := by
  unfold identifiedCompletion
  split
  · exact delayCompletion_vn _ s
  · exact observingCompletion_vn _ s
  · exact .refl s

theorem huntingCompletion_vn (s : State) : VnKept s (huntingCompletion s) := by
  have ended (f : Slot) (t : State) : VnKept t (clearStep (removeReason .hunt f t)) :=
    (removeReason_vn .hunt f t).trans (.setHunt _ _)
  unfold huntingCompletion
  split
  · next f _ _ =>
    exact .ite (((leftOpen_vn f s).trans (ended f _)).trans (endEpisode_vn _ _ _))
      (.ite ((stepCountDown_vn s).trans (askRestore_vn f _)) (stepCountDown_vn s))
  · next f _ _ =>
    exact .ite ((ended f s).trans (endEpisode_vn _ _ _))
      (.ite ((stepCountDown_vn s).trans (endStep_vn f _)) (stepCountDown_vn s))
  · exact .refl s

theorem quietCompletion_vn (r : CycleResult) (s : State) : VnKept s (quietCompletion r s) := by
  unfold quietCompletion
  exact .ite ⟨rfl⟩ (.refl s)

theorem displacedCompletion_vn (r : CycleResult) (s : State) : VnKept s (displacedCompletion r s) := by
  have windowed (t : State) : VnKept t (clearVotes t) := ⟨rfl⟩
  unfold displacedCompletion
  exact .ite (endEpisode_vn _ _ s) (.ite (((countDown_vn s).trans (windowed _)).trans (.setEfs rfl rfl)) (countDown_vn s))

theorem identifyingCompletion_vn (s : State) : VnKept s (identifyingCompletion s) := by
  unfold identifyingCompletion
  exact .ite (endEpisode_vn _ _ s) (.ite ((countDown_vn s).trans (windowEnd_vn _)) (countDown_vn s))

theorem busTripCompletion_vn (s : State) : VnKept s (busTripCompletion s) := by
  unfold busTripCompletion
  exact .ite (.ite (endEpisode_vn _ _ s) (persistent_vn s)) (.refl s)

/-- In service every bus completion leaves its own VN as the newest (R127). -/
theorem efsBusCompletion_vn (r : CycleResult) (s : State) (serves : s.mgr.device = .inService) :
    newestVn (efsBusCompletion r s) =
      (r.channels[3].magnitude, isDropped r.channels[3].magnitude s.efs.settings.vNvd) := by
  have refreshed := formBusPairs_vn r (refreshVn r s)
  unfold efsBusCompletion
  rw [if_pos serves]
  dsimp only
  refine VnKept.same (s := refreshVn r s) (refreshed.trans ?_)
  generalize formBusPairs r (refreshVn r s) = t
  split
  · exact quietCompletion_vn r t
  · exact displacedCompletion_vn r t
  · exact identifyingCompletion_vn t
  · exact identifiedCompletion_vn t
  · exact .ite (endEpisode_vn _ _ t) (.refl t)
  · exact .ite (endEpisode_vn _ _ t) (.refl t)
  · exact .ite (huntingCompletion_vn t) (.refl t)
  · exact busTripCompletion_vn t

end Sys2Proof.Machine
end

section
/-! PROOFS. A bus cycle completion, state by state, and the obligation on the detection of an earth fault (R125,
R127, R128, R130, R131). -/

namespace Sys2Proof.Machine

/-! ## A completion, state by state (R127) -/

/-- What a completion does in state `x`, once VN is refreshed and the pairs are formed. -/
def completionIn (x : EfsState) (r : CycleResult) (t : State) : State :=
  match x with
  | .quiet => quietCompletion r t
  | .displaced => displacedCompletion r t
  | .identifying => identifyingCompletion t
  | .identified => identifiedCompletion t
  | .unresolved => if t.efs.record.vnDropped = true then endEpisode .unresolvedEnd none t else t
  | .persistent => if t.efs.record.vnDropped = true then endEpisode .unresolvedEnd none t else t
  | .hunting => if t.efs.hunt.abortCause = .none then huntingCompletion t else t
  | .busTrip => busTripCompletion t

section
variable {r : CycleResult} {s : State}

theorem efsBusCompletion_serving (serves : s.mgr.device = .inService) : efsBusCompletion r s =
    completionIn (formBusPairs r (refreshVn r s)).efs.record.state r (formBusPairs r (refreshVn r s)) := by
  rw [efsBusCompletion, if_pos serves]
  rfl

theorem formBusPairs_other (other : s.efs.record.state ≠ .identifying) : formBusPairs r s = s := if_neg other

/-- Outside IDENTIFYING a completion is that of its state alone. -/
theorem efsBusCompletion_other {x : EfsState} (serves : s.mgr.device = .inService) (state : s.efs.record.state = x)
    (other : x ≠ .identifying) : efsBusCompletion r s = completionIn x r (refreshVn r s) := by
  have refreshed : (refreshVn r s).efs.record.state = x := state
  rw [efsBusCompletion_serving serves, formBusPairs_other (by rwa [refreshed]), refreshed]

theorem efsBusCompletion_resting (rests : s.mgr.device = .configuring) : efsBusCompletion r s = s :=
  if_neg (by simp [rests])

/-- `s` with the VN of completion `r` (R127). -/
theorem refreshVn_eq : refreshVn r s = s.setEfs { s.efs.record with
    newestVn := r.channels[3].magnitude
    vnDropped := decide (20 * r.channels[3].magnitude < 19 * s.efs.settings.vNvd) } := rfl

theorem refreshVn_dropped : (refreshVn r s).efs.record.vnDropped = true ↔
    20 * r.channels[3].magnitude < 19 * s.efs.settings.vNvd := decide_eq_true_iff

/-- Where VN has not dropped, its flag is written low. -/
theorem refreshVn_held (held : ¬ 20 * r.channels[3].magnitude < 19 * s.efs.settings.vNvd) :
    refreshVn r s = s.setEfs { s.efs.record with newestVn := r.channels[3].magnitude, vnDropped := false } := by
  rw [refreshVn_eq, decide_eq_false held]

end

/-! ## The countdown -/

section
variable {s : State}

theorem countDown_runs {n : Nat} (runs : s.efs.record.countdown = some (n + 2)) :
    countDown s = (false, s.setEfs { s.efs.record with countdown := some (n + 1) }) := by
  simp [countDown, runs]

theorem countDown_ends (runs : s.efs.record.countdown = some 1) :
    countDown s = (true, s.setEfs { s.efs.record with countdown := some 0 }) := by
  simp [countDown, runs]

/-! ## DISPLACED and IDENTIFYING (R128, R130) -/

theorem displacedCompletion_dropped {r : CycleResult} (dropped : s.efs.record.vnDropped = true) :
    displacedCompletion r s = endEpisode .clearedSelf none s := if_pos dropped

theorem displacedCompletion_counts {r : CycleResult} {n : Nat} (held : ¬ s.efs.record.vnDropped = true)
    (runs : s.efs.record.countdown = some (n + 2)) : displacedCompletion r s =
      s.setEfs { s.efs.record with countdown := some (n + 1) } := by
  rw [displacedCompletion, if_neg held, countDown_runs runs]
  rfl

theorem displacedCompletion_confirms {r : CycleResult} (held : ¬ s.efs.record.vnDropped = true)
    (runs : s.efs.record.countdown = some 1) : displacedCompletion r s = s.setEfs { s.efs.record with
      votes := .replicate 8 0
      lastPaired := .replicate 8 none
      candidates := .empty
      windowFirst := some (r.cycle + 1)
      countdown := some s.efs.settings.windowCycles
      state := .identifying } := by
  rw [displacedCompletion, if_neg held, countDown_ends runs]
  rfl

theorem identifyingCompletion_dropped (dropped : s.efs.record.vnDropped = true) :
    identifyingCompletion s = endEpisode .clearedSelf none s := if_pos dropped

theorem identifyingCompletion_counts {n : Nat} (held : ¬ s.efs.record.vnDropped = true)
    (runs : s.efs.record.countdown = some (n + 2)) : identifyingCompletion s =
      s.setEfs { s.efs.record with countdown := some (n + 1) } := by
  rw [identifyingCompletion, if_neg held, countDown_runs runs]
  rfl

theorem candidateSet_get (f : Slot) :
    (candidateSet s)[f] = decide (s.efs.settings.voteThreshold ≤ s.efs.record.votes[f]) := mapV_get _ _ f

/-- One candidate, and no other, is a set that holds that feeder alone. -/
theorem filter_single_iff (set : SlotSet) (f : Slot) :
    allSlots.filter (fun g => set[g]) = [f] ↔ ∀ g : Slot, set[g] = decide (g = f) := by
  refine ⟨fun single g => ?_, fun only => ?_⟩
  · have mem : g ∈ allSlots.filter (fun g => set[g]) ↔ g = f := by rw [single, List.mem_singleton]
    rw [List.mem_filter, and_iff_right (mem_allSlots g)] at mem
    exact Bool.eq_iff_iff.2 (mem.trans decide_eq_true_iff.symm)
  · have same : (fun g : Slot => set[g]) = fun g => decide (g = f) := funext only
    rw [same]
    clear only same
    revert f
    decide

theorem windowEnd_single {f : Slot} (only : ∀ g : Slot, (candidateSet s)[g] = decide (g = f)) : windowEnd s =
    enterIdentified f (s.setEfs { s.efs.record with candidates := candidateSet s, countdown := none }) := by
  rw [windowEnd]
  dsimp only
  rw [(filter_single_iff _ f).2 only]

theorem windowEnd_decides (several : ∀ f : Slot, ¬ ∀ g : Slot, (candidateSet s)[g] = decide (g = f)) : windowEnd s =
    decide131 (s.setEfs { s.efs.record with candidates := candidateSet s, countdown := none }) := by
  rw [windowEnd]
  dsimp only
  split
  · next f single => exact absurd ((filter_single_iff _ f).1 single) (several f)
  · rfl

theorem identifyingCompletion_ends (held : ¬ s.efs.record.vnDropped = true)
    (runs : s.efs.record.countdown = some 1) : identifyingCompletion s =
      windowEnd (s.setEfs { s.efs.record with countdown := some 0 }) := by
  rw [identifyingCompletion, if_neg held, countDown_ends runs]
  rfl

theorem identifyingCompletion_identifies {f : Slot} (held : ¬ s.efs.record.vnDropped = true)
    (runs : s.efs.record.countdown = some 1) (only : ∀ g : Slot, (candidateSet s)[g] = decide (g = f)) :
    identifyingCompletion s = s.setEfs { s.efs.record with
      state := .identified
      candidates := candidateSet s
      identified := some f
      phase := some .delay
      delayCount := 0
      countdown := none } := by
  rw [identifyingCompletion_ends held runs]
  exact (windowEnd_single only).trans rfl

theorem identifyingCompletion_decides (held : ¬ s.efs.record.vnDropped = true)
    (runs : s.efs.record.countdown = some 1)
    (several : ∀ f : Slot, ¬ ∀ g : Slot, (candidateSet s)[g] = decide (g = f)) : identifyingCompletion s =
      decide131 (s.setEfs { s.efs.record with candidates := candidateSet s, countdown := none }) := by
  rw [identifyingCompletion_ends held runs]
  exact (windowEnd_decides several).trans rfl

end

/-! ## The pairs of a bus result (R129) -/

/-- `s` with other votes and last paired cycles. -/
def withVotes (votes : Vector Nat 8) (paired : Vector (Option CycleNo) 8) (s : State) : State :=
  s.setEfs { s.efs.record with votes := votes, lastPaired := paired }

/-- Only the votes and last paired cycles differ, and those of feeder `f` do not. -/
def OtherVotes (f : Slot) (s t : State) : Prop :=
  ∃ votes paired, t = withVotes votes paired s ∧ votes[f] = s.efs.record.votes[f] ∧
    paired[f] = s.efs.record.lastPaired[f]

theorem OtherVotes.refl (f : Slot) (s : State) : OtherVotes f s s :=
  ⟨s.efs.record.votes, s.efs.record.lastPaired, rfl, rfl, rfl⟩

theorem OtherVotes.trans {f : Slot} {s t u : State} (a : OtherVotes f s t) (b : OtherVotes f t u) : OtherVotes f s u := by
  obtain ⟨v, p, rfl, votes, paired⟩ := a
  obtain ⟨v', p', rfl, votes', paired'⟩ := b
  exact ⟨v', p', rfl, votes'.trans votes, paired'.trans paired⟩

/-- The pair of feeder `f` writes its own vote and last paired cycle. -/
theorem formPair_writes (f : Slot) (a b : CycleResult) (s : State) : ∃ v p, formPair f a b s =
    withVotes (upd s.efs.record.votes f v) (upd s.efs.record.lastPaired f p) s := by
  have self {α : Type} (x : Vector α 8) : upd x f x[f] = x := Vector.set_getElem_self ..
  by_cases pairs : pairable s f a.cycle = true
  · by_cases earns : earnsVote s f a b = true
    · refine ⟨min 250 (s.efs.record.votes[f] + 1), some a.cycle, ?_⟩
      rw [formPair, if_pos pairs, if_pos earns]
      rfl
    · refine ⟨s.efs.record.votes[f], some a.cycle, ?_⟩
      rw [formPair, if_pos pairs, if_neg earns, self]
      rfl
  · refine ⟨s.efs.record.votes[f], s.efs.record.lastPaired[f], ?_⟩
    rw [formPair, if_neg pairs, self, self]
    rfl

theorem formPair_others {f k : Slot} (distinct : k ≠ f) (a b : CycleResult) (s : State) :
    OtherVotes f s (formPair k a b s) := by
  obtain ⟨v, p, formed⟩ := formPair_writes k a b s
  exact ⟨_, _, formed, by rw [upd_get, if_neg distinct], by rw [upd_get, if_neg distinct]⟩

/-- What a feeder's own pair comes to does not depend on the other feeders' votes. -/
theorem formPair_own {f : Slot} {s t : State} (h : OtherVotes f s t) (a b : CycleResult) :
    (formPair f a b t).efs.record.votes[f] = (formPair f a b s).efs.record.votes[f] ∧
      (formPair f a b t).efs.record.lastPaired[f] = (formPair f a b s).efs.record.lastPaired[f] := by
  obtain ⟨votes, paired, rfl, vote, last⟩ := h
  have pairs : pairable (withVotes votes paired s) f a.cycle = pairable s f a.cycle := by
    unfold pairable
    rw [show (withVotes votes paired s).efs.record.lastPaired[f] = s.efs.record.lastPaired[f] from last]
    rfl
  have earns : earnsVote (withVotes votes paired s) f a b = earnsVote s f a b := rfl
  have before : (withVotes votes paired s).efs.record.votes[f] = s.efs.record.votes[f] := vote
  have lastBefore : (withVotes votes paired s).efs.record.lastPaired[f] = s.efs.record.lastPaired[f] := last
  unfold formPair
  rw [pairs, earns]
  split
  · dsimp only [State.setEfs_record]
    rw [upd_get, upd_get, if_pos rfl, if_pos rfl]
    split
    · rw [upd_get, upd_get, if_pos rfl, if_pos rfl, before]
      exact ⟨rfl, rfl⟩
    · exact ⟨before, rfl⟩
  · exact ⟨before, lastBefore⟩

/-- The pair of one feeder with a bus result, if the feeder's list holds the cycle (R129). -/
def busPair (b : CycleResult) (f : Slot) (t : State) : State :=
  match lookupResult b.cycle (t.pheStream f.role).results with
  | some a => formPair f a b t
  | none => t

section
variable {b : CycleResult} {f : Slot} {s : State}

theorem busPair_none (none : lookupResult b.cycle (s.pheStream f.role).results = none) : busPair b f s = s := by
  rw [busPair, none]

theorem busPair_some {a : CycleResult} (found : lookupResult b.cycle (s.pheStream f.role).results = some a) :
    busPair b f s = formPair f a b s := by
  rw [busPair, found]

theorem busPair_others {k : Slot} (distinct : k ≠ f) (t : State) : OtherVotes f t (busPair b k t) := by
  unfold busPair
  split
  · exact formPair_others distinct _ _ t
  · exact .refl f t

theorem formBusPairs_eq (identifying : s.efs.record.state = .identifying) :
    formBusPairs b s = forSlots (busPair b) s := if_pos identifying

theorem formBusPairs_writes (identifying : s.efs.record.state = .identifying) :
    ∃ votes paired, formBusPairs b s = withVotes votes paired s := by
  rw [formBusPairs_eq identifying]
  refine forSlots_keeps (P := fun t => ∃ votes paired, t = withVotes votes paired s) (fun f t h => ?_) s
    ⟨s.efs.record.votes, s.efs.record.lastPaired, rfl⟩
  obtain ⟨votes, paired, rfl⟩ := h
  unfold busPair
  split
  · next a _ =>
    obtain ⟨v, p, formed⟩ := formPair_writes f a b (withVotes votes paired s)
    exact ⟨_, _, formed⟩
  · exact ⟨votes, paired, rfl⟩

/-- Feeder `f`'s vote and last paired cycle after a bus result: those of its own pair. -/
theorem formBusPairs_own (identifying : s.efs.record.state = .identifying) (f : Slot) :
    (formBusPairs b s).efs.record.votes[f] = (busPair b f s).efs.record.votes[f] ∧
      (formBusPairs b s).efs.record.lastPaired[f] = (busPair b f s).efs.record.lastPaired[f] := by
  obtain ⟨t, -, before, after⟩ := forSlots_turn (f := f) (P := fun _ => True) (R := OtherVotes f) (g := busPair b)
    (.refl f) OtherVotes.trans (fun _ _ _ => trivial) (fun k t distinct _ => busPair_others distinct t) s trivial
  rw [formBusPairs_eq identifying]
  generalize forSlots (busPair b) s = u at after ⊢
  obtain ⟨votes, paired, rfl, vote, last⟩ := after
  obtain ⟨votes', paired', rfl, vote', last'⟩ := before
  refine ⟨vote.trans ?_, last.trans ?_⟩
  all_goals
    cases found : lookupResult b.cycle (s.pheStream f.role).results with
    | none =>
      rw [busPair_none found, busPair_none (s := withVotes votes' paired' s) found]
      assumption
    | some a =>
      rw [busPair_some found, busPair_some (s := withVotes votes' paired' s) found]
      have own := formPair_own ⟨votes', paired', rfl, vote', last'⟩ a b
      simp only [own]

end

/-- In IDENTIFYING the pairs are formed before the completion (R129, R130). -/
theorem efsBusCompletion_identifying {r : CycleResult} {s : State} (serves : s.mgr.device = .inService)
    (state : s.efs.record.state = .identifying) :
    efsBusCompletion r s = identifyingCompletion (formBusPairs r (refreshVn r s)) := by
  obtain ⟨votes, paired, formed⟩ := formBusPairs_writes (b := r) (s := refreshVn r s) state
  have stays : (formBusPairs r (refreshVn r s)).efs.record.state = .identifying := by
    rw [formed]
    exact state
  rw [efsBusCompletion_serving serves, stays]
  rfl

/-! ## The obligation -/

theorem quietCompletion_below {r : CycleResult} {s : State} (below : r.channels[3].magnitude < s.efs.settings.vNvd) :
    quietCompletion r s = s := if_neg (Nat.not_le.2 below)

theorem quietCompletion_detects {r : CycleResult} {s : State} (above : s.efs.settings.vNvd ≤ r.channels[3].magnitude) :
    quietCompletion r s = raise none none
      (.efDetected r.cycle r.channels[3].magnitude r.channels[3].overrange s.mdu.busMode) (s.setEfs { s.efs.record with
        episodeTod := s.tod
        votes := .replicate 8 0
        lastPaired := .replicate 8 none
        candidates := .replicate 8 false
        countdown := some s.efs.settings.confirmCycles
        state := .displaced }) := by
  rw [quietCompletion]
  exact if_pos above

theorem decide131_ban {s : State} (ban : s.mdu.busMode = .ban) : decide131 s = busTrip s := if_pos ban

theorem decide131_hunts {s : State} (mild : s.mdu.busMode ≠ .ban)
    (hunts : (s.earthMode s.mdu.busMode).autoHunt = true) : decide131 s = startHunt .auto s := by
  rw [decide131, if_neg mild, if_pos hunts]

theorem decide131_unresolved {s : State} (mild : s.mdu.busMode ≠ .ban)
    (still : (s.earthMode s.mdu.busMode).autoHunt = false) : decide131 s = enterState .unresolved s := by
  rw [decide131, if_neg mild, if_neg (by simp [still])]

/-- Settles O38, by the state of EFS and the countdown. -/
theorem displacementIsConfirmed : Obligations.DisplacementIsConfirmed := by
  refine ⟨fun r s => ?_, fun s => ⟨decide131_ban, decide131_hunts, decide131_unresolved⟩⟩
  refine ⟨efsBusCompletion_resting, fun serves => ?_⟩
  obtain ⟨newest, flag⟩ := Prod.ext_iff.mp (efsBusCompletion_vn r s serves)
  have other {x : EfsState} (state : s.efs.record.state = x) (h : x ≠ .identifying) :=
    efsBusCompletion_other (r := r) serves state h
  refine ⟨newest, flag, fun state below => ?_, fun state above => ?_, fun state dropped => ?_,
    fun n state held runs => ?_, fun state held runs => ?_, fun state => ?_⟩
  · exact (other state (by decide)).trans (quietCompletion_below (s := refreshVn r s) below)
  · exact (other state (by decide)).trans (quietCompletion_detects (s := refreshVn r s) above)
  · rw [other state (by decide), completionIn, displacedCompletion_dropped (refreshVn_dropped.2 dropped)]
    exact ⟨rfl, rfl, rfl, rfl⟩
  · rw [other state (by decide), completionIn, refreshVn_held held]
    exact displacedCompletion_counts (s := s.setEfs _) Bool.false_ne_true runs
  · rw [other state (by decide), completionIn, refreshVn_held held]
    exact displacedCompletion_confirms (s := s.setEfs _) Bool.false_ne_true runs
  · obtain ⟨votes, paired, formed⟩ := formBusPairs_writes (b := r) (s := refreshVn r s) state
    have own := formBusPairs_own (b := r) (s := refreshVn r s) state
    have completed := efsBusCompletion_identifying (r := r) serves state
    have drops : (withVotes votes paired (refreshVn r s)).efs.record.vnDropped = true ↔ _ :=
      refreshVn_dropped (r := r) (s := s)
    rw [formed] at own completed
    refine ⟨votes, paired, fun f => ⟨fun none => ?_, fun a found => ?_⟩, fun dropped => ?_, fun n held runs => ?_,
      fun held runs => ⟨candidateSet (withVotes votes paired (refreshVn r s)), fun f => candidateSet_get f,
        fun f only => ?_, fun several => ?_⟩⟩
    · have pair := own f
      rw [busPair_none (s := refreshVn r s) none] at pair
      exact pair
    · have pair := own f
      rw [busPair_some (s := refreshVn r s) found] at pair
      exact pair
    · exact completed.trans ((identifyingCompletion_dropped (drops.2 dropped)).trans (endEpisode_eq _ _ _))
    · rw [completed]
      exact identifyingCompletion_counts (mt drops.1 held) runs
    · exact completed.trans (identifyingCompletion_identifies (mt drops.1 held) runs only)
    · exact completed.trans (identifyingCompletion_decides (mt drops.1 held) runs several)

end Sys2Proof.Machine
end

section
/-! PROOFS. The obligation on the identified feeder (R132 to R134). -/

namespace Sys2Proof.Machine

/-! ## Completions in IDENTIFIED (R132, R134) -/

section
variable {r : CycleResult} {f : Slot} {s : State}

theorem delayCompletion_dropped (dropped : s.efs.record.vnDropped = true) :
    delayCompletion f s = episodeEnded .clearedSelf none s := (if_pos dropped).trans (endEpisode_eq _ _ _)

theorem delayCompletion_waits (held : ¬ s.efs.record.vnDropped = true)
    (waits : (s.earthMode (s.feederMode f)).tripDelay = 65535 ∨
      min 65535 (s.efs.record.delayCount + 1) < (s.earthMode (s.feederMode f)).tripDelay) :
    delayCompletion f s = s.setEfs { s.efs.record with delayCount := min 65535 (s.efs.record.delayCount + 1) } := by
  rw [delayCompletion, if_neg held]
  exact if_neg fun ⟨never, reached⟩ => waits.elim never (Nat.not_lt.2 reached)

theorem delayCompletion_trips (held : ¬ s.efs.record.vnDropped = true)
    (never : (s.earthMode (s.feederMode f)).tripDelay ≠ 65535)
    (reached : (s.earthMode (s.feederMode f)).tripDelay ≤ min 65535 (s.efs.record.delayCount + 1)) :
    delayCompletion f s = tripIdentified f
      (s.setEfs { s.efs.record with delayCount := min 65535 (s.efs.record.delayCount + 1) }) := by
  rw [delayCompletion, if_neg held]
  exact if_pos ⟨never, reached⟩

theorem observingCompletion_recloses (dropped : s.efs.record.vnDropped = true)
    (mark : s.efs.record.recloseMark = true) :
    observingCompletion f s = episodeEnded .trippedIdentified (some f) s := by
  rw [observingCompletion, if_pos dropped, if_pos mark]
  exact endEpisode_eq _ _ _

theorem observingCompletion_leaves (dropped : s.efs.record.vnDropped = true)
    (mark : s.efs.record.recloseMark = false) : observingCompletion f s =
      episodeEnded .trippedIdentified (some f) (demandLockout f (addReason .earth f s)) := by
  rw [observingCompletion, if_pos dropped, if_neg (by simp [mark])]
  exact endEpisode_eq _ _ _

theorem observingCompletion_counts {n : Nat} (held : ¬ s.efs.record.vnDropped = true)
    (runs : s.efs.record.countdown = some (n + 2)) : observingCompletion f s =
      s.setEfs { s.efs.record with countdown := some (n + 1) } := by
  rw [observingCompletion, if_neg held, countDown_runs runs]
  rfl

theorem observingCompletion_ends (held : ¬ s.efs.record.vnDropped = true)
    (runs : s.efs.record.countdown = some 1) : observingCompletion f s =
      displacementPersists f (s.setEfs { s.efs.record with countdown := some 0 }) := by
  rw [observingCompletion, if_neg held, countDown_ends runs]
  exact if_pos rfl

/-- A completion in IDENTIFIED, by the phase. -/
theorem identifiedCompletion_phase (named : s.efs.record.identified = some f) :
    (s.efs.record.phase = some .delay → identifiedCompletion s = delayCompletion f s) ∧
      (s.efs.record.phase = some .opening → identifiedCompletion s = s) ∧
      (s.efs.record.phase = some .observing → identifiedCompletion s = observingCompletion f s) := by
  refine ⟨fun phase => ?_, fun phase => ?_, fun phase => ?_⟩ <;> rw [identifiedCompletion, named, phase]

/-! ## The trip of the identified feeder (R133) -/

theorem recloseMarkOf_iff : recloseMarkOf s f = true ↔
    s.feederMode f = .normal ∧ ∃ g, s.activeGroup f = some g ∧ (s.group f g).efTripRecloses = 1 := by
  unfold recloseMarkOf State.settings
  cases s.activeGroup f <;> simp

/-- EARTH added to the identified feeder, unless its district's mode is NORMAL (R133, step 2). -/
def earthUnlessNormal (f : Slot) (s : State) : State :=
  if s.feederMode f = .normal then s else addReason .earth f s

theorem earthUnlessNormal_work (f : Slot) (s : State) : RcsWork s (earthUnlessNormal f s) :=
  .ite (.refl s) (addReason_work .earth f s)

/-- `s` with block reason EARTH written for feeder `f`. -/
def withEarth (f : Slot) (s : State) : State :=
  s.setSeq f { s.seq f with reasons := { (s.seq f).reasons with earth := true } }

/-- A reason added outside the dead time, or held already, is written and nothing else (R103). -/
theorem addReason_writes {x : Reason}
    (quiet : ¬ (s.acting f = true ∧ (s.seq f).state = .dead ∧ s.holds f x = false)) :
    addReason x f s = s.setSeq f { s.seq f with reasons := (s.seq f).reasons.put true x } := by
  cases held : s.holds f x with
  | true => rw [addReason_held held, put_has held, setSeq_self]
  | false => exact addReason_absent held fun ⟨acts, dead⟩ => quiet ⟨acts, dead, held⟩

theorem addEarth_locks (dead : s.acting f = true ∧ (s.seq f).state = .dead ∧ s.holds f .earth = false) :
    addReason .earth f s = withLockout .blocked f (withEarth f s) :=
  addReason_blocked dead.2.2 dead.1 dead.2.1

/-- The state in which the OPEN of the identified feeder is asked (R133, steps 1 and 2). -/
def tripMarked (f : Slot) (s : State) : State :=
  earthUnlessNormal f (s.setEfs { s.efs.record with recloseMark := recloseMarkOf s f })

theorem tripMarked_work (f : Slot) (s : State) :
    RcsWork (s.setEfs { s.efs.record with recloseMark := recloseMarkOf s f }) (tripMarked f s) :=
  earthUnlessNormal_work f _

theorem tripMarked_switch : (tripMarked f s).switch f = s.switch f := (tripMarked_work f s).switch_eq f

/-- The order of the identified feeder, by ORU's answer (R133, step 3). -/
def tripOrdered (f : Slot) (s : State) : State :=
  match (efsAsk .open f s).1 with
  | .taken n => (efsAsk .open f s).2.setEfs
      { (efsAsk .open f s).2.efs.record with awaited := some n, phase := some .opening }
  | .merged n => (efsAsk .open f s).2.setEfs
      { (efsAsk .open f s).2.efs.record with awaited := some n, phase := some .opening }
  | .refused _ => displacementPersists f (efsAsk .open f s).2

theorem tripIdentified_eq (f : Slot) (s : State) : tripIdentified f s =
    if ((tripMarked f s).switch f).position = .opened then beginObserving (tripMarked f s)
    else tripReport (recloseMarkOf s f) f (tripOrdered f (tripMarked f s)) := by
  unfold tripIdentified tripOrdered tripMarked earthUnlessNormal
  rfl

theorem tripIdentified_open (isOpen : (s.switch f).position = .opened) : tripIdentified f s =
    (tripMarked f s).setEfs { (tripMarked f s).efs.record with
      awaited := none, phase := some .observing, countdown := some s.efs.settings.observeCycles } := by
  have observes : tripIdentified f s = beginObserving (tripMarked f s) := by
    rw [tripIdentified_eq, tripMarked_switch, if_pos isOpen]
  rw [observes, beginObserving, (tripMarked_work f s).efs]
  rfl

theorem tripIdentified_asks (closed : (s.switch f).position ≠ .opened) : tripIdentified f s =
    tripReport (recloseMarkOf s f) f (tripOrdered f (tripMarked f s)) := by
  rw [tripIdentified_eq, tripMarked_switch, if_neg closed]

theorem tripIdentified_taken {n : OrderNo} (closed : (s.switch f).position ≠ .opened)
    (answer : (askOrder .open .earth f (tripMarked f s)).answer = .taken n ∨
      (askOrder .open .earth f (tripMarked f s)).answer = .merged n) : tripIdentified f s =
    tripReport (recloseMarkOf s f) f ((askOrder .open .earth f (tripMarked f s)).state.setEfs
      { (tripMarked f s).efs.record with awaited := some n, phase := some .opening }) := by
  rw [tripIdentified_asks closed, tripOrdered, efsAsk_eq]
  dsimp only
  rw [(askOrder_rcs_efs .open .earth f (tripMarked f s)).2]
  rcases answer with answer | answer <;> rw [answer]

theorem tripIdentified_refused {c : RefuseCause} (closed : (s.switch f).position ≠ .opened)
    (answer : (askOrder .open .earth f (tripMarked f s)).answer = .refused c) : tripIdentified f s =
    tripReport (recloseMarkOf s f) f
      (displacementPersists f (askOrder .open .earth f (tripMarked f s)).state) := by
  rw [tripIdentified_asks closed, tripOrdered, efsAsk_eq]
  dsimp only
  rw [answer]

/-! ## A persisting displacement (R134) -/

/-- `s` with no feeder identified, and feeder `f` no candidate. -/
def notIdentified (f : Slot) (s : State) : State :=
  s.setEfs { s.efs.record with
    identified := none
    phase := none
    awaited := none
    countdown := none
    candidates := upd s.efs.record.candidates f false }

theorem displacementPersists_eq (f : Slot) (s : State) : displacementPersists f s =
    decide131 (notIdentified f (reopen f (demandLockout f (addReason .earth f s)))) := rfl

/-- EARTH and the lockout's demand leave ORU and EFS. -/
theorem leftOpen_work (f : Slot) (s : State) : RcsWork s (demandLockout f (addReason .earth f s)) :=
  (addReason_work .earth f s).trans (demandLockout_work f _)

theorem reopen_asks (asks : (s.switch f).position ≠ .opened ∧ (s.order f).state = .idle) :
    reopen f s = (askOrder .open .earth f s).state := by
  obtain ⟨closed, idle⟩ := asks
  rw [reopen, if_pos ⟨closed, by simp [OrderRecord.inFlight, idle]⟩, efsAsk_eq]

theorem reopen_stays (stays : ¬ ((s.switch f).position ≠ .opened ∧ (s.order f).state = .idle)) :
    reopen f s = s := if_neg fun ⟨closed, idle⟩ => stays ⟨closed, by simpa [OrderRecord.inFlight] using idle⟩

theorem displacementPersists_asks (asks : (s.switch f).position ≠ .opened ∧ (s.order f).state = .idle) :
    displacementPersists f s =
      decide131 (notIdentified f (askOrder .open .earth f (demandLockout f (addReason .earth f s))).state) := by
  have work := leftOpen_work f s
  rw [displacementPersists_eq, reopen_asks]
  rwa [work.switch_eq, work.order_eq]

theorem displacementPersists_stays (stays : ¬ ((s.switch f).position ≠ .opened ∧ (s.order f).state = .idle)) :
    displacementPersists f s = decide131 (notIdentified f (demandLockout f (addReason .earth f s))) := by
  have work := leftOpen_work f s
  rw [displacementPersists_eq, reopen_stays]
  rwa [work.switch_eq, work.order_eq]

/-! ## The outcome of the awaited OPEN (R134) -/

theorem efsReport_identified {p : OrderReport} (serves : s.mgr.device = .inService)
    (state : s.efs.record.state = .identified) (named : s.efs.record.identified = some p.slot)
    (phase : s.efs.record.phase = some .opening) (numbered : p.number.isSome = true)
    (awaited : s.efs.record.awaited = p.number) : efsReport p s = identifiedReport p s := by
  rw [efsReport, if_pos ⟨serves, numbered⟩, state]
  exact if_pos ⟨named, phase, awaited⟩

end

/-- Settles O40: the completions in IDENTIFIED, the trip, the persisting displacement and the awaited outcome. -/
theorem identifiedFeedersAreTripped : Obligations.IdentifiedFeedersAreTripped := by
  refine ⟨fun r f s serves state named => ?_, fun f s => ?_, fun f s => ?_,
    fun p s serves state named phase numbered awaited => ?_⟩
  · have completed := efsBusCompletion_other (r := r) serves state (by decide)
    have phases := identifiedCompletion_phase (s := refreshVn r s) named
    obtain ⟨delays, opens, observes⟩ := phases
    have drops := refreshVn_dropped (r := r) (s := s)
    refine ⟨fun phase => ?_, fun phase => completed.trans (opens phase), fun phase => ?_⟩
    · have delay := completed.trans (delays phase)
      exact ⟨fun dropped => delay.trans (delayCompletion_dropped (drops.2 dropped)),
        fun held waits => delay.trans (delayCompletion_waits (mt drops.1 held) waits),
        fun held never reached => delay.trans (delayCompletion_trips (mt drops.1 held) never reached)⟩
    · have observe := completed.trans (observes phase)
      exact ⟨fun dropped mark => observe.trans (observingCompletion_recloses (drops.2 dropped) mark),
        fun dropped mark => ⟨_, leftOpen_demandLockout f _,
          observe.trans (observingCompletion_leaves (drops.2 dropped) mark)⟩,
        fun n held runs => observe.trans (observingCompletion_counts (mt drops.1 held) runs),
        fun held runs => observe.trans (observingCompletion_ends (mt drops.1 held) runs)⟩
  · refine ⟨recloseMarkOf s f, tripMarked f s, recloseMarkOf_iff, fun normal => if_pos normal,
      fun other quiet => ?_, fun other dead => ?_, tripIdentified_open, fun closed =>
      ⟨fun n => tripIdentified_taken closed, fun c => tripIdentified_refused closed⟩⟩
    · exact (if_neg other).trans (addReason_writes (s := s.setEfs _) quiet)
    · exact (if_neg other).trans (addEarth_locks (s := s.setEfs _) dead)
  · exact ⟨_, leftOpen_demandLockout f s, displacementPersists_asks, displacementPersists_stays⟩
  · have taken := efsReport_identified serves state named phase numbered awaited
    refine ⟨fun happened => ?_, fun happened => ?_⟩ <;> rw [taken, identifiedReport, happened]
    rfl

end Sys2Proof.Machine
end

section
/-! PROOFS. The steps of a hunt: the obligations on its start and on its walk (R135 to R140, R142, R146). -/

namespace Sys2Proof.Machine

/-! ## Exclusion (R135) -/

/-- The exclusions of R135. -/
def Excluded (s : State) (f : Slot) : Prop :=
  (s.switch f).position = .opened ∨ (s.feeder f).inService = false ∨
    s.holds f .tag = true ∨ s.holds f .local = true ∨ s.holds f .switch = true ∨
    s.holds f .stream = true ∨ s.holds f .operator = true ∨ s.holds f .earth = true ∨
    (s.order f).state ≠ .idle ∨ (s.seq f).state ≠ .ready

theorem huntExcluded_iff (s : State) (f : Slot) : huntExcluded s f = true ↔ Excluded s f := by
  simp only [huntExcluded, Excluded, OrderRecord.inFlight, Bool.or_eq_true, Bool.not_eq_true', beq_iff_eq, bne_iff_ne,
    or_assoc]

/-! ## The walk (R136, R137) -/

section
variable {f : Slot} {s : State}

theorem startSteps_exhausted (n : Nat) (exhausted : s.efs.hunt.list.length ≤ s.efs.hunt.stepIndex) :
    startSteps (n + 1) s = huntExhausted s := by
  rw [startSteps, List.getElem?_eq_none exhausted]

/-- The step of feeder `f` is skipped (R136). -/
def stepSkipped (f : Slot) (s : State) : State := nextIndex (raiseStep false f s)

/-- The OPEN of the step of feeder `f` has been refused, and the step ends (R137). -/
def stepRefused (f : Slot) (s : State) : State :=
  nextIndex (clearStep (removeReason .hunt f (efsAsk .open f (beginStep f s)).2))

theorem startSteps_skips (n : Nat) (step : s.efs.hunt.list[s.efs.hunt.stepIndex]? = some f) (excluded : Excluded s f) :
    startSteps (n + 1) s = startSteps n (stepSkipped f s) := by
  rw [startSteps, step]
  exact if_pos ((huntExcluded_iff s f).2 excluded)

theorem startSteps_asks (n : Nat) (step : s.efs.hunt.list[s.efs.hunt.stepIndex]? = some f)
    (free : ¬ Excluded s f) : startSteps (n + 1) s = match (efsAsk .open f (beginStep f s)).1 with
      | .taken k => (efsAsk .open f (beginStep f s)).2.setHunt
          { (efsAsk .open f (beginStep f s)).2.efs.hunt with order := some k }
      | .merged k => (efsAsk .open f (beginStep f s)).2.setHunt
          { (efsAsk .open f (beginStep f s)).2.efs.hunt with order := some k }
      | .refused _ => startSteps n (stepRefused f s) := by
  rw [startSteps, step]
  exact if_neg (mt (huntExcluded_iff s f).1 free)

theorem beginStep_efs (f : Slot) (s : State) : (beginStep f s).efs = { s.efs with hunt := { s.efs.hunt with
    underTest := some f, step := some .opening, countdown := none, order := none } } :=
  (addReason_work .hunt f _).efs

theorem stepRefused_efs (f : Slot) (s : State) : (stepRefused f s).efs = { s.efs with hunt := { s.efs.hunt with
    stepIndex := s.efs.hunt.stepIndex + 1, underTest := none, step := none, countdown := none, order := none } } := by
  have efs : (removeReason .hunt f (efsAsk .open f (beginStep f s)).2).efs = (beginStep f s).efs := by
    rw [removeHunt_efs, efsAsk_efs]
  rw [stepRefused, nextIndex, clearStep]
  simp only [State.setHunt, efs, beginStep_efs]

theorem stepRefused_hunt (f : Slot) (s : State) : (stepRefused f s).efs.hunt.list = s.efs.hunt.list ∧
    (stepRefused f s).efs.hunt.stepIndex = s.efs.hunt.stepIndex + 1 := by
  rw [stepRefused_efs]
  exact ⟨rfl, rfl⟩

/-- Any bound beyond the steps that are left walks them all. -/
theorem startSteps_bound {n m : Nat} {s : State} (enough : s.efs.hunt.list.length < s.efs.hunt.stepIndex + n)
    (more : s.efs.hunt.list.length < s.efs.hunt.stepIndex + m) (pos : 0 < n ∧ 0 < m) :
    startSteps n s = startSteps m s := by
  induction n generalizing m s with
  | zero => exact absurd pos.1 (Nat.lt_irrefl 0)
  | succ n ih =>
    obtain ⟨m, rfl⟩ := Nat.exists_eq_add_one.mpr pos.2
    by_cases exhausted : s.efs.hunt.list.length ≤ s.efs.hunt.stepIndex
    · rw [startSteps_exhausted n exhausted, startSteps_exhausted m exhausted]
    · have step := List.getElem?_eq_getElem (Nat.lt_of_not_le exhausted)
      have left : 0 < n ∧ 0 < m := ⟨by omega, by omega⟩
      by_cases excluded : Excluded s s.efs.hunt.list[s.efs.hunt.stepIndex]
      · rw [startSteps_skips n step excluded, startSteps_skips m step excluded]
        exact ih (s := stepSkipped _ s) (by simp [stepSkipped, nextIndex, raiseStep]; omega)
          (by simp [stepSkipped, nextIndex, raiseStep]; omega) left
      · obtain ⟨list, index⟩ := stepRefused_hunt s.efs.hunt.list[s.efs.hunt.stepIndex] s
        rw [startSteps_asks n step excluded, startSteps_asks m step excluded]
        rw [ih (s := stepRefused _ s) (by rw [list, index]; omega) (by rw [list, index]; omega) left]

theorem startStep_next {t : State} (list : t.efs.hunt.list = s.efs.hunt.list)
    (index : t.efs.hunt.stepIndex = s.efs.hunt.stepIndex + 1)
    (within : s.efs.hunt.stepIndex < s.efs.hunt.list.length) :
    startSteps s.efs.hunt.list.length t = startStep t :=
  startSteps_bound (by rw [list, index]; omega) (by rw [list, index]; omega) ⟨by omega, by omega⟩

theorem within_of_step (step : s.efs.hunt.list[s.efs.hunt.stepIndex]? = some f) :
    s.efs.hunt.stepIndex < s.efs.hunt.list.length := (List.getElem?_eq_some_iff.mp step).1

/-! ### The list exhausted (R140) -/

theorem huntExhausted_alarm (alarm : (s.earthMode s.mdu.busMode).persistent = .alarm) :
    huntExhausted s = persisting s := by
  have same : ((persisting s).earthMode (persisting s).mdu.busMode).persistent = .alarm := alarm
  rw [huntExhausted, writePersistent_eq, same]

theorem huntExhausted_busTrip (trips : (s.earthMode s.mdu.busMode).persistent = .busTrip) :
    huntExhausted s = busTrip (persisting s) := by
  have same : ((persisting s).earthMode (persisting s).mdu.busMode).persistent = .busTrip := trips
  rw [huntExhausted, writePersistent_eq, same]

/-! ### One step (R136, R137) -/

/-- `s` with sequencer `q` of feeder `f`, hunt record `h` and the notices `l`. -/
def withTest (f : Slot) (q : SeqRecord) (h : HuntRecord) (l : List Notice) (s : State) : State :=
  { s.setSeq f q with efs := { s.efs with hunt := h }, raised := l }

theorem withTest_withTest (p q : SeqRecord) (h i : HuntRecord) (l m : List Notice) :
    withTest f q h l (withTest f p i m s) = withTest f q h l s := by
  have seqs := congrArg State.rcs (setSeq_setSeq s f p q)
  exact congrArg (fun r => { withTest f q h l s with rcs := r }) seqs

/-- `s` with feeder `f` under test, holding HUNT (R136). -/
def underTest (f : Slot) (n : Option OrderNo) (s : State) : State :=
  withTest f { s.seq f with reasons := { (s.seq f).reasons with hunt := true } }
    { s.efs.hunt with underTest := some f, step := some .opening, countdown := none, order := n }
    (s.raised ++ [⟨some f, s.tod, none,
      .huntStep s.efs.hunt.stepIndex s.efs.hunt.list.length s.efs.hunt.origin true⟩]) s

theorem beginStep_eq (live : (s.seq f).state ≠ .dead) : beginStep f s = underTest f none s := by
  have written (x : HuntRecord) : addReason .hunt f (s.setHunt x) = (s.setHunt x).setSeq f
      { s.seq f with reasons := { (s.seq f).reasons with hunt := true } } :=
    addReason_writes (s := s.setHunt x) fun h => live h.2.1
  rw [beginStep, written]
  rfl

theorem efsAsk_open_taken (unit : s.switchAddress f ≠ 0) (idle : (s.order f).state = .idle) :
    efsAsk .open f s = (.taken (fresh s f), withRequest .open .earth f s) := by
  rw [efsAsk_eq, askOrder_open_idle (passes_automatic (by decide) unit) idle, take_eq]

theorem efsAsk_open_noSwitch (none : s.switchAddress f = 0) : efsAsk .open f s = (.refused .noSwitch,
    raise (some f) Option.none (.orderFail .open .earth .empty Option.none (s.switch f).failCount
      (s.switch f).health) s) := by
  rw [efsAsk_eq, askOrder_noSwitch (by simp) none]
  rfl

theorem startStep_skips (step : s.efs.hunt.list[s.efs.hunt.stepIndex]? = some f) (excluded : Excluded s f) :
    startStep s = startStep (stepSkipped f s) := by
  rw [startStep, startSteps_skips _ step excluded]
  exact startStep_next (t := stepSkipped f s) rfl rfl (within_of_step step)

/-- A feeder that is not excluded has no order in flight, and its sequencer is in READY. -/
theorem idle_ready_of_free (free : ¬ Excluded s f) : (s.order f).state = .idle ∧ (s.seq f).state = .ready := by
  unfold Excluded at free
  simp only [not_or, not_not] at free
  tauto

theorem startStep_begins (step : s.efs.hunt.list[s.efs.hunt.stepIndex]? = some f) (free : ¬ Excluded s f)
    (unit : s.switchAddress f ≠ 0) :
    startStep s = underTest f (some (fresh s f)) (withRequest .open .earth f s) := by
  obtain ⟨idle, ready⟩ := idle_ready_of_free free
  rw [startStep, startSteps_asks _ step free, beginStep_eq (by simp [ready]),
    efsAsk_open_taken (s := underTest f none s) unit idle]
  rfl

/-- The state after a step whose feeder has no switch unit (R137). -/
def stepFailed (f : Slot) (s : State) : State :=
  withTest f { s.seq f with reasons := { (s.seq f).reasons with hunt := false } }
    { s.efs.hunt with
      stepIndex := s.efs.hunt.stepIndex + 1
      underTest := none, step := none, countdown := none, order := none }
    (s.raised ++ [⟨some f, s.tod, none,
      .huntStep s.efs.hunt.stepIndex s.efs.hunt.list.length s.efs.hunt.origin true⟩,
      ⟨some f, s.tod, none, .orderFail .open .earth ⟨false, false, false, false⟩ none (s.switch f).failCount
        (s.switch f).health⟩]) s

theorem stepRefused_noSwitch (ready : (s.seq f).state = .ready) (none : s.switchAddress f = 0) :
    stepRefused f s = stepFailed f s := by
  have tested : (underTest f Option.none s).seq f =
      { s.seq f with reasons := { (s.seq f).reasons with hunt := true } } := seq_setSeq_eq s f _
  have ended : stepRefused f s = withTest f { (underTest f Option.none s).seq f with
      reasons := { ((underTest f Option.none s).seq f).reasons with hunt := false } }
      { s.efs.hunt with
        stepIndex := s.efs.hunt.stepIndex + 1
        underTest := Option.none, step := Option.none, countdown := Option.none, order := Option.none }
      ((underTest f Option.none s).raised ++ [⟨some f, s.tod, Option.none,
        .orderFail .open .earth ⟨false, false, false, false⟩ Option.none (s.switch f).failCount
          (s.switch f).health⟩]) (underTest f Option.none s) := by
    rw [stepRefused, beginStep_eq (by simp [ready]), efsAsk_open_noSwitch (s := underTest f Option.none s) none]
    rfl
  rw [ended, tested, underTest, withTest_withTest, stepFailed]
  simp [withTest]

theorem startStep_refuses (step : s.efs.hunt.list[s.efs.hunt.stepIndex]? = some f) (free : ¬ Excluded s f)
    (none : s.switchAddress f = 0) : startStep s = startStep (stepRefused f s) := by
  obtain ⟨idle, ready⟩ := idle_ready_of_free free
  obtain ⟨list, index⟩ := stepRefused_hunt f s
  have asked := efsAsk_open_noSwitch (s := underTest f Option.none s) none
  rw [startStep, startSteps_asks _ step free, beginStep_eq (by simp [ready]), asked]
  exact startStep_next list index (within_of_step step)

/-! ## The restore (R138, R139, R142) -/

/-- `s` with the hunt in RESTORING (R138, log entry 32). -/
def restoring (n : Option OrderNo) (s : State) : State :=
  s.setHunt { s.efs.hunt with step := some .restoring, countdown := none, order := n }

/-- What a CLOSE of origin EARTH needs (R90, R91). -/
def CloseTaken (f : Slot) (s : State) : Prop :=
  s.switchAddress f ≠ 0 ∧ (s.order f).state = .idle ∧ s.holds f .fire = false

theorem efsAsk_close_refused (refused : ¬ CloseTaken f s) : ∃ c, efsAsk .close f s = (.refused c, s) := by
  rcases eq_or_ne (s.switchAddress f) 0 with none | unit
  · refine ⟨.noSwitch, ?_⟩
    rw [efsAsk_eq, askOrder_noSwitch (by simp) none]
    rfl
  · have passes : Passes .earth f s := passes_automatic (by decide) unit
    by_cases idle : (s.order f).state = .idle
    · have fire : s.holds f .fire = true := by simpa using fun free => refused ⟨unit, idle, free⟩
      refine ⟨.fire, ?_⟩
      rw [efsAsk_eq, askOrder_close_fire passes idle (.inr rfl) fire]
      rfl
    · refine ⟨.busy, ?_⟩
      rw [efsAsk_eq, askOrder_close_busy passes idle]
      rfl

theorem askRestore_refused (refused : ¬ CloseTaken f s) :
    askRestore f s = restoreFailed f (restoring none s) := by
  obtain ⟨c, asked⟩ := efsAsk_close_refused (s := restoring none s) refused
  unfold askRestore
  unfold restoring at asked ⊢
  rw [asked]

/-- The next step, once HUNT is taken from feeder `f` (R137, R139). -/
def nextStep (f : Slot) (s : State) : State :=
  startStep ((withoutHunt f s).setHunt { s.efs.hunt with
    stepIndex := s.efs.hunt.stepIndex + 1
    underTest := none, step := none, countdown := none, order := none })

theorem endStep_eq (f : Slot) (s : State) : endStep f s = nextStep f s := rfl

/-- The lockout of a feeder left open is demanded (R117). -/
def DemandsLockout (f : Slot) (s : State) : Prop := s.acting f = true ∧ (s.seq f).state ≠ .lockout

theorem demandLockout_locks (demands : DemandsLockout f s) : demandLockout f s = withLockout .earth f s := by
  rw [demandLockout, if_pos demands.1, enterLockout_eq _ _ _ demands.2]

theorem demandLockout_stays (still : ¬ DemandsLockout f s) : demandLockout f s = s := by
  unfold demandLockout
  split
  · next acts =>
    rw [enterLockout, if_pos]
    simpa using fun live => still ⟨acts, live⟩
  · rfl

theorem restoreFailed_walks (none : s.efs.hunt.abortCause = .none) :
    restoreFailed f s = nextStep f (demandLockout f s) := by
  have cause : (demandLockout f s).efs.hunt.abortCause = .none := by rwa [(demandLockout_work f s).efs]
  rw [restoreFailed]
  exact if_pos cause

theorem restoreFailed_aborts (some : s.efs.hunt.abortCause ≠ .none) :
    restoreFailed f s = abortEnd (withoutHunt f (demandLockout f s)) := by
  have cause : (demandLockout f s).efs.hunt.abortCause ≠ .none := by rwa [(demandLockout_work f s).efs]
  rw [restoreFailed]
  exact if_neg cause

/-! ## Completions in HUNTING (R138, R139) -/

theorem stepCountDown_runs {n : Nat} (runs : s.efs.hunt.countdown = some (n + 2)) :
    stepCountDown s = (false, s.setHunt { s.efs.hunt with countdown := some (n + 1) }) := by
  simp [stepCountDown, runs]

theorem stepCountDown_ends (runs : s.efs.hunt.countdown = some 1) :
    stepCountDown s = (true, s.setHunt { s.efs.hunt with countdown := some 0 }) := by
  simp [stepCountDown, runs]

section
variable (test : s.efs.hunt.underTest = some f)
include test

theorem huntingCompletion_ordered (step : s.efs.hunt.step = some .opening ∨ s.efs.hunt.step = some .restoring) :
    huntingCompletion s = s := by
  rcases step with step | step <;> rw [huntingCompletion, test, step]

theorem huntingCompletion_found (step : s.efs.hunt.step = some .observing)
    (dropped : s.efs.record.vnDropped = true) : huntingCompletion s = episodeEnded .foundByHunt (some f)
      (stepCleared (withoutHunt f (demandLockout f (addReason .earth f s)))) := by
  rw [huntingCompletion, test, step]
  exact (if_pos dropped).trans (endEpisode_eq _ _ _)

theorem huntingCompletion_cleared (step : s.efs.hunt.step = some .settling)
    (dropped : s.efs.record.vnDropped = true) :
    huntingCompletion s = episodeEnded .clearedSelf none (stepCleared (withoutHunt f s)) := by
  rw [huntingCompletion, test, step]
  exact (if_pos dropped).trans (endEpisode_eq _ _ _)

theorem huntingCompletion_counts {n : Nat}
    (step : s.efs.hunt.step = some .observing ∨ s.efs.hunt.step = some .settling)
    (held : ¬ s.efs.record.vnDropped = true) (runs : s.efs.hunt.countdown = some (n + 2)) :
    huntingCompletion s = s.setHunt { s.efs.hunt with countdown := some (n + 1) } := by
  rcases step with step | step <;> rw [huntingCompletion, test, step] <;> dsimp only <;>
    rw [if_neg held, stepCountDown_runs runs] <;> rfl

theorem huntingCompletion_restores (step : s.efs.hunt.step = some .observing)
    (held : ¬ s.efs.record.vnDropped = true) (runs : s.efs.hunt.countdown = some 1) :
    huntingCompletion s = askRestore f (s.setHunt { s.efs.hunt with countdown := some 0 }) := by
  rw [huntingCompletion, test, step]
  dsimp only
  rw [if_neg held, stepCountDown_ends runs]
  exact if_pos rfl

theorem huntingCompletion_ends (step : s.efs.hunt.step = some .settling)
    (held : ¬ s.efs.record.vnDropped = true) (runs : s.efs.hunt.countdown = some 1) :
    huntingCompletion s = endStep f (s.setHunt { s.efs.hunt with countdown := some 0 }) := by
  rw [huntingCompletion, test, step]
  dsimp only
  rw [if_neg held, stepCountDown_ends runs]
  exact if_pos rfl

end

section
variable {r : CycleResult}

/-- A completion while an abort is in progress only refreshes VN (R142). -/
theorem efsBusCompletion_aborting (serves : s.mgr.device = .inService) (state : s.efs.record.state = .hunting)
    (aborting : s.efs.hunt.abortCause ≠ .none) : efsBusCompletion r s = refreshVn r s := by
  rw [efsBusCompletion_other serves state (by decide)]
  exact if_neg aborting

theorem efsBusCompletion_hunting (serves : s.mgr.device = .inService) (state : s.efs.record.state = .hunting)
    (none : s.efs.hunt.abortCause = .none) : efsBusCompletion r s = huntingCompletion (refreshVn r s) := by
  rw [efsBusCompletion_other serves state (by decide)]
  exact if_pos none

end

/-! ## The outcomes of the hunt's orders (R137, R139, R142) -/

section
variable {p : OrderReport} (serves : s.mgr.device = .inService) (state : s.efs.record.state = .hunting)
  (test : s.efs.hunt.underTest = some p.slot) (numbered : p.number.isSome = true)
  (awaited : s.efs.hunt.order = p.number)
include serves state test numbered awaited

theorem efsReport_opening (step : s.efs.hunt.step = some .opening) : efsReport p s = stepOpenReport p s := by
  rw [efsReport, if_pos ⟨serves, numbered⟩, state]
  dsimp only
  rw [if_pos ⟨test, awaited⟩, step]

theorem efsReport_restoring (step : s.efs.hunt.step = some .restoring) : efsReport p s = stepRestoreReport p s := by
  rw [efsReport, if_pos ⟨serves, numbered⟩, state]
  dsimp only
  rw [if_pos ⟨test, awaited⟩, step]

end

end

/-- Settles O42: the walk of the steps, the restore, the completions and the outcomes of the orders. -/
theorem huntStepsAreWalked : Obligations.HuntStepsAreWalked := by
  refine ⟨fun s => ⟨fun exhausted => ?_, fun f step => ?_⟩, fun f s => ?_, fun r f s serves state test => ?_,
    fun p s serves state test numbered awaited => ?_⟩
  · have ends : startStep s = huntExhausted s := startSteps_exhausted _ exhausted
    exact ⟨fun alarm => ends.trans (huntExhausted_alarm alarm), fun trips => ends.trans (huntExhausted_busTrip trips)⟩
  · refine ⟨startStep_skips step, startStep_begins step, fun free none => ?_⟩
    rw [startStep_refuses step free none, stepRefused_noSwitch (idle_ready_of_free free).2 none]
    rfl
  · exact ⟨endStep_eq f s, fun ⟨unit, idle, free⟩ => askRestore_taken f s unit idle free, askRestore_refused,
      demandLockout f s, demandLockout_locks, demandLockout_stays, restoreFailed_walks, restoreFailed_aborts⟩
  · have aborts := efsBusCompletion_aborting (r := r) serves state
    have drops := refreshVn_dropped (r := r) (s := s)
    refine ⟨fun h => ?_, fun none step dropped => ?_, fun none step dropped => ?_, fun n none step held runs => ?_,
      fun none step held runs => ?_, fun none step held runs => ?_⟩
    · by_cases none : s.efs.hunt.abortCause = .none
      · have ordered := h.resolve_left (not_not.2 none)
        exact (efsBusCompletion_hunting serves state none).trans
          (huntingCompletion_ordered (s := refreshVn r s) test ordered)
      · exact aborts none
    · exact ⟨_, leftOpen_demandLockout f _, (efsBusCompletion_hunting serves state none).trans
        (huntingCompletion_found (s := refreshVn r s) test step (drops.2 dropped))⟩
    · exact (efsBusCompletion_hunting serves state none).trans
        (huntingCompletion_cleared (s := refreshVn r s) test step (drops.2 dropped))
    · exact (efsBusCompletion_hunting serves state none).trans
        (huntingCompletion_counts (s := refreshVn r s) test step (mt drops.1 held) runs)
    · exact (efsBusCompletion_hunting serves state none).trans
        (huntingCompletion_restores (s := refreshVn r s) test step (mt drops.1 held) runs)
    · exact (efsBusCompletion_hunting serves state none).trans
        (huntingCompletion_ends (s := refreshVn r s) test step (mt drops.1 held) runs)
  · have opens := efsReport_opening serves state test numbered awaited
    have restores := efsReport_restoring serves state test numbered awaited
    refine ⟨fun step happened => ?_, fun step happened => ?_, fun step happened => ?_, fun step happened => ?_⟩
    · rw [opens step, stepOpenReport, happened]
      exact ⟨fun none => if_pos (not_not.1 none), fun some => if_neg some⟩
    · rw [opens step, stepOpenReport, happened]
      exact ⟨fun none => if_pos (not_not.1 none), fun some => if_neg some⟩
    · rw [restores step, stepRestoreReport, happened]
      exact ⟨fun none => if_pos (not_not.1 none), fun some => if_neg some⟩
    · rw [restores step, stepRestoreReport]
      rcases happened with happened | happened | happened <;> rw [happened]

end Sys2Proof.Machine
end

section
/-! PROOFS. The obligation on the start of a hunt (R146, R135, R136, R140). -/

namespace Sys2Proof.Machine

/-! ## The hunt list (R135) -/

section
variable {o : HuntOrigin} {f : Slot} {fs : List Slot} {s : State}

theorem excluded_iff_not_free (s : State) (f : Slot) : Excluded s f ↔ ¬ ((s.switch f).position ≠ .opened ∧
    (s.feeder f).inService = true ∧ (s.order f).state = .idle ∧ (s.seq f).state = .ready ∧
    s.holds f .tag = false ∧ s.holds f .local = false ∧ s.holds f .switch = false ∧
    s.holds f .stream = false ∧ s.holds f .operator = false ∧ s.holds f .earth = false) := by
  unfold Excluded
  simp only [← Bool.not_eq_true]
  tauto

theorem mem_buildHuntList : f ∈ buildHuntList s ↔ f ∈ s.efs.huntOrder ∧ ¬ Excluded s f := by
  rw [← huntExcluded_iff, buildHuntList]
  have split (b : Bool) (a c : Prop) : (a ∧ c ∧ b = true) ∨ (a ∧ c ∧ b = false) ↔ a ∧ c := by
    cases b <;> simp
  simpa using split s.efs.record.candidates[f] (f ∈ s.efs.huntOrder) (huntExcluded s f = false)

/-- A feeder that may be hunted, as a Boolean (R135). -/
def huntFree (s : State) (f : Slot) : Bool :=
  (s.switch f).position != .opened && (s.feeder f).inService && (s.order f).state == .idle &&
    (s.seq f).state == .ready && !(s.holds f .tag || s.holds f .local || s.holds f .switch || s.holds f .stream ||
      s.holds f .operator || s.holds f .earth)

theorem not_huntExcluded (s : State) (f : Slot) : (!huntExcluded s f) = huntFree s f := by
  rw [Bool.eq_iff_iff, Bool.not_eq_true', ← Bool.not_eq_true, huntExcluded_iff, excluded_iff_not_free]
  simp [huntFree, and_assoc]

theorem buildHuntList_eq (s : State) : buildHuntList s =
    (s.efs.huntOrder.filter fun f => s.efs.record.candidates[f] && huntFree s f) ++
      (s.efs.huntOrder.filter fun f => !s.efs.record.candidates[f] && huntFree s f) := by
  simp only [buildHuntList, List.filter_append, List.filter_filter, not_huntExcluded, Bool.and_comm]

/-! ## The start (R136) -/

/-- `s` with a hunt of origin `o` over the feeders `l` begun, and no step yet (R136). -/
def huntBegun (o : HuntOrigin) (l : List Slot) (s : State) : State :=
  { s with
    efs := { s.efs with
      record := { s.efs.record with
        state := .hunting, countdown := none, identified := none, phase := none, awaited := none }
      hunt := ⟨l, 0, none, none, none, none, 0, o, .none⟩ }
    due := { s.due with huntLimit := false } }

theorem startHunt_eq (o : HuntOrigin) (s : State) :
    startHunt o s = startStep (huntBegun o (buildHuntList s) s) := rfl

theorem startHunt_begins (list : buildHuntList s = f :: fs) (unit : s.switchAddress f ≠ 0) : startHunt o s =
    underTest f (some (fresh s f)) (withRequest .open .earth f (huntBegun o (f :: fs) s)) := by
  have listed : f ∈ buildHuntList s := by simp [list]
  have free : ¬ Excluded (huntBegun o (f :: fs) s) f := (mem_buildHuntList.1 listed).2
  rw [startHunt_eq, list]
  exact startStep_begins (s := huntBegun o (f :: fs) s) rfl free unit

theorem startHunt_empty (list : buildHuntList s = []) :
    startHunt o s = huntExhausted (huntBegun o (buildHuntList s) s) := by
  rw [startHunt_eq, startStep, startSteps_exhausted]
  rw [list]
  exact le_rfl

theorem mayStartHunt_iff : mayStartHunt s = true ↔ s.mgr.device = .inService ∧ s.mdu.busMode ≠ .ban ∧
    (s.efs.record.state = .unresolved ∨ s.efs.record.state = .persistent) := by
  simp [mayStartHunt, and_assoc]

end

/-- Settles O41: START HUNT, the hunt list, the first feeder and the empty list. -/
theorem huntsStartWithFirstFeeder : Obligations.HuntsStartWithFirstFeeder := by
  intro q rest s head allowed free hunting
  have begins : hunting = huntBegun .manual (buildHuntList (begun rest s)) (begun rest s) := rfl
  clear_value hunting
  subst begins
  have run := runRequest_head head doStartHunt
  rw [show doStartHunt q (begun rest s) = if mayStartHunt (begun rest s) then
      ⟨.ok, [], startHunt .manual (begun rest s)⟩ else refused .state (begun rest s) from
    withForm_fits head.2.2.1 _ _] at run
  have may : mayStartHunt (begun rest s) = true ↔ _ := mayStartHunt_iff
  have starts (met : allowed) : Replies .startHunt s q .ok [] (startHunt .manual (begun rest s)) := by
    rw [if_pos (may.2 met)] at run
    exact run
  refine ⟨fun denied => ?_, starts, buildHuntList_eq s, fun f => ?_, fun f fs allowed list unit => ?_,
    fun allowed list => ⟨fun alarm => ?_, fun trips => ?_⟩⟩
  · rw [if_neg (mt may.1 denied)] at run
    exact run
  · rw [mem_buildHuntList, excluded_iff_not_free, not_not]
  · have started := starts allowed
    rw [startHunt_begins (s := begun rest s) list unit] at started
    exact started
  · have started := starts allowed
    rw [startHunt_empty (s := begun rest s) list, huntExhausted_alarm (s := huntBegun _ _ (begun rest s)) alarm] at started
    exact started
  · have started := starts allowed
    rw [startHunt_empty (s := begun rest s) list, huntExhausted_busTrip (s := huntBegun _ _ (begun rest s)) trips] at started
    exact started

end Sys2Proof.Machine
end

section
/-! PROOFS. The obligation on the abort of a hunt (R141 to R143, R146). -/

namespace Sys2Proof.Machine

/-! ## The marks of the hunt limit and of the boundaries, which an abort leaves -/

/-- The marks of the events that are due stay. -/
structure DueKept (s t : State) : Prop where
  same : t.due = s.due

namespace DueKept

theorem refl (s : State) : DueKept s s := ⟨rfl⟩

theorem trans {s t u : State} (a : DueKept s t) (b : DueKept t u) : DueKept s u := ⟨b.same.trans a.same⟩

theorem ite {c : Prop} [Decidable c] {s t u : State} (a : DueKept s t) (b : DueKept s u) :
    DueKept s (if c then t else u) := by
  split <;> assumption

theorem of_rcs {s t : State} (a : RcsWork s t) : DueKept s t := ⟨a.due⟩

theorem setHunt (x : HuntRecord) (s : State) : DueKept s (s.setHunt x) := ⟨rfl⟩

theorem setEfs (x : EfsRecord) (s : State) : DueKept s (s.setEfs x) := ⟨rfl⟩

theorem raise (o : Option Slot) (n : Option SampleNo) (b : NoticeBody) (s : State) :
    DueKept s (Machine.raise o n b s) := ⟨rfl⟩

theorem ask (k : OrderKind) (f : Slot) (s : State) : DueKept s (efsAsk k f s).2 := by
  obtain ⟨-, -, -, -, -, -, -, due, -⟩ := (askOrder_own k .earth f s).outside
  rw [efsAsk_eq]
  exact ⟨due⟩

end DueKept

theorem busTripFeeder_due (a : State × SlotSet) (f : Slot) : DueKept a.1 (busTripFeeder a f).1 := by
  have asked := (DueKept.of_rcs (addReason_work .earth f a.1)).trans (.ask .open f _)
  unfold busTripFeeder
  dsimp only
  split
  · split
    · exact asked.trans (.setEfs _ _)
    · exact asked.trans (.setEfs _ _)
    · exact asked
  · exact .refl _

theorem busTrip_due (s : State) : DueKept s (busTrip s) := by
  have feeders (l : List Slot) (a : State × SlotSet) : DueKept a.1 (l.foldl busTripFeeder a).1 := by
    induction l generalizing a with
    | nil => exact .refl _
    | cons f l ih => exact (busTripFeeder_due a f).trans (ih _)
  exact ((feeders allSlots (s, SlotSet.empty)).trans (.raise _ _ _ _)).trans (.setEfs _ _)

theorem abortEnd_due (s : State) : DueKept s (abortEnd s) := by
  have written (k : Option Slot) : DueKept s (clearStep (writeOutcome .aborted k s)) := ⟨rfl⟩
  have entered (x : EfsState) (t : State) : DueKept t (enterState x t) := .setEfs _ t
  unfold abortEnd
  exact (written _).trans (.ite (busTrip_due _) (.ite (entered _ _) (.ite (busTrip_due _)
    (.ite ((entered _ _).trans (.setEfs _ _)) (entered _ _)))))

section
variable {f : Slot} {s : State}

theorem lostHunt_due (f : Slot) (s : State) : DueKept s (abortEnd (removeReason .hunt f s)) :=
  (DueKept.of_rcs (removeReason_work .hunt f s)).trans (abortEnd_due _)

/-- The restore CLOSE of an abort is in flight, or the abort has ended (R142). -/
theorem askRestore_due (aborting : s.efs.hunt.abortCause ≠ .none) : DueKept s (askRestore f s) := by
  by_cases taken : CloseTaken f s
  · obtain ⟨unit, idle, free⟩ := taken
    rw [askRestore_taken f s unit idle free]
    exact ⟨rfl⟩
  · rw [askRestore_refused taken, restoreFailed_aborts (s := restoring none s) aborting]
    have demanded : DueKept s (demandLockout f (restoring none s)) :=
      (DueKept.setHunt _ s).trans (.of_rcs (demandLockout_work f _))
    exact demanded.trans (lostHunt_due f _)

theorem abortRestore_due (aborting : s.efs.hunt.abortCause ≠ .none) : DueKept s (abortRestore s) := by
  unfold abortRestore
  split
  · exact .refl s
  · exact askRestore_due aborting
  · exact .refl s
  · exact lostHunt_due _ s
  · exact abortEnd_due s

theorem abortUnderBan_due (s : State) : DueKept s (abortUnderBan s) := by
  unfold abortUnderBan
  dsimp only
  refine DueKept.trans ?_ (abortEnd_due _)
  split
  · next f _ => exact (DueKept.of_rcs (testLeftOpen_work f s)).trans (.setHunt _ _)
  · exact .setHunt _ s

theorem abortHunt_due {c : AbortCause} (cause : c ≠ .none) (s : State) : DueKept s (abortHunt c s) := by
  unfold abortHunt
  exact .ite (.ite ((DueKept.setHunt _ s).trans (abortUnderBan_due _))
    ((DueKept.setHunt _ s).trans (abortRestore_due cause))) (.refl s)

/-! ## The end of an abort (R143) -/

/-- `s` with the outcome ABORTED written and no feeder under test, as its abort ends (R143). -/
theorem abortWritten_eq (s : State) : abortWritten s =
    stepCleared { s with
      efs := { s.efs with result :=
        ⟨.aborted, s.efs.hunt.underTest, s.efs.record.episodeTod, s.tod, s.efs.record.votes, s.efs.record.candidates⟩ }
      raised := s.raised ++ [⟨none, s.tod, none, .efResult ⟨.aborted, s.efs.hunt.underTest, s.efs.record.episodeTod,
        s.tod, s.efs.record.votes, s.efs.record.candidates⟩⟩] } := rfl

theorem abortEnd_ban_eq (ban : s.mdu.busMode = .ban) : abortEnd s = busTrip (abortWritten s) := if_pos ban

section
variable (other : s.mdu.busMode ≠ .ban)
include other

theorem abortEnd_dropped (dropped : s.efs.record.vnDropped = true) :
    abortEnd s = enterState .quiet (abortWritten s) := (if_neg other).trans (if_pos dropped)

variable (held : s.efs.record.vnDropped = false)
include held

theorem abortEnd_held : abortEnd s = if s.efs.hunt.abortCause = .limit ∧ s.mdu.busMode = .season then
      busTrip (abortWritten s)
    else if s.efs.hunt.abortCause = .protection then
      (enterState .displaced (abortWritten s)).setEfs { (enterState .displaced (abortWritten s)).efs.record with
        countdown := some s.efs.settings.confirmCycles }
    else enterState .unresolved (abortWritten s) := by
  have high : ¬ s.efs.record.vnDropped = true := by simp [held]
  exact (if_neg other).trans (if_neg high)

end

theorem execHuntLimitExpiry_due (due : s.due.huntLimit = true) : Effect .huntLimitExpiry s
    (abortHunt .limit { s with due := { s.due with huntLimit := false } }) := if_pos due

theorem execHuntLimitExpiry_early (early : s.due.huntLimit = false) : exec .huntLimitExpiry s = .next s :=
  if_neg (by simp [early])

theorem mayAbortHunt_iff : mayAbortHunt s = true ↔ HuntUnderWay s := by
  simp [mayAbortHunt, HuntUnderWay, and_assoc]

end

/-- Settles O43: ABORT HUNT, the hunt limit, and where an abort ends. -/
theorem huntsAbort : Obligations.HuntsAbort := by
  refine ⟨fun q rest s head => ?_, fun s => ⟨fun due runs => ?_, execHuntLimitExpiry_early⟩, fun s =>
    ⟨abortEnd_ban_eq, abortEnd_dropped, fun other held limit => ?_, fun other held protection => ?_,
      fun other held limit protection => ?_⟩⟩
  · have run := runRequest_head head doAbortHunt
    rw [show doAbortHunt q (begun rest s) = if mayAbortHunt (begun rest s) then
        ⟨.ok, [], abortHunt .request (begun rest s)⟩ else refused .state (begun rest s) from
      withForm_fits head.2.2.1 _ _] at run
    have may : mayAbortHunt (begun rest s) = true ↔ HuntUnderWay s := mayAbortHunt_iff
    refine ⟨fun stopped => ?_, fun runs => ?_⟩
    · rw [if_neg (mt may.1 stopped)] at run
      exact run
    · rw [if_pos (may.2 runs)] at run
      have work := abortHunt_work .request (begun rest s)
      exact ⟨_, run, abortHunt_aborted .request (begun rest s) runs, work.rpt, work.siu, work.phe, work.elu,
        work.gst, work.mdu, work.pending⟩
  · have work := abortHunt_work .limit { s with due := { s.due with huntLimit := false } }
    have marks := abortHunt_due (c := .limit) (by decide) { s with due := { s.due with huntLimit := false } }
    have aborted := abortHunt_aborted .limit { s with due := { s.due with huntLimit := false } } runs
    exact ⟨_, execHuntLimitExpiry_due due, aborted, marks.same, work.rpt, work.siu, work.phe, work.elu, work.gst,
      work.mdu, work.mgr, work.pending⟩
  · exact (abortEnd_held other held).trans (if_pos limit)
  · have other' : ¬ (s.efs.hunt.abortCause = .limit ∧ s.mdu.busMode = .season) := by simp [protection]
    rw [abortEnd_held other held, if_neg other', if_pos protection]
    rfl
  · rw [abortEnd_held other held, if_neg limit, if_neg protection]
    rfl

end Sys2Proof.Machine
end

section
/-! PROOFS. The obligation on bus trips, and on what ends the states that follow an earth fault that was not found
(R144 to R146). -/

namespace Sys2Proof.Machine

/-! ## One feeder of a bus trip (R144, step 1) -/

/-- A bus trip orders feeder `f` open. -/
def TripAsked (f : Slot) (s : State) : Prop := (s.feeder f).inService = true ∧ (s.switch f).position ≠ .opened

/-- The number of the OPEN that a bus trip asks: that of the OPEN it joins, or a fresh one (R91, R93). -/
def tripNumber (f : Slot) (s : State) : OrderNo :=
  if (s.order f).state ≠ .idle ∧ (s.order f).kind = .open then (s.order f).number else fresh s f

/-- The bus trip list once feeder `f` has been ordered open. -/
def tripListed (f : Slot) (s : State) : Vector (Option OrderNo) 8 :=
  if s.switchAddress f ≠ 0 then upd s.efs.record.busTripList f (some (tripNumber f s)) else s.efs.record.busTripList

/-- `s` with the bus trip list `l`. -/
def withTripList (l : Vector (Option OrderNo) 8) (s : State) : State :=
  s.setEfs { s.efs.record with busTripList := l }

/-- `s` with EARTH added to feeder `f` and its OPEN asked. -/
def askedOpen (f : Slot) (s : State) : State := (askOrder .open .earth f (addReason .earth f s)).state

section
variable {f k : Slot} {s t u : State}

theorem askedOpen_own (f : Slot) (s : State) : OwnFeeder f s (askedOpen f s) :=
  (addReason_own .earth f s).trans (askOrder_own .open .earth f _)

theorem askedOpen_seq (f : Slot) (s : State) : (askedOpen f s).seq f = (addReason .earth f s).seq f := by
  rw [State.seq, askedOpen, (askOrder_rcs_efs .open .earth f _).1]
  rfl

/-! ### ORU's answer -/

theorem earthOpen_noSwitch (unit : s.switchAddress f = 0) : askOrder .open .earth f s =
    refuseNoSwitch .open .earth f s := askOrder_noSwitch (by simp) unit

theorem earthOpen_taken (unit : s.switchAddress f ≠ 0)
    (free : (s.order f).state = .idle ∨ (s.order f).kind = .close) :
    (askOrder .open .earth f s).answer = .taken (fresh s f) ∧
      (askOrder .open .earth f s).state = withRequest .open .earth f s := by
  have passes : Passes .earth f s := passes_automatic (by decide) unit
  by_cases idle : (s.order f).state = .idle
  · rw [askOrder_open_idle passes idle, take_eq]
    exact ⟨rfl, rfl⟩
  · rw [askOrder_open_superseding passes idle (free.resolve_left idle)]
    exact ⟨rfl, rfl⟩

theorem earthOpen_merged (unit : s.switchAddress f ≠ 0) (flight : (s.order f).state ≠ .idle)
    (kind : (s.order f).kind = .open) :
    (askOrder .open .earth f s).answer = .merged (s.order f).number ∧ (askOrder .open .earth f s).state =
      s.setOrder f { s.order f with joined := joinOrigin (s.order f) .earth } := by
  rw [askOrder_open_merging (passes_automatic (by decide) unit) flight kind]
  exact ⟨rfl, rfl⟩

/-- The number under which ORU takes the OPEN of a feeder with a switch unit. -/
theorem earthOpen_number (unit : s.switchAddress f ≠ 0) :
    (askOrder .open .earth f s).answer = .taken (tripNumber f s) ∨
      (askOrder .open .earth f s).answer = .merged (tripNumber f s) := by
  by_cases joins : (s.order f).state ≠ .idle ∧ (s.order f).kind = .open
  · rw [tripNumber, if_pos joins]
    exact .inr (earthOpen_merged unit joins.1 joins.2).1
  · rw [tripNumber, if_neg joins]
    refine .inl (earthOpen_taken unit ?_).1
    by_cases idle : (s.order f).state = .idle
    · exact .inl idle
    · cases kind : (s.order f).kind with
      | close => exact .inr rfl
      | _ => exact absurd ⟨idle, kind⟩ joins

theorem joinOrigin_earth (o : OrderRecord) : joinOrigin o .earth =
    if o.origin = .earth then o.joined else { o.joined with earth := true } := by
  unfold joinOrigin
  simp only [eq_comm]
  rfl

theorem addEarth_number (f : Slot) (s : State) : tripNumber f (addReason .earth f s) = tripNumber f s := by
  have work := addReason_work .earth f s
  simp only [tripNumber, fresh, work.order_eq, work.switch_eq]

theorem addEarth_unit (f : Slot) (s : State) : (addReason .earth f s).switchAddress f = s.switchAddress f := by
  rw [State.switchAddress, (addReason_work .earth f s).siu]
  rfl

/-! ### The turn of one feeder -/

variable {a b c : State × SlotSet}

theorem busTripFeeder_skips (skips : ¬ TripAsked f a.1) : busTripFeeder a f = a := if_neg skips

theorem busTripFeeder_asks (asked : TripAsked f a.1) :
    busTripFeeder a f = (withTripList (tripListed f a.1) (askedOpen f a.1), upd a.2 f true) := by
  have same : (askedOpen f a.1).efs = a.1.efs := (askedOpen_own f a.1).efs
  unfold busTripFeeder
  refine (if_pos asked).trans ?_
  simp only [efsAsk_eq]
  unfold askedOpen at same ⊢
  by_cases unit : a.1.switchAddress f = 0
  · rw [tripListed, if_neg (not_not.2 unit), ← same, withTripList, earthOpen_noSwitch (by rwa [addEarth_unit])]
    rfl
  · rw [tripListed, if_pos unit, withTripList, ← same, ← addEarth_number]
    rcases earthOpen_number (s := addReason .earth f a.1) (by rwa [addEarth_unit]) with answer | answer <;>
      rw [answer]

/-- What a bus trip leaves alone as it asks its feeders in turn. -/
structure TripKept (a b : State × SlotSet) : Prop where
  outside : OutsideOrdersSame a.1 b.1
  echoMissing : b.1.oru.echoMissing = a.1.oru.echoMissing
  efs : b.1.efs = { a.1.efs with record := { a.1.efs.record with busTripList := b.1.efs.record.busTripList } }
  raised : a.1.raised <+: b.1.raised

theorem TripKept.refl (a : State × SlotSet) : TripKept a a :=
  ⟨⟨rfl, rfl, rfl, rfl, rfl, rfl, rfl, rfl, rfl⟩, rfl, rfl, List.prefix_rfl⟩

theorem TripKept.trans (h : TripKept a b) (i : TripKept b c) : TripKept a c := by
  obtain ⟨rpt, siu, phe, elu, gst, mdu, mgr, due, pending⟩ := h.outside
  obtain ⟨rpt', siu', phe', elu', gst', mdu', mgr', due', pending'⟩ := i.outside
  refine ⟨⟨rpt'.trans rpt, siu'.trans siu, phe'.trans phe, elu'.trans elu, gst'.trans gst, mdu'.trans mdu,
    mgr'.trans mgr, due'.trans due, pending'.trans pending⟩, i.echoMissing.trans h.echoMissing, ?_,
    h.raised.trans i.raised⟩
  rw [i.efs, h.efs]

theorem TripKept.of_own (own : OwnFeeder f s t) (l : Vector (Option OrderNo) 8) (x y : SlotSet) :
    TripKept (s, x) (withTripList l t, y) := by
  refine ⟨own.outside, own.echoMissing, ?_, own.raised⟩
  have efs := own.efs
  simp only [withTripList, State.setEfs, efs]

theorem busTripFeeder_keeps_others (a : State × SlotSet) (f : Slot) : TripKept a (busTripFeeder a f) := by
  by_cases asked : TripAsked f a.1
  · rw [busTripFeeder_asks asked]
    exact .of_own (askedOpen_own f a.1) _ _ _
  · rw [busTripFeeder_skips asked]
    exact .refl a

/-- What the turn of another feeder leaves of feeder `f`. -/
structure TripApart (f : Slot) (a b : State × SlotSet) : Prop where
  kept : TripKept a b
  seq : b.1.seq f = a.1.seq f
  order : b.1.order f = a.1.order f
  switch : b.1.switch f = a.1.switch f
  listed : b.1.efs.record.busTripList[f] = a.1.efs.record.busTripList[f]
  member : b.2[f] = a.2[f]

theorem TripApart.refl (f : Slot) (a : State × SlotSet) : TripApart f a a := ⟨.refl a, rfl, rfl, rfl, rfl, rfl⟩

theorem TripApart.trans (h : TripApart f a b) (i : TripApart f b c) : TripApart f a c :=
  ⟨h.kept.trans i.kept, i.seq.trans h.seq, i.order.trans h.order, i.switch.trans h.switch,
    i.listed.trans h.listed, i.member.trans h.member⟩

theorem tripListed_other (distinct : k ≠ f) : (tripListed k s)[f] = s.efs.record.busTripList[f] := by
  unfold tripListed
  split
  · exact upd_other _ _ distinct
  · rfl

theorem busTripFeeder_apart (distinct : k ≠ f) (a : State × SlotSet) : TripApart f a (busTripFeeder a k) := by
  have kept := busTripFeeder_keeps_others a k
  by_cases asked : TripAsked k a.1
  · obtain ⟨switch, order, seq⟩ := (askedOpen_own k a.1).others f distinct.symm
    rw [busTripFeeder_asks asked] at kept ⊢
    generalize askedOpen k a.1 = t at kept switch order seq ⊢
    exact ⟨kept, seq, order, switch, tripListed_other distinct, upd_other _ _ distinct⟩
  · rw [busTripFeeder_skips asked]
    exact .refl f a

/-- What a bus trip does to the records of a feeder that it orders open (R144, R106, R91 to R93). -/
def TripOpened (f : Slot) (s u : State) : Prop :=
  (s.holds f .earth = true → u.seq f = s.seq f) ∧
    (s.holds f .earth = false →
      let q := { s.seq f with reasons := { (s.seq f).reasons with earth := true } }
      u.seq f = if s.acting f = true ∧ (s.seq f).state = .dead then lockedOut .blocked q else q) ∧
    (s.switchAddress f = 0 → u.order f = s.order f ∧ u.switch f = s.switch f) ∧
    (s.switchAddress f ≠ 0 → (s.order f).state = .idle ∨ (s.order f).kind = .close →
      u.order f = requested .open .earth (fresh s f) ∧ u.switch f = { s.switch f with
        position := positionOf (s.switch f).reported (requested .open .earth (fresh s f)) }) ∧
    (s.switchAddress f ≠ 0 → (s.order f).state ≠ .idle → (s.order f).kind = .open →
      u.switch f = s.switch f ∧ u.order f = { s.order f with
        joined := if (s.order f).origin = .earth then (s.order f).joined
          else { (s.order f).joined with earth := true } })

theorem addEarth_seq (absent : s.holds f .earth = false) : (addReason .earth f s).seq f =
    if s.acting f = true ∧ (s.seq f).state = .dead then
      lockedOut .blocked { s.seq f with reasons := { (s.seq f).reasons with earth := true } }
    else { s.seq f with reasons := { (s.seq f).reasons with earth := true } } := by
  by_cases dead : s.acting f = true ∧ (s.seq f).state = .dead
  · rw [addReason_blocked absent dead.1 dead.2, if_pos dead]
    simp [ReasonSet.put]
  · rw [addReason_absent absent dead, if_neg dead, seq_setSeq_eq]
    rfl

theorem withRequest_switch (k : OrderKind) (who : Origin) : (withRequest k who f s).switch f = { s.switch f with
    position := positionOf (s.switch f).reported (requested k who (fresh s f)) } := by
  simp

theorem askedOpen_opened (f : Slot) (s : State) : TripOpened f s (askedOpen f s) := by
  have work := addReason_work .earth f s
  have number : fresh (addReason .earth f s) f = fresh s f := by simp only [fresh, work.order_eq, work.switch_eq]
  rw [TripOpened, askedOpen_seq]
  refine ⟨fun held => ?_, addEarth_seq, fun none => ?_, fun unit free => ?_, fun unit flight kind => ?_⟩
  · rw [addReason_held held]
  · rw [askedOpen, earthOpen_noSwitch (by rwa [addEarth_unit])]
    exact ⟨work.order_eq f, work.switch_eq f⟩
  · rw [askedOpen, (earthOpen_taken (by rwa [addEarth_unit]) (by rwa [work.order_eq])).2, withRequest_order,
      withRequest_switch, number, work.switch_eq]
    exact ⟨rfl, rfl⟩
  · have merged := (earthOpen_merged (f := f) (s := addReason .earth f s) (by rwa [addEarth_unit])
      (by rwa [work.order_eq]) (by rwa [work.order_eq])).2
    rw [askedOpen, merged, work.order_eq, joinOrigin_earth]
    exact ⟨work.switch_eq f, (State.order_setOrder f f _ _).trans (if_pos rfl)⟩

end

end Sys2Proof.Machine
end

section
/-! PROOFS. The bus trip as a whole, and the obligation on bus trips (R144 to R146). -/

namespace Sys2Proof.Machine

section
variable {f : Slot} {s t u : State} {a b : State × SlotSet}

/-- The state once every feeder has had its turn in a bus trip, and the feeders ordered open. -/
def busTripAsked (s : State) : State × SlotSet := allSlots.foldl busTripFeeder (s, SlotSet.empty)

/-- The bus trip entered from state `x`, once the feeders have been asked (R144, step 2). -/
def busTripEntered (x : EfsState) (a : State × SlotSet) : State :=
  { a.1.setEfs { a.1.efs.record with
      state := .busTrip, countdown := none, identified := none, phase := none, awaited := none } with
    raised := a.1.raised ++ [⟨none, a.1.tod, none, .busTrip a.1.mdu.busMode a.2 x⟩] }

theorem busTripEntered_eq (x : EfsState) (a : State × SlotSet) : enterState .busTrip
    (raise none none (.busTrip a.1.mdu.busMode a.2 x) a.1) = busTripEntered x a := rfl

theorem busTrip_eq (s : State) : busTrip s = busTripEntered s.efs.record.state (busTripAsked s) :=
  busTripEntered_eq _ _

theorem busTripAsked_turn (f : Slot) (s : State) : ∃ a, TripApart f (s, SlotSet.empty) a ∧
    TripApart f (busTripFeeder a f) (busTripAsked s) := by
  obtain ⟨a, -, before, after⟩ := foldl_turn (P := fun _ => True) (R := TripApart f) (g := fun k a => busTripFeeder a k)
    (TripApart.refl f) TripApart.trans (fun _ _ _ => trivial) (fun _ a distinct _ => busTripFeeder_apart distinct a)
    (s, SlotSet.empty) trivial
  exact ⟨a, before, after⟩

theorem busTripAsked_kept (s : State) : TripKept (s, SlotSet.empty) (busTripAsked s) := by
  obtain ⟨a, before, after⟩ := busTripAsked_turn 0 s
  exact (before.kept.trans (busTripFeeder_keeps_others a 0)).trans after.kept

namespace TripApart

theorem asked_iff (h : TripApart f a b) : TripAsked f b.1 ↔ TripAsked f a.1 := by
  obtain ⟨-, -, -, -, gst, -⟩ := h.kept.outside
  rw [TripAsked, State.feeder, gst, h.switch]
  rfl

theorem unit (h : TripApart f a b) : b.1.switchAddress f = a.1.switchAddress f := by
  obtain ⟨-, siu, -⟩ := h.kept.outside
  rw [State.switchAddress, siu]
  rfl

theorem acting (h : TripApart f a b) : b.1.acting f = a.1.acting f := by
  obtain ⟨-, -, -, -, gst, -, mgr, -⟩ := h.kept.outside
  rw [State.acting, State.feeder, gst, mgr]
  rfl

theorem fresh (h : TripApart f a b) : Machine.fresh b.1 f = Machine.fresh a.1 f := by
  simp only [Machine.fresh, h.order, h.switch]

/-- A feeder that others' turns stand apart from is opened as if it had the first turn. -/
theorem opened (h : TripApart f a b) (opened : TripOpened f b.1 u) : TripOpened f a.1 u := by
  have held (r : Reason) : b.1.holds f r = a.1.holds f r := by rw [State.holds, h.seq]; rfl
  rwa [TripOpened, held, h.seq, h.order, h.switch, h.unit, h.acting, h.fresh] at opened

/-- What follows its own turn leaves the feeder as it was opened. -/
theorem opened_after (h : TripApart f a b) (opened : TripOpened f s a.1) : TripOpened f s b.1 := by
  rwa [TripOpened, h.seq, h.order, h.switch]

end TripApart

theorem busTripAsked_opened (asked : TripAsked f s) : TripOpened f s (busTripAsked s).1 := by
  obtain ⟨a, before, after⟩ := busTripAsked_turn f s
  rw [busTripFeeder_asks (before.asked_iff.2 asked)] at after
  have opened : TripOpened f a.1 (withTripList (tripListed f a.1) (askedOpen f a.1)) := askedOpen_opened f a.1
  exact after.opened_after (before.opened opened)

theorem busTripAsked_skipped (skips : ¬ TripAsked f s) :
    TripApart f (s, SlotSet.empty) (busTripAsked s) := by
  obtain ⟨a, before, after⟩ := busTripAsked_turn f s
  rw [busTripFeeder_skips (mt before.asked_iff.1 skips)] at after
  exact before.trans after

theorem busTripAsked_member (f : Slot) (s : State) : (busTripAsked s).2[f] = true ↔ TripAsked f s := by
  by_cases asked : TripAsked f s
  · obtain ⟨a, before, after⟩ := busTripAsked_turn f s
    rw [busTripFeeder_asks (before.asked_iff.2 asked)] at after
    have member : (busTripAsked s).2[f] = true := after.member.trans (upd_same _ _ _)
    exact iff_of_true member asked
  · have member : (busTripAsked s).2[f] = false :=
      (busTripAsked_skipped asked).member.trans (by simp [SlotSet.empty])
    exact iff_of_false (by simp [member]) asked

theorem busTripAsked_listed (f : Slot) (s : State) : (busTripAsked s).1.efs.record.busTripList[f] =
    if (s.feeder f).inService = true ∧ (s.switch f).position ≠ .opened ∧ s.switchAddress f ≠ 0 then
      some (tripNumber f s)
    else s.efs.record.busTripList[f] := by
  by_cases asked : TripAsked f s
  · obtain ⟨a, before, after⟩ := busTripAsked_turn f s
    rw [busTripFeeder_asks (before.asked_iff.2 asked)] at after
    have listed : (busTripAsked s).1.efs.record.busTripList[f] = (tripListed f a.1)[f] := after.listed
    have number : tripNumber f a.1 = tripNumber f s := by
      rw [tripNumber, before.order, before.fresh]
      rfl
    rw [listed, tripListed, before.unit, number]
    by_cases unit : s.switchAddress f = 0
    · rw [if_neg (not_not.2 unit), if_neg fun h => h.2.2 unit]
      exact before.listed
    · rw [if_pos unit, if_pos ⟨asked.1, asked.2, unit⟩]
      exact upd_same _ _ _
  · rw [if_neg fun h => asked ⟨h.1, h.2.1⟩]
    exact (busTripAsked_skipped asked).listed

/-! ## Outcomes and completions (R145, R146) -/

theorem efsReport_busTrip {p : OrderReport} (serves : s.mgr.device = .inService)
    (state : s.efs.record.state = .busTrip) : efsReport p s =
      if (p.happened = .confirmed ∨ p.happened = .failed) ∧ p.number.isSome = true ∧
          s.efs.record.busTripList[p.slot] = p.number then
        withTripList (upd s.efs.record.busTripList p.slot none) s
      else s := by
  by_cases numbered : p.number.isSome = true
  · rw [efsReport, if_pos ⟨serves, numbered⟩, state, numbered]
    simp only [busTripReport, true_and, withTripList]
  · rw [efsReport, if_neg fun h => numbered h.2, if_neg fun h => numbered h.2.1]

/-- Some pair stands in the bus trip list. -/
def TripListed (s : State) : Prop := ∃ f : Slot, s.efs.record.busTripList[f] ≠ none

theorem tripList_empty_iff : s.efs.record.busTripList.toList.all Option.isNone = true ↔ ¬ TripListed s := by
  rw [List.all_eq_true, TripListed]
  simp only [not_exists, not_not]
  refine ⟨fun empty f => ?_, fun empty x mem => ?_⟩
  · exact Option.isNone_iff_eq_none.1 (empty _ (by simp))
  · obtain ⟨i, within, rfl⟩ := List.getElem_of_mem mem
    exact Option.isNone_iff_eq_none.2 (empty ⟨i, by simpa using within⟩)

theorem busTripCompletion_listed (listed : TripListed s) : busTripCompletion s = s :=
  if_neg fun empty => tripList_empty_iff.1 empty listed

theorem busTripCompletion_dropped (empty : ¬ TripListed s) (dropped : s.efs.record.vnDropped = true) :
    busTripCompletion s = episodeEnded .busTripped none s := by
  rw [busTripCompletion, if_pos (tripList_empty_iff.2 empty), if_pos dropped]
  exact endEpisode_eq _ _ _

theorem busTripCompletion_persists (empty : ¬ TripListed s) (held : ¬ s.efs.record.vnDropped = true) :
    busTripCompletion s = persisting s := by
  rw [busTripCompletion, if_pos (tripList_empty_iff.2 empty), if_neg held]
  exact writePersistent_eq s

/-- Where a hunt could be started, a completion with VN dropped ends the episode, and another leaves it. -/
theorem completionIn_unfound {x : EfsState} {r : CycleResult} (unfound : x = .unresolved ∨ x = .persistent) :
    completionIn x r s = if s.efs.record.vnDropped = true then episodeEnded .unresolvedEnd none s else s := by
  rcases unfound with rfl | rfl <;> rfl

theorem efsBecameBan_unfound (serves : s.mgr.device = .inService)
    (unfound : s.efs.record.state = .unresolved ∨ s.efs.record.state = .persistent) :
    efsBecameBan s = busTrip s := by
  rw [efsBecameBan, if_pos serves]
  rcases unfound with state | state <;> rw [state]

theorem efsBecameBan_hunting (serves : s.mgr.device = .inService) (state : s.efs.record.state = .hunting) :
    efsBecameBan s = abortHunt .ban s := by
  rw [efsBecameBan, if_pos serves, state]

theorem efsBecameBan_quiet (unresolved : s.efs.record.state ≠ .unresolved)
    (persistent : s.efs.record.state ≠ .persistent) (still : ¬ HuntUnderWay s) : efsBecameBan s = s := by
  unfold efsBecameBan
  split
  · split
    · exact abortHunt_not_underWay .ban s still
    · next state => exact absurd state unresolved
    · next state => exact absurd state persistent
    · rfl
  · rfl

end

/-- Settles O44: the trip by the turns of the feeders, the outcomes, the completions and B becoming BAN. -/
theorem busTripsOpenFeeders : Obligations.BusTripsOpenFeeders := by
  refine ⟨fun s => ?_, fun p s serves state => ?_, fun r s serves => ?_, fun s serves =>
    ⟨efsBecameBan_unfound serves, fun runs _ => ?_, efsBecameBan_quiet⟩⟩
  · have kept := busTripAsked_kept s
    have members := fun f => busTripAsked_member f s
    have listed := fun f => busTripAsked_listed f s
    have skipped := fun f => busTripAsked_skipped (f := f) (s := s)
    have opened := fun f => busTripAsked_opened (f := f) (s := s)
    rw [busTrip_eq]
    generalize busTripAsked s = a at kept members listed skipped opened ⊢
    obtain ⟨rpt, siu, phe, elu, gst, mdu, mgr, due, pending⟩ := kept.outside
    have tod : a.1.tod = s.tod := by rw [State.tod, mdu]; rfl
    refine ⟨⟨a.2, a.1.efs.record.busTripList, members, ?_, ?_, listed⟩, fun f skips => ?_, opened,
      ⟨rpt, siu, phe, elu, gst, mdu, mgr, due, pending⟩, kept.echoMissing,
      kept.raised.trans (List.prefix_append _ _)⟩
    · simp only [busTripEntered, State.setEfs]
      rw [kept.efs]
    · rw [busTripEntered, tod, mdu]
      simp
    · have apart := skipped f skips
      exact ⟨apart.switch, apart.order, apart.seq⟩
  · rw [efsReport_busTrip serves state]
    exact ⟨fun ends => if_pos ends, fun other => if_neg other⟩
  · have drops := refreshVn_dropped (r := r) (s := s)
    have ending (state : s.efs.record.state = .busTrip) :=
      efsBusCompletion_other (r := r) serves state (by decide)
    have unfound (state : s.efs.record.state = .unresolved ∨ s.efs.record.state = .persistent) :=
      (efsBusCompletion_other (r := r) serves rfl (by rcases state with state | state <;> rw [state] <;> decide)).trans
        (completionIn_unfound state)
    refine ⟨fun state listed => (ending state).trans (busTripCompletion_listed (s := refreshVn r s) listed),
      fun state empty dropped => (ending state).trans (busTripCompletion_dropped (s := refreshVn r s) empty
        (drops.2 dropped)),
      fun state empty held => (ending state).trans (busTripCompletion_persists (s := refreshVn r s) empty
        (mt drops.1 held)),
      fun state dropped => (unfound state).trans (if_pos (drops.2 dropped)),
      fun state held => (unfound state).trans (if_neg (mt drops.1 held))⟩
  · rw [efsBecameBan_hunting serves runs.2.1]
    exact abortHunt_aborted .ban s runs

end Sys2Proof.Machine
end

section
/-! PROOFS. The obligations on the checks of every request (R183, R187), on STATUS (R186) and on OPERATE (R187). -/

namespace Sys2Proof.Machine

/-! ## The checks of every request (R183, R187) -/

section
variable {q : Request} {rest : List Request} {s : State}

/-- A request command whose head is not its own, or whose reply has no room, changes nothing (R183). -/
theorem runRequest_waits (fifo : s.mgr.fifo = q :: rest) (isKind : Nat → Bool) (body : Request → State → Executed)
    (waits : ¬ (isKind (nat8At q.payload 0) = true ∧ s.rpt.replies.length < 4)) :
    runRequest isKind body s = .next s := by
  unfold runRequest
  rw [fifo]
  exact if_neg waits

theorem runRequest_runs (fifo : s.mgr.fifo = q :: rest) (isKind : Nat → Bool) (body : Request → State → Executed)
    (runs : isKind (nat8At q.payload 0) = true ∧ s.rpt.replies.length < 4) : runRequest isKind body s =
      .next (finish (answered q (body q (begun rest s)).code (body q (begun rest s)).content
        (body q (begun rest s)).state)) := by
  unfold runRequest
  rw [fifo]
  exact if_pos runs

theorem withForm_refuses {n : Nat} (body : State → Executed) (length : 2 ≤ q.payload.length)
    (other : q.payload.length ≠ 2 + n) (t : State) : withForm n q t body = refused .invalid t := by
  refine if_neg ?_
  unfold Request.params
  omega

theorem withSlot_refuses (body : Slot → State → Executed) (beyond : 8 ≤ nat8At q.payload 2) (t : State) :
    withSlot q t body = refused .badIndex t := by
  unfold withSlot
  rw [show slotOfByte (q.param 0) = none from dif_neg (by simpa [Request.param] using beyond)]

end

/-- Every request command runs the requests of its kind. -/
theorem requestCommands_run : ∀ x ∈ (.write, 2, 0) :: requestForms, ∃ body : Request → State → Executed,
    ∀ s, exec x.1 s = runRequest (· == x.2.1) body s := by
  simp only [List.forall_mem_cons]
  exact ⟨⟨doWrite, fun _ => rfl⟩, ⟨doRead, fun _ => rfl⟩, ⟨doStatus, fun _ => rfl⟩, ⟨doSnapshot, fun _ => rfl⟩,
    ⟨doOperate, fun _ => rfl⟩, ⟨doBlock, fun _ => rfl⟩, ⟨doUnblock, fun _ => rfl⟩, ⟨doResetLockout, fun _ => rfl⟩,
    ⟨doResetSwitch, fun _ => rfl⟩, ⟨doOverride, fun _ => rfl⟩, ⟨doStartHunt, fun _ => rfl⟩,
    ⟨doAbortHunt, fun _ => rfl⟩, ⟨doEnterService, fun _ => rfl⟩, ⟨doLeaveService, fun _ => rfl⟩,
    ⟨doRestart, fun _ => rfl⟩, fun _ h => nomatch h⟩

/-- Every request but a WRITE has its form judged before anything else. -/
theorem requestForms_judged : ∀ x ∈ requestForms, ∃ body : Request → State → Executed,
    ∀ s, exec x.1 s = runRequest (· == x.2.1) (fun q t => withForm x.2.2 q t (body q)) s := by
  simp only [List.forall_mem_cons]
  exact ⟨⟨_, fun _ => rfl⟩, ⟨_, fun _ => rfl⟩, ⟨_, fun _ => rfl⟩, ⟨_, fun _ => rfl⟩, ⟨_, fun _ => rfl⟩,
    ⟨_, fun _ => rfl⟩, ⟨_, fun _ => rfl⟩, ⟨_, fun _ => rfl⟩, ⟨_, fun _ => rfl⟩, ⟨_, fun _ => rfl⟩,
    ⟨_, fun _ => rfl⟩, ⟨_, fun _ => rfl⟩, ⟨_, fun _ => rfl⟩, ⟨_, fun _ => rfl⟩, fun _ h => nomatch h⟩

/-- Every request that names a feeder slot has its form judged, then its slot. -/
theorem slotForms_judged : ∀ x ∈ slotForms, ∃ body : Request → Slot → State → Executed, ∀ s, exec x.1 s =
    runRequest (· == x.2.1) (fun q t => withForm x.2.2 q t fun t => withSlot q t (body q)) s := by
  simp only [List.forall_mem_cons]
  exact ⟨⟨_, fun _ => rfl⟩, ⟨_, fun _ => rfl⟩, ⟨_, fun _ => rfl⟩, ⟨_, fun _ => rfl⟩, ⟨_, fun _ => rfl⟩,
    ⟨_, fun _ => rfl⟩, fun _ h => nomatch h⟩

/-- Settles O52, by the commands' common shape. -/
theorem requestsAreCheckedFirst : Obligations.RequestsAreCheckedFirst := by
  refine fun q rest s fifo => ⟨fun x mem waits => ?_, fun waits => ?_, fun room length =>
    ⟨fun x mem kind other => ?_, fun x mem kind fits beyond => ?_, fun unknown => ?_⟩⟩
  · obtain ⟨body, run⟩ := requestCommands_run x mem
    rw [run, runRequest_waits fifo _ body]
    rw [beq_iff_eq]
    rintro ⟨kind, room⟩
    exact waits.elim (Nat.not_le.2 room) (· kind)
  · refine runRequest_waits fifo (fun k => k == 0 || decide (15 < k)) doUnknown ?_
    rw [Bool.or_eq_true, beq_iff_eq, decide_eq_true_eq]
    omega
  · obtain ⟨body, run⟩ := requestForms_judged x mem
    rw [Replies, Effect, run, runRequest_runs fifo (· == x.2.1) _ ⟨beq_iff_eq.2 kind, room⟩, withForm_refuses _ length other]
    rfl
  · obtain ⟨body, run⟩ := slotForms_judged x mem
    rw [Replies, Effect, run, runRequest_runs fifo (· == x.2.1) _ ⟨beq_iff_eq.2 kind, room⟩, withForm_fits fits,
      withSlot_refuses _ beyond]
    rfl
  · refine (runRequest_runs fifo (fun k => k == 0 || decide (15 < k)) doUnknown ⟨?_, room⟩).trans rfl
    rw [Bool.or_eq_true, beq_iff_eq, decide_eq_true_eq]
    exact unknown

/-! ## STATUS (R186, R18) -/

theorem streams_allRoles (s : State) : s.siu.streams.toList = allRoles.map s.stream := by
  have roles : allRoles = List.finRange 9 := by decide
  rw [roles]
  exact List.ext_getElem (by simp) fun i _ _ => by simp [State.stream]

theorem statusBytes_eq (s : State) : statusBytes s =
    [(if s.mgr.device = .inService then 1 else 0), BitVec.ofNat 8 s.rpt.ownAddress.toNat,
        BitVec.ofNat 8 s.mgr.destination.toNat] ++ flag s.siu.activated ++
      u16 s.mgr.overflow ++ u16 s.mgr.dropped ++ u8 s.mgr.notices.length ++ u16 s.siu.foreign ++
      (allRoles.map fun r => u8 (s.stream r).state.code ++ u16 (s.stream r).gaps ++
        u16 (s.stream r).duplicates ++ u16 (s.stream r).resyncs ++ flag (s.stream r).notDropped).flatten ++
      u16 s.rpt.crcErrors ++ u16 s.rpt.formatErrors ++ u16 s.rpt.overflows ++
      flag s.rpt.overflowFlag ++ flag s.oru.echoMissing ++ u16 s.mdu.invalidTime := by
  have device : u8 s.mgr.device.code = [if s.mgr.device = .inService then 1 else 0] := by
    cases s.mgr.device <;> rfl
  rw [statusBytes, device, streams_allRoles, List.map_map]
  rfl

theorem clearLatches_stream (s : State) (r : Role) :
    (clearLatches s).stream r = { s.stream r with notDropped := true } := mapV_get _ _ r

/-- Settles O54. -/
theorem statusReportsAndRearms : Obligations.StatusReportsAndRearms := by
  intro q rest s head
  have run := runRequest_head head doStatus
  rw [show doStatus q (begun rest s) = ⟨.ok, statusBytes (begun rest s), clearLatches (begun rest s)⟩ from
    withForm_fits head.2.2.1 _ _] at run
  rw [statusBytes_eq] at run
  exact ⟨clearLatches (begun rest s), run, rfl, clearLatches_stream (begun rest s)⟩

end Sys2Proof.Machine
end

section
/-! PROOFS. The obligation on OPERATE (R187, R89 to R93, R116, R139). -/

namespace Sys2Proof.Machine

/-! ## What RCS and EFS take of an operator's request -/

section
variable {f : Slot} {s : State} {k : OrderKind} {p : OrderReport}

/-- `s` with the sequence of feeder `f` ended by a taken or merged OPEN of the operator (R116). -/
def operatorEnds (f : Slot) (s : State) : State :=
  if s.acting f = true ∧ (s.seq f).state ≠ .lockout then withLockout .operator f s else s

theorem deliver_operatorOpen (answer : p.happened = .taken ∨ p.happened = .merged) (origin : p.origin = .operator)
    (kind : p.kind = .open) : deliver p s = operatorEnds p.slot s := by
  rw [deliver, efsReport_answer _ _ (by tauto), operatorEnds]
  by_cases acts : s.acting p.slot = true
  · rw [rcsReport_operator acts answer origin]
    by_cases locked : (s.seq p.slot).state = .lockout
    · rw [rcsOperator_other (.inl locked), if_neg fun h => h.2 locked]
    · rw [rcsOperator_ends locked (.inl kind), if_pos ⟨acts, locked⟩]
  · rw [rcsReport_resting (by simpa using acts), if_neg fun h => acts h.1]

theorem deliver_operatorClose (answer : p.happened = .taken ∨ p.happened = .merged) (origin : p.origin = .operator)
    (kind : p.kind = .close) : deliver p s = if s.acting p.slot = true ∧ (s.seq p.slot).state = .dead then
      withLockout .operator p.slot s else s := by
  rw [deliver, efsReport_answer _ _ (by tauto)]
  by_cases acts : s.acting p.slot = true
  · rw [rcsReport_operator acts answer origin]
    by_cases dead : (s.seq p.slot).state = .dead
    · rw [rcsOperator_ends (by simp [dead]) (.inr ⟨kind, dead⟩), if_pos ⟨acts, dead⟩]
    · rw [rcsOperator_other (.inr ⟨kind, dead⟩), if_neg fun h => dead h.2]
  · rw [rcsReport_resting (by simpa using acts), if_neg fun h => acts h.1]

theorem deliver_refused (refused : p.happened = .refused) : deliver p s = s := by
  rw [deliver, rcsReport_passed_over (.inr refused), efsReport_answer p s (by tauto)]

theorem deliver_failedUnnumbered (failed : p.happened = .failed) (none : p.number = none) : deliver p s = s := by
  rw [deliver, rcsReport_passes p s (.inr (.inr ⟨failed, none⟩)), efsReport_unnumbered none]

theorem deliver_superseded (superseded : p.happened = .superseded) : deliver p s = efsReport p s := by
  rw [deliver, rcsReport_passed_over (.inl superseded)]

/-- The restore CLOSE of feeder `f` under test is awaited under number `n` (R139). -/
def RestoreAwaited (f : Slot) (n : OrderNo) (s : State) : Prop :=
  s.efs.record.state = .hunting ∧ s.efs.hunt.underTest = some f ∧ s.efs.hunt.step = some .restoring ∧
    s.efs.hunt.order = some n

theorem efsReport_supersededRestore (serves : s.mgr.device = .inService) {n : OrderNo} (number : p.number = some n)
    (superseded : p.happened = .superseded) (awaited : RestoreAwaited p.slot n s) :
    efsReport p s = restoreFailed p.slot s := by
  obtain ⟨state, test, step, order⟩ := awaited
  rw [efsReport_restoring serves state test (by simp [number]) (order.trans number.symm) step, stepRestoreReport,
    superseded]

/-- A superseded order other than an awaited restore is nothing to EFS (R125, R139). -/
theorem efsReport_supersededOther {n : OrderNo} (number : p.number = some n) (superseded : p.happened = .superseded)
    (other : ¬ RestoreAwaited p.slot n s) : efsReport p s = s := by
  by_cases hunting : s.efs.record.state = .hunting
  · unfold efsReport
    split
    · rw [hunting]
      dsimp only
      split
      · next awaits =>
        obtain ⟨test, order⟩ := awaits
        split
        · rw [stepOpenReport, superseded]
        · next step => exact absurd ⟨hunting, test, step, order.trans number⟩ other
        · rfl
      · rfl
    · rfl
  · exact efsReport_superseded superseded hunting

/-! ## OPERATE (R187) -/

theorem operateOrder_refused {c : RefuseCause} {t : State} (asked : ask k .operator f s = (.refused c, t)) :
    operateOrder k f s = ⟨c.code, [], t⟩ := by
  rw [operateOrder, asked]
  rfl

theorem operateOrder_taken {n : OrderNo} {t : State}
    (asked : ask k .operator f s = (.taken n, t) ∨ ask k .operator f s = (.merged n, t)) :
    operateOrder k f s = ⟨.ok, [n], t⟩ := by
  rcases asked with asked | asked <;> rw [operateOrder, asked] <;> rfl

theorem ask_refuse {c : RefuseCause} (judged : askOrder k .operator f s = refuse c k .operator f s) :
    ask k .operator f s = (.refused c, s) := by
  rw [ask, judged]
  exact congrArg _ (deliver_refused rfl)

theorem ask_take (judged : askOrder k .operator f s = take k .operator f s) : ask k .operator f s =
    (.taken (fresh s f), deliver ⟨f, k, .operator, some (fresh s f), .empty, .taken⟩
      (withRequest k .operator f s)) := by
  rw [ask, judged, take_eq]
  rfl

/-- An OPEN of the operator for a feeder without switch unit: the refusal and ORDER_FAIL (R90). -/
theorem ask_openNoSwitch (notEarly : ¬ (Origin.operator = .operator ∧ s.mgr.device = .configuring))
    (none : s.switchAddress f = 0) : ask .open .operator f s = (.refused .noSwitch, raise (some f) Option.none
      (.orderFail .open .operator .empty Option.none (s.switch f).failCount (s.switch f).health) s) := by
  rw [ask, askOrder_noSwitch notEarly none]
  refine congrArg (Prod.mk _) ?_
  exact (congrArg (deliver _) (deliver_refused rfl)).trans (deliver_failedUnnumbered rfl rfl)

/-- An OPEN of the operator that supersedes a CLOSE: the reports reach EFS in their order (R92, log entry 9). -/
theorem ask_supersede (passes : Passes .operator f s) (flight : (s.order f).state ≠ .idle)
    (kind : (s.order f).kind = .close) : ask .open .operator f s = (.taken (fresh s f), operatorEnds f
      (efsReport ⟨f, .close, (s.order f).origin, some (s.order f).number, (s.order f).joined, .superseded⟩
        (withRequest .open .operator f s))) := by
  rw [ask, askOrder_open_superseding passes flight kind]
  refine congrArg (Prod.mk _) ?_
  exact (deliver_operatorOpen (.inl rfl) rfl rfl).trans (congrArg (operatorEnds f) (deliver_superseded rfl))

theorem ask_supersede_other (passes : Passes .operator f s) (flight : (s.order f).state ≠ .idle)
    (kind : (s.order f).kind = .close) (other : ¬ RestoreAwaited f (s.order f).number s) :
    ask .open .operator f s = (.taken (fresh s f), operatorEnds f (withRequest .open .operator f s)) := by
  rw [ask_supersede passes flight kind]
  exact congrArg (fun t => (Answer.taken (fresh s f), operatorEnds f t)) (efsReport_supersededOther rfl rfl other)

theorem ask_supersede_restore (passes : Passes .operator f s) (serves : s.mgr.device = .inService)
    (flight : (s.order f).state ≠ .idle) (kind : (s.order f).kind = .close)
    (awaited : RestoreAwaited f (s.order f).number s) : ask .open .operator f s = (.taken (fresh s f),
      operatorEnds f (restoreFailed f (withRequest .open .operator f s))) := by
  rw [ask_supersede passes flight kind]
  exact congrArg (fun t => (Answer.taken (fresh s f), operatorEnds f t))
    (efsReport_supersededRestore serves rfl rfl awaited)

theorem ask_merge (passes : Passes .operator f s) (flight : (s.order f).state ≠ .idle)
    (kind : (s.order f).kind = .open) : ask .open .operator f s = (.merged (s.order f).number, operatorEnds f
      (s.setOrder f { s.order f with joined := joinOrigin (s.order f) .operator })) := by
  rw [ask, askOrder_open_merging passes flight kind]
  exact congrArg (Prod.mk _) (deliver_operatorOpen (.inr rfl) rfl rfl)

theorem joinOrigin_operator (o : OrderRecord) : joinOrigin o .operator =
    if o.origin = .operator then o.joined else { o.joined with operator := true } := by
  unfold joinOrigin
  simp only [eq_comm]
  rfl

theorem operatorEnds_eq {t : State} (acts : t.acting f = s.acting f) : operatorEnds f t =
    if s.acting f = true ∧ (t.seq f).state ≠ .lockout then withLockout .operator f t else t := by
  rw [operatorEnds, acts]

end

section
variable {q : Request} {rest : List Request} {f : Slot} {s : State}

/-- An OPERATE whose form and slot are good, by its kind byte (R187). -/
theorem operate_runs (head : AtHead 5 2 q rest s) (slot : nat8At q.payload 2 = f.val) {e : Executed}
    (executed : (match OrderKind.ofByte (nat8At q.payload 3) with
      | none => refused .invalid (begun rest s)
      | some k => operateOrder k f (begun rest s)) = e) : Replies .operate s q e.code e.content e.state := by
  have run := runRequest_head head doOperate
  rw [show doOperate q (begun rest s) = e from (withForm_withSlot head slot _ _).trans executed] at run
  exact run

theorem operate_kind (head : AtHead 5 2 q rest s) (slot : nat8At q.payload 2 = f.val) {k : OrderKind}
    (byte : nat8At q.payload 3 = k.code) {e : Executed} (executed : operateOrder k f (begun rest s) = e) :
    Replies .operate s q e.code e.content e.state := by
  refine operate_runs head slot ?_
  rw [byte, ← executed]
  cases k <;> rfl

end

/-- Settles O57, by the kind byte and the cases of the request. -/
theorem operateAsksOrders : Obligations.OperateAsksOrders := by
  intro q rest f s head slot b t ready ends
  have asks (k : OrderKind) (byte : b = k.code) {e : Executed} (executed : operateOrder k f t = e) :
      Replies .operate s q e.code e.content e.state := operate_kind head slot byte executed
  have kinds (low : b ≤ 1) : ∃ k : OrderKind, b = k.code := by
    obtain zero | one : b = 0 ∨ b = 1 := by omega
    · exact ⟨.open, zero⟩
    · exact ⟨.close, one⟩
  have notEarly (serves : s.mgr.device = .inService) :
      ¬ (Origin.operator = .operator ∧ s.mgr.device = .configuring) := by simp [serves]
  have passes (met : ready) : Passes .operator f t := by
    obtain ⟨serves, unit, tag, loc⟩ := met
    exact ⟨notEarly serves, unit, fun _ => ⟨tag, loc⟩⟩
  refine ⟨fun unknown => ?_, fun low early => ?_, fun low serves unit held => ?_, fun zero serves none => ?_,
    fun one serves none => ?_, fun one met flight => ?_, fun one met idle => ?_, fun zero met idle => ?_,
    fun zero met flight kind => ⟨fun other => ?_, fun awaited => ?_⟩, fun zero met flight kind => ?_⟩
  · refine operate_runs (e := refused .invalid t) head slot ?_
    have byte : OrderKind.ofByte b = none := by
      rw [OrderKind.ofByte, if_neg (by omega), if_neg (by omega)]
    rw [byte]
  · obtain ⟨k, byte⟩ := kinds low
    exact asks k byte (operateOrder_refused (ask_refuse (askOrder_early (s := t) ⟨rfl, early⟩)))
  · obtain ⟨k, byte⟩ := kinds low
    cases tag : s.holds f .tag with
    | true => exact asks k byte (operateOrder_refused (ask_refuse
        (askOrder_tagged (s := t) (notEarly serves) unit rfl tag)))
    | false => exact asks k byte (operateOrder_refused (ask_refuse
        (askOrder_local (s := t) (notEarly serves) unit rfl tag (held.resolve_left (by simp [tag])))))
  · exact asks .open zero (operateOrder_refused (ask_openNoSwitch (s := t) (notEarly serves) none))
  · exact asks .close one (operateOrder_refused (ask_refuse
      (askOrder_noSwitch (s := t) (notEarly serves) none)))
  · exact asks .close one (operateOrder_refused (ask_refuse (askOrder_close_busy (passes met) flight)))
  · have asked := ask_take (s := t) (askOrder_close_idle (passes met) idle (by simp))
    rw [deliver_operatorClose (.inl rfl) rfl rfl] at asked
    exact asks .close one (operateOrder_taken (.inl asked))
  · have asked := ask_take (s := t) (askOrder_open_idle (passes met) idle)
    rw [deliver_operatorOpen (.inl rfl) rfl rfl] at asked
    exact asks .open zero (operateOrder_taken (.inl asked))
  · have asked := ask_supersede_other (s := t) (passes met) flight kind other
    exact asks .open zero (operateOrder_taken (.inl asked))
  · have asked := ask_supersede_restore (s := t) (passes met) met.1 flight kind awaited
    have work := restoreFailed_work f (withRequest .open .operator f t)
    have acts : (restoreFailed f (withRequest .open .operator f t)).acting f = s.acting f := by
      rw [State.acting, State.feeder, work.gst, work.mgr]
      rfl
    rw [operatorEnds_eq acts] at asked
    exact ⟨_, rfl, asks .open zero (operateOrder_taken (.inl asked))⟩
  · have asked := ask_merge (s := t) (passes met) flight kind
    rw [joinOrigin_operator] at asked
    exact asks .open zero (operateOrder_taken (.inr asked))

end Sys2Proof.Machine
end

section
/-! PROOFS. The obligation on LEAVE SERVICE (R193, R120, R148). -/

namespace Sys2Proof.Machine

/-! ## The sequencers leave service (R120) -/

section
variable {f : Slot} {s t : State}

theorem leaveSequencer_own (f : Slot) (s : State) : OwnFeeder f s (leaveSequencer f s) := by
  have locks := enterLockout_own .service f s
  unfold leaveSequencer
  dsimp only
  split
  · exact locks
  · exact locks
  · exact locks
  · exact .setSeq f _ s
  · exact .refl f s
  · exact .refl f s

/-- Every sequencer leaves service, and tells of a sequence that it breaks off (R120). -/
theorem leaveSequencers_seq (f : Slot) (s : State) : (forSlots leaveSequencer s).seq f = seqLeft (s.seq f) ∧
    (MidSequence (s.seq f) → lockoutNotice .service f (s.seq f) s ∈ (forSlots leaveSequencer s).raised) := by
  obtain ⟨t, -, before, after⟩ := forSlots_turn (P := fun _ => True) (R := Apart f) (g := leaveSequencer)
    (.refl f) .trans (fun _ _ _ => trivial) (fun k t distinct _ => .of_own (leaveSequencer_own k t) distinct) s trivial
  refine ⟨by rw [after.seq, leaveSequencer_seq, before.seq], fun mid => ?_⟩
  have notice : lockoutNotice .service f (s.seq f) s = lockoutNotice .service f (t.seq f) t := by
    have tod : t.tod = s.tod := by simp only [State.tod, before.mdu]
    rw [before.seq, lockoutNotice, lockoutNotice, tod]
  rw [notice]
  rw [← before.seq] at mid
  refine after.raised.subset ?_
  rw [leaveSequencer_mid f t mid]
  exact List.mem_append_right _ List.mem_cons_self

theorem leaveSequencers_work (s : State) : RcsWork s (forSlots leaveSequencer s) :=
  forSlots_keeps (P := RcsWork s) (fun f _ h => h.trans (leaveSequencer_work f _)) s (.refl s)

/-! ## The feeder under test (R148) -/

/-- The feeder under test is left open when service ends (R148). -/
def TestOpen (f : Slot) (s : State) : Prop :=
  (s.switch f).position ≠ .closed ∨ (s.order f).state ≠ .idle ∧ (s.order f).kind = .open

/-- `s` with EARTH added to feeder `f` and its lockout demanded. -/
def earthDemanded (f : Slot) (s : State) : State := demandLockout f (addReason .earth f s)

theorem earthDemanded_notice (acts : s.acting f = true) (live : (s.seq f).state ≠ .lockout) :
    lockoutNotice (earthLocked (s.acting f) (s.seq f)).lockoutCause f
      { s.seq f with reasons := { (s.seq f).reasons with earth := true } } s ∈ (earthDemanded f s).raised := by
  have cause : (earthLocked (s.acting f) (s.seq f)).lockoutCause =
      if (s.seq f).state = .dead ∧ s.holds f .earth = false then .blocked else .earth := by
    rw [earthLocked, if_neg (by simp [acts, live])]
    rfl
  rw [cause, earthDemanded]
  by_cases dead : (s.seq f).state = .dead ∧ s.holds f .earth = false
  · rw [if_pos dead, addEarth_locks ⟨acts, dead⟩]
    refine (demandLockout_work f _).raised.subset (List.mem_append_right _ ?_)
    rw [withEarth, seq_setSeq_eq]
    exact List.mem_cons_self
  · rw [if_neg dead, addReason_writes fun h => dead h.2, demandLockout_locks (f := f)]
    · refine List.mem_append_right _ ?_
      rw [seq_setSeq_eq]
      exact List.mem_cons_self
    · exact ⟨acts, by rwa [seq_setSeq_eq]⟩

/-- The feeder under test loses HUNT when service ends, left open first where it must be (R148). -/
def testEnded (f : Slot) (s : State) : State :=
  removeReason .hunt f (if (s.switch f).position ≠ Position.closed ∨
      ((s.order f).inFlight = true ∧ (s.order f).kind = OrderKind.open) then earthDemanded f s else s)

theorem testEnded_work (f : Slot) (s : State) : RcsWork s (testEnded f s) :=
  (RcsWork.ite (leftOpen_work f s) (.refl s)).trans (removeReason_work .hunt f _)

theorem testEnded_open (leftOpen : TestOpen f s) : testEnded f s = removeReason .hunt f (earthDemanded f s) :=
  congrArg (removeReason .hunt f) (if_pos (leftOpen.imp_right fun ⟨flight, kind⟩ => ⟨(inFlight_iff _).2 flight, kind⟩))

theorem testEnded_closed (closed : ¬ TestOpen f s) : testEnded f s = removeReason .hunt f s :=
  congrArg (removeReason .hunt f) (if_neg fun h => closed
    (h.imp_right fun ⟨flight, kind⟩ => ⟨(inFlight_iff _).1 flight, kind⟩))

theorem removeHunt_seq (f : Slot) (s : State) : (removeReason .hunt f s).seq f =
    { s.seq f with reasons := { (s.seq f).reasons with hunt := false } } := seq_setSeq_eq s f _

theorem earthDemanded_seq (f : Slot) (s : State) :
    (earthDemanded f s).seq f = earthLocked (s.acting f) (s.seq f) := by
  obtain ⟨same, -⟩ := leftOpen_demandLockout f s
  rw [earthDemanded, same]
  exact seq_setSeq_eq s f _

theorem testEnded_other {g : Slot} (distinct : g ≠ f) : (testEnded f s).seq g = s.seq g := by
  have own : OwnFeeder f s (testEnded f s) :=
    (OwnFeeder.ite ((addReason_own .earth f s).trans (demandLockout_own f _)) (.refl f s)).trans
      (removeReason_own .hunt f _)
  exact (own.others g distinct).2.2

/-- `s` with the feeder under test, if there is one in a hunt, no longer in the hunt's hands (R148). -/
def huntReleased (s : State) : State :=
  match s.efs.record.state, s.efs.hunt.underTest with
  | .hunting, some f => testEnded f s
  | _, _ => s

theorem huntReleased_test (hunting : s.efs.record.state = .hunting) (test : s.efs.hunt.underTest = some f) :
    huntReleased s = testEnded f s := by rw [huntReleased, hunting, test]

theorem huntReleased_work (s : State) : RcsWork s (huntReleased s) := by
  unfold huntReleased
  split
  · exact testEnded_work _ s
  · exact .refl s

theorem huntReleased_other (other : ¬ (s.efs.record.state = .hunting ∧ s.efs.hunt.underTest = some f)) :
    (huntReleased s).seq f = s.seq f := by
  unfold huntReleased
  split
  · next g hunting test =>
    refine testEnded_other fun same => other ⟨hunting, ?_⟩
    rw [test, same]
  · rfl

/-! ## EFS leaves service (R148) -/

/-- The record of EFS when service ends. -/
def earthLeft (e : EfsRecord) : EfsRecord :=
  { e with
    state := .quiet, countdown := none, identified := none, phase := none, awaited := none
    busTripList := .replicate 8 none }

/-- The hunt record when service ends: no feeder is under test. -/
def huntLeft (hunting : Bool) (h : HuntRecord) : HuntRecord :=
  { h with
    underTest := none, step := none, countdown := none, order := none
    abortCause := if hunting then .service else h.abortCause }

/-- The result that the end of service writes for an episode under way. -/
def serviceResult (s : State) : EarthResult :=
  ⟨.aborted, if s.efs.record.state = .hunting then s.efs.hunt.underTest else none, s.efs.record.episodeTod, s.tod,
    s.efs.record.votes, s.efs.record.candidates⟩

theorem endHuntUnrestored_eq (hunting : s.efs.record.state = .hunting) : endHuntUnrestored s =
    (huntReleased s).setHunt { s.efs.hunt with abortCause := .service } := by
  have efs := (huntReleased_work s).efs
  cases test : s.efs.hunt.underTest with
  | none =>
    have still : huntReleased s = s := by rw [huntReleased, hunting, test]
    rw [still, endHuntUnrestored, test]
  | some f =>
    have released := huntReleased_test hunting test
    rw [released] at efs ⊢
    rw [endHuntUnrestored, test, ← efs]
    rfl

/-- `s` with EFS at rest, its episode over (R148). -/
def earthAtRest (s : State) : State :=
  { s with efs := { s.efs with record := earthLeft s.efs.record, hunt := huntLeft false s.efs.hunt } }

theorem earthAtRest_eq (s : State) : (enterState .quiet (clearStep s)).setEfs
    { (enterState .quiet (clearStep s)).efs.record with busTripList := .replicate 8 none } = earthAtRest s := rfl

theorem efsLeaveService_eq (s : State) : efsLeaveService s = earthAtRest
    (if s.efs.record.state = .quiet then
      (if s.efs.record.state = .hunting then endHuntUnrestored s else s)
    else writeOutcome .aborted (if s.efs.record.state = .hunting then s.efs.hunt.underTest else none)
      (if s.efs.record.state = .hunting then endHuntUnrestored s else s)) := earthAtRest_eq _

theorem efsLeaveService_quiet (quiet : s.efs.record.state = .quiet) : efsLeaveService s = earthAtRest s := by
  rw [efsLeaveService_eq, if_pos quiet, if_neg (by simp [quiet])]

/-- The state that the abort of an episode leaves when service ends (R148). -/
def episodeLeft (s : State) : State :=
  { huntReleased s with
    efs := { s.efs with
      record := earthLeft s.efs.record
      hunt := huntLeft (s.efs.record.state = .hunting) s.efs.hunt
      result := serviceResult s }
    raised := (huntReleased s).raised ++ [⟨none, s.tod, none, .efResult (serviceResult s)⟩] }

theorem efsLeaveService_hunting (hunting : s.efs.record.state = .hunting) : efsLeaveService s = episodeLeft s := by
  have work := huntReleased_work s
  have tod : (huntReleased s).tod = s.tod := by simp only [State.tod, work.mdu]
  have result : serviceResult s = ⟨.aborted, s.efs.hunt.underTest, s.efs.record.episodeTod, s.tod,
      s.efs.record.votes, s.efs.record.candidates⟩ := by rw [serviceResult, if_pos hunting]
  have left : huntLeft (s.efs.record.state = .hunting) s.efs.hunt = huntLeft true s.efs.hunt := by
    simp only [hunting, decide_true]
  rw [efsLeaveService_eq, if_neg (by simp [hunting]), if_pos hunting, if_pos hunting, endHuntUnrestored_eq hunting,
    episodeLeft, result, left, ← work.efs, ← tod]
  rfl

theorem efsLeaveService_other (active : s.efs.record.state ≠ .quiet) (other : s.efs.record.state ≠ .hunting) :
    efsLeaveService s = episodeLeft s := by
  have still : huntReleased s = s := by
    unfold huntReleased
    split
    · next hunting _ => exact absurd hunting other
    · rfl
  have result : serviceResult s = ⟨.aborted, none, s.efs.record.episodeTod, s.tod,
      s.efs.record.votes, s.efs.record.candidates⟩ := by rw [serviceResult, if_neg other]
  have left : huntLeft (s.efs.record.state = .hunting) s.efs.hunt = huntLeft false s.efs.hunt := by
    simp only [other, decide_false]
  rw [efsLeaveService_eq, if_neg active, if_neg other, if_neg other, episodeLeft, still, result, left]
  rfl

/-- What EFS leaves when service ends (R148): its record and hunt, the result of an episode under way, and the
sequencers, where the feeder under test alone is released. -/
structure EarthEnded (s t : State) : Prop where
  work : EfsWork s t
  due : t.due = s.due
  oru : t.oru = s.oru
  record : t.efs.record = earthLeft s.efs.record
  hunt : t.efs.hunt = huntLeft (s.efs.record.state = .hunting) s.efs.hunt
  quiet : s.efs.record.state = .quiet → t.efs.result = s.efs.result
  result : s.efs.record.state ≠ .quiet → t.efs.result = serviceResult s ∧
    ⟨none, s.tod, none, .efResult (serviceResult s)⟩ ∈ t.raised
  seqs : ∀ f, t.seq f = (huntReleased s).seq f
  raised : (huntReleased s).raised <+: t.raised

theorem episodeLeft_ended (active : s.efs.record.state ≠ .quiet) (left : efsLeaveService s = episodeLeft s) :
    EarthEnded s (episodeLeft s) := by
  have work := huntReleased_work s
  exact ⟨left ▸ efsLeaveService_work s, work.due, work.oru, rfl, rfl, fun quiet => absurd quiet active,
    fun _ => ⟨rfl, by simp [episodeLeft]⟩, fun _ => rfl, List.prefix_append _ _⟩

theorem efsLeaveService_ended (s : State) : EarthEnded s (efsLeaveService s) := by
  by_cases hunting : s.efs.record.state = .hunting
  · have left := efsLeaveService_hunting hunting
    exact left ▸ episodeLeft_ended (by simp [hunting]) left
  · by_cases quiet : s.efs.record.state = .quiet
    · have still : huntReleased s = s := by rw [huntReleased, quiet]
      have left : huntLeft (s.efs.record.state = .hunting) s.efs.hunt = huntLeft false s.efs.hunt := by
        simp only [hunting, decide_false]
      have work := efsLeaveService_work s
      rw [efsLeaveService_quiet quiet] at work ⊢
      exact ⟨work, rfl, rfl, rfl, left.symm, fun _ => rfl, fun active => absurd quiet active,
        fun _ => by rw [still]; rfl, by rw [still]; exact List.prefix_rfl⟩
    · have left := efsLeaveService_other quiet hunting
      exact left ▸ episodeLeft_ended quiet left

/-! ## LEAVE SERVICE (R193) -/

theorem lockoutNotice_tod (c : LockoutCause) (f : Slot) (q : SeqRecord) (tod : t.tod = s.tod) :
    lockoutNotice c f q t = lockoutNotice c f q s := by rw [lockoutNotice, lockoutNotice, tod]

/-- The sequencer of the feeder under test once EFS has left service, but for HUNT (R148, R117). -/
def testSeq (f : Slot) (s : State) : SeqRecord :=
  if (s.switch f).position ≠ .closed ∨ (s.order f).state ≠ .idle ∧ (s.order f).kind = .open then
    earthLocked (s.acting f) (s.seq f)
  else s.seq f

theorem testSeq_open (leftOpen : TestOpen f s) : testSeq f s = earthLocked (s.acting f) (s.seq f) := if_pos leftOpen

theorem testEnded_seq (f : Slot) (s : State) : (testEnded f s).seq f =
    { testSeq f s with reasons := { (testSeq f s).reasons with hunt := false } } := by
  by_cases leftOpen : TestOpen f s
  · rw [testEnded_open leftOpen, removeHunt_seq, earthDemanded_seq, testSeq_open leftOpen]
  · have closed : testSeq f s = s.seq f := if_neg leftOpen
    rw [testEnded_closed leftOpen, removeHunt_seq, closed]

/-- The notice of the lockout that EFS demands of a feeder left open at the end of service. -/
theorem testEnded_notice (leftOpen : TestOpen f s) (acts : s.acting f = true) (live : (s.seq f).state ≠ .lockout) :
    lockoutNotice (testSeq f s).lockoutCause f
      { s.seq f with reasons := { (s.seq f).reasons with earth := true } } s ∈ (testEnded f s).raised := by
  rw [testEnded_open leftOpen, testSeq_open leftOpen]
  exact (removeReason_work .hunt f _).raised.subset (earthDemanded_notice acts live)

/-- What LEAVE SERVICE leaves of one feeder's sequencer, given the record `q` that EFS leaves. -/
structure SeqEnded (f : Slot) (q : SeqRecord) (s v : State) : Prop where
  seq : v.seq f = seqLeft q
  told : MidSequence q → lockoutNotice .service f q s ∈ v.raised

/-- `s` in CONFIGURING, with no group and every element cleared (R193, step 3). -/
def atRest (s : State) : State := clearGroups (clearElements { s with mgr := { s.mgr with device := .configuring } })

theorem leaveService_eq (s : State) : leaveService s = atRest (forSlots leaveSequencer (efsLeaveService s)) := by
  unfold leaveService atRest
  rfl

theorem leaveService_seq {q : SeqRecord} (left : (huntReleased s).seq f = q) : SeqEnded f q s (leaveService s) := by
  have ended := efsLeaveService_ended s
  obtain ⟨seq, told⟩ := leaveSequencers_seq f (efsLeaveService s)
  have tod : (efsLeaveService s).tod = s.tod := by simp only [State.tod, ended.work.mdu]
  rw [ended.seqs f, left] at seq told
  rw [lockoutNotice_tod _ _ _ tod] at told
  rw [leaveService_eq]
  generalize forSlots leaveSequencer (efsLeaveService s) = t at seq told ⊢
  exact ⟨seq, told⟩

/-- What the end of service leaves, but for the sequencers (R193, R148, R38, R72). -/
theorem leaveService_rest (s : State) : (leaveService s).mgr = { s.mgr with device := .configuring } ∧
    (∀ f, (leaveService s).trip f = s.trip f) ∧ (leaveService s).efs = (efsLeaveService s).efs ∧
    (leaveService s).oru = s.oru ∧ (leaveService s).siu = s.siu ∧ (leaveService s).phe = s.phe ∧
    (leaveService s).mdu = s.mdu ∧ (leaveService s).rpt = s.rpt ∧ (leaveService s).gst.curves = s.gst.curves ∧
    (leaveService s).gst.groups = s.gst.groups ∧ (leaveService s).gst.feeders = s.gst.feeders ∧
    (efsLeaveService s).raised <+: (leaveService s).raised := by
  have ended := efsLeaveService_ended s
  have first := ended.work
  have work := leaveSequencers_work (efsLeaveService s)
  rw [leaveService_eq]
  generalize forSlots leaveSequencer (efsLeaveService s) = t at work ⊢
  generalize efsLeaveService s = a at ended first work ⊢
  have trips : t.elu.trips = s.elu.trips := congrArg Elu.trips (work.elu.trans first.elu)
  have gst : t.gst = s.gst := work.gst.trans first.gst
  have curves : t.gst.curves = s.gst.curves := congrArg Gst.curves gst
  have groups : t.gst.groups = s.gst.groups := congrArg Gst.groups gst
  have feeders : t.gst.feeders = s.gst.feeders := congrArg Gst.feeders gst
  have mgr : t.mgr = s.mgr := work.mgr.trans first.mgr
  exact ⟨congrArg (fun m : Mgr => { m with device := .configuring }) mgr,
    fun f => congrArg (fun x : Vector TripRecord 8 => x[f]) trips, work.efs, work.oru.trans ended.oru,
    work.siu.trans first.siu, work.phe.trans first.phe, work.mdu.trans first.mdu, work.rpt.trans first.rpt, curves,
    groups, feeders, work.raised⟩

end

/-- Settles O59: EFS, then the sequencers, then MGR, the groups and the elements. -/
theorem leaveServiceEndsTheWork : Obligations.LeaveServiceEndsTheWork := by
  intro q rest s head e h hunting
  have run := runRequest_head head doLeaveService
  rw [show doLeaveService q (begun rest s) = if s.mgr.device = .configuring then refused .state (begun rest s)
      else ⟨.ok, [], leaveService (begun rest s)⟩ from withForm_fits head.2.2.1 _ _] at run
  refine ⟨fun rests => ?_, fun serves => ?_⟩
  · rw [if_pos rests] at run
    exact run
  · rw [if_neg (by simp [serves])] at run
    have ended := efsLeaveService_ended (begun rest s)
    have seqs := fun (f : Slot) (q : SeqRecord) => leaveService_seq (f := f) (s := begun rest s) (q := q)
    obtain ⟨mgr, trip, efs, oru, siu, phe, mdu, rpt, curves, groups, feeders, raised⟩ :=
      leaveService_rest (begun rest s)
    have cleared (f : Slot) : (leaveService (begun rest s)).activeGroup f = none ∧
        (leaveService (begun rest s)).pendingGroup f = none ∧
        (leaveService (begun rest s)).element f = ElementState.cleared :=
      ⟨cleared_activeGroup f _, cleared_pendingGroup f _, cleared_element f _⟩
    generalize leaveService (begun rest s) = v at *
    refine ⟨v, run, mgr, fun f => ?_, efs ▸ ended.record, ?_, fun quiet => efs ▸ ended.quiet quiet,
      fun active => ?_, fun f other => ?_, fun f runs test => ⟨?_, ?_, fun leftOpen acts live => ?_⟩, oru, siu, phe,
      mdu, rpt, curves, groups, feeders, efs ▸ ended.work.settings, efs ▸ ended.work.huntOrder⟩
    · obtain ⟨active, pending, element⟩ := cleared f
      exact ⟨active, pending, element, trip f⟩
    · rw [efs, ended.hunt]
      simp only [huntLeft, decide_eq_true_eq]
      rfl
    · obtain ⟨result, notice⟩ := ended.result active
      exact ⟨efs ▸ result, raised.subset notice⟩
    · obtain ⟨seq, told⟩ := seqs f (s.seq f) (huntReleased_other (s := begun rest s) other)
      exact ⟨seq, told⟩
    all_goals
      have released := huntReleased_test (s := begun rest s) runs test
    · exact (seqs f _ (released ▸ testEnded_seq f (begun rest s))).seq
    · exact (seqs f _ (released ▸ testEnded_seq f (begun rest s))).told
    · refine raised.subset (ended.raised.subset ?_)
      rw [released]
      exact testEnded_notice (s := begun rest s) leftOpen acts live

end Sys2Proof.Machine
end

section
/-! PROOFS. The activation of the unit map (R3, R84), and the obligation on RESTART (R194). -/

namespace Sys2Proof.Machine

/-! ## The activation of the unit map (R3, R20, R84) -/

/-- Nothing differs but stream, switch and order records. -/
structure DevicesKept (s t : State) : Prop where
  same : t = { s with
    siu := { s.siu with streams := t.siu.streams }
    oru := { s.oru with switches := t.oru.switches, orders := t.oru.orders } }

namespace DevicesKept

theorem refl (s : State) : DevicesKept s s := ⟨rfl⟩

theorem trans {s t u : State} (h : DevicesKept s t) (i : DevicesKept t u) : DevicesKept s u := by
  refine ⟨i.same.trans ?_⟩
  rw [h.same]

theorem forSlots {g : Slot → State → State} (h : ∀ f s, DevicesKept s (g f s)) (s : State) :
    DevicesKept s (Machine.forSlots g s) := forSlots_keeps (fun f _ i => i.trans (h f _)) s (.refl s)

theorem foldl {α : Type} {g : State → α → State} (h : ∀ s a, DevicesKept s (g s a)) (l : List α) (s : State) :
    DevicesKept s (l.foldl g s) := by
  induction l generalizing s with
  | nil => exact .refl s
  | cons a l ih => exact (h s a).trans (ih _)

end DevicesKept

section
variable {f : Slot} {s t : State}

/-- `s` with the staged map active and the windows emptied (R3, R20). -/
def mapActive (s : State) : State :=
  { s with siu := { s.siu with active := s.siu.staged, activated := true }, phe := Phe.powerOn }

/-- `s` with the staged map active and its streams set up (R3). -/
def streamsActive (s : State) : State := allRoles.foldl (fun v r => activateStream r v) (mapActive s)

theorem activateMap_switches (s : State) : activateMap s = forSlots activateSwitch (streamsActive s) := activateMap_eq s

theorem streamsActive_keeps (s : State) :
    (streamsActive s).oru = s.oru ∧ (streamsActive s).siu.active = s.siu.staged :=
  foldl_keeps (P := fun t => t.oru = s.oru ∧ t.siu.active = s.siu.staged) (g := fun v r => activateStream r v)
    (fun _ _ h => h) allRoles (mapActive s) ⟨rfl, rfl⟩

theorem activateMap_devices (s : State) : DevicesKept (mapActive s) (activateMap s) := by
  have stream (t : State) (r : Role) : DevicesKept t (activateStream r t) := ⟨rfl⟩
  have switch (f : Slot) (t : State) : DevicesKept t (activateSwitch f t) := ⟨rfl⟩
  rw [activateMap_switches]
  exact (DevicesKept.foldl stream allRoles (mapActive s)).trans (.forSlots switch _)

theorem activateMap_order (f : Slot) (s : State) : (activateMap s).order f = s.order f := by
  rw [activateMap_switches, State.order, forSlots_reader (g := activateSwitch) (fun t => t.oru.orders) (fun _ _ => rfl),
    (streamsActive_keeps s).1]
  rfl

theorem activateSwitch_switch (f g : Slot) (s : State) : (activateSwitch f s).switch g =
    if f = g then activatedSwitch (s.switchAddress f) (s.switch f) else s.switch g := State.switch_setSwitch ..

/-- Each switch record is set up for the unit that the staged map gives its feeder (R84). -/
theorem activateMap_switch (f : Slot) (s : State) :
    (activateMap s).switch f = activatedSwitch (s.siu.staged[9 + f.val]) (s.switch f) := by
  have each (t : State) : (forSlots activateSwitch t).switch f =
      activatedSwitch (t.siu.active[9 + f.val]) (t.switch f) :=
    forSlots_read (g := activateSwitch) (fun t f => t.switch f) (fun t => t.siu.active)
      (fun (active : Vector RingAddr 17) (f : Slot) w => activatedSwitch active[9 + f.val] w)
      (fun s f => by rw [activateSwitch_switch, if_pos rfl]; rfl)
      (fun s f g distinct => by rw [activateSwitch_switch, if_neg distinct]) (fun _ _ => rfl) t f
  obtain ⟨oru, active⟩ := streamsActive_keeps s
  rw [activateMap_switches, each, State.switch, oru, active]
  rfl

theorem activatedSwitch_eq (a : RingAddr) (w : SwitchRecord) : activatedSwitch a w = { w with
    supervision := if a = 0 then none else some 1000
    health := if w.health = .failed then .failed else if a = 0 then .unreachable else .reachable } := by
  unfold activatedSwitch
  by_cases none : a = 0
  · simp only [if_pos none]
  · simp only [if_neg none]

/-! ## Orders abandoned (R99) -/

theorem abandonOrder_own_records (f : Slot) (s : State) : ((abandonOrder f s).order f, (abandonOrder f s).switch f) =
    (idle (s.order f), { s.switch f with position := positionOf (s.switch f).reported (idle (s.order f)) }) := by
  rw [abandonOrder, putOrder_order, putOrder_switch, derivePosition_eq_positionOf]
  rfl

theorem abandonOrders_records (f : Slot) (s : State) :
    (forSlots abandonOrder s).order f = idle (s.order f) ∧ (forSlots abandonOrder s).switch f =
      { s.switch f with position := positionOf (s.switch f).reported (idle (s.order f)) } := by
  have read := forSlots_read (g := abandonOrder) (fun t f => (t.order f, t.switch f)) (fun _ => ())
    (fun _ _ x => (idle x.1, { x.2 with position := positionOf x.2.reported (idle x.1) }))
    (fun s f => abandonOrder_own_records f s) (fun s f k distinct => by
      obtain ⟨switch, order, -⟩ := (putOrder_own f (s.order f).idled s).others k distinct.symm
      exact Prod.ext order switch) (fun _ _ => rfl) s f
  exact ⟨congrArg Prod.fst read, congrArg Prod.snd read⟩

/-! ## The sequencers at RESTART (R104, R121) -/

theorem setRestartReasons_seq (f : Slot) (s : State) : (forSlots setRestartReasons s).seq f =
    { s.seq f with reasons := restartReasons s f } :=
  forSlots_read (g := setRestartReasons) (fun t f => t.seq f) restartReasons
    (fun after f q => { q with reasons := after f }) (fun s f => seq_setSeq_eq s f _)
    (fun s f g distinct => (State.seq_setSeq f g _ s).trans (if_neg distinct))
    (fun s f => funext fun g => restartReasons_setRestartReasons f g s) s f

theorem restartSequencer_own (f : Slot) (s : State) : OwnFeeder f s (restartSequencer f s) := by
  have locks := enterLockout_own .service f s
  unfold restartSequencer
  dsimp only
  split
  · exact locks
  · exact locks
  · exact locks
  · exact .setSeq f _ s
  · exact .setSeq f _ s
  · exact .setSeq f _ s

/-- What RESTART makes of one sequencer, its reasons set (R121). -/
structure SeqRestarted (f : Slot) (s t : State) : Prop where
  mid : MidSequence (s.seq f) → t.seq f = lockedOut .service (s.seq f) ∧
    lockoutNotice .service f (s.seq f) s ∈ t.raised
  locked : (s.seq f).state = .lockout → t.seq f =
    { s.seq f with dead := none, reclaim := none, endCause := .none, awaited := none }
  ready : (s.seq f).state = .ready ∨ (s.seq f).state = .reclaim → t.seq f =
    ⟨.ready, 0, .none, none, none, none, .none, (s.seq f).reasons⟩

theorem restartSequencer_restarted (f : Slot) (s : State) : SeqRestarted f s (restartSequencer f s) := by
  refine ⟨fun mid => ?_, fun locked => ?_, fun ready => ?_⟩
  · have locks : restartSequencer f s = withLockout .service f s := by
      unfold restartSequencer
      dsimp only
      rcases mid with state | state | state <;> rw [state] <;> exact enterLockout_eq _ _ _ (by simp [state])
    rw [locks]
    exact ⟨seq_setSeq_eq s f _, List.mem_append_right _ List.mem_cons_self⟩
  · unfold restartSequencer
    dsimp only
    rw [locked]
    exact seq_setSeq_eq s f _
  · unfold restartSequencer
    dsimp only
    rcases ready with state | state <;> rw [state] <;> exact seq_setSeq_eq s f _

theorem restartSequencers_restarted (f : Slot) (s : State) : SeqRestarted f s (forSlots restartSequencer s) := by
  obtain ⟨t, -, before, after⟩ := forSlots_turn (P := fun _ => True) (R := Apart f) (g := restartSequencer)
    (.refl f) .trans (fun _ _ _ => trivial) (fun k t distinct _ => .of_own (restartSequencer_own k t) distinct) s
    trivial
  obtain ⟨mid, locked, ready⟩ := restartSequencer_restarted f t
  have tod : t.tod = s.tod := by simp only [State.tod, before.mdu]
  rw [before.seq] at mid locked ready
  rw [lockoutNotice_tod _ _ _ tod] at mid
  refine ⟨fun h => ?_, fun h => by rw [after.seq, locked h], fun h => by rw [after.seq, ready h]⟩
  obtain ⟨seq, told⟩ := mid h
  exact ⟨after.seq.trans seq, after.raised.subset told⟩

end

end Sys2Proof.Machine
end

section
/-! PROOFS. The obligation on RESTART (R194, R3, R20, R99, R104, R121, R148, R180). -/

namespace Sys2Proof.Machine

section
variable {f : Slot} {s b v : State}

/-- RESTART up to the block reasons: queues, unit map, orders, device state, elements and groups (R194). -/
def restartBase (s : State) : State := atRest (forSlots abandonOrder (activateMap (emptyQueues s)))

/-- RESTART with the reasons and the sequencers (R104, R121). -/
def restartSequencers (b : State) : State := forSlots restartSequencer (forSlots setRestartReasons b)

theorem restart_eq (s : State) : restart s = efsRestart (restartSequencers (restartBase s)) := by
  unfold restart restartSequencers restartBase atRest
  rfl

/-- What RESTART has done before it comes to the reasons. -/
structure RestartBase (s b : State) : Prop where
  devices : DevicesKept (atRest (mapActive (emptyQueues s))) b
  streams : ∀ r, b.stream r = (s.stream r).activated s.siu.staged[r.val]
  orders : ∀ f, b.order f = idle (s.order f)
  switches : ∀ f, b.switch f = { s.switch f with
    supervision := if s.siu.staged[9 + f.val] = 0 then none else some 1000
    health := if (s.switch f).health = .failed then .failed
      else if s.siu.staged[9 + f.val] = 0 then .unreachable else .reachable
    position := positionOf (s.switch f).reported (idle (s.order f)) }

theorem restartBase_base (s : State) : RestartBase s (restartBase s) := by
  have abandoned (t : State) : DevicesKept t (forSlots abandonOrder t) := .forSlots (fun f t => ⟨rfl⟩) t
  have kept := (activateMap_devices (emptyQueues s)).trans (abandoned _)
  have records := fun f => abandonOrders_records f (activateMap (emptyQueues s))
  have streams (r : Role) : (forSlots abandonOrder (activateMap (emptyQueues s))).stream r =
      (s.stream r).activated s.siu.staged[r.val] := by
    rw [State.stream, forSlots_reader (g := abandonOrder) (fun t => t.siu) fun _ _ => rfl]
    exact activateMap_stream (emptyQueues s) r
  have order := fun f => activateMap_order f (emptyQueues s)
  have switch := fun f => activateMap_switch f (emptyQueues s)
  unfold restartBase
  generalize forSlots abandonOrder (activateMap (emptyQueues s)) = a at kept records streams ⊢
  refine ⟨⟨congrArg atRest kept.same⟩, streams, fun f => ?_, fun f => ?_⟩
  · exact (records f).1.trans (congrArg idle (order f))
  · have position := (records f).2
    rw [switch f, order f, activatedSwitch_eq] at position
    exact position

theorem restartSequencers_work (b : State) : RcsWork b (restartSequencers b) :=
  (forSlots_setRestartReasons_work b).trans
    (forSlots_keeps (fun f _ h => h.trans (restartSequencer_work f _)) _ (.refl _))

/-- The sequencer record of feeder `f` with its block reasons after RESTART (R104). -/
def restartSeq (b : State) (f : Slot) : SeqRecord := { b.seq f with reasons := restartReasons b f }

/-- What RESTART makes of the sequencers, once the rest has been done (R104, R121). -/
structure SeqsRestarted (f : Slot) (b t : State) : Prop where
  reasons : (t.seq f).reasons = restartReasons b f
  mid : MidSequence (b.seq f) → t.seq f = lockedOut .service (restartSeq b f) ∧
    lockoutNotice .service f (restartSeq b f) b ∈ t.raised
  locked : (b.seq f).state = .lockout → t.seq f =
    { restartSeq b f with dead := none, reclaim := none, endCause := .none, awaited := none }
  ready : (b.seq f).state = .ready ∨ (b.seq f).state = .reclaim → t.seq f =
    ⟨.ready, 0, .none, none, none, none, .none, restartReasons b f⟩

theorem restartSequencers_seqs (f : Slot) (b : State) : SeqsRestarted f b (restartSequencers b) := by
  have seq : (forSlots setRestartReasons b).seq f = restartSeq b f := setRestartReasons_seq f b
  have tod : (forSlots setRestartReasons b).tod = b.tod := by
    simp only [State.tod, (forSlots_setRestartReasons_work b).mdu]
  obtain ⟨mid, locked, ready⟩ := restartSequencers_restarted f (forSlots setRestartReasons b)
  unfold restartSequencers
  generalize forSlots restartSequencer (forSlots setRestartReasons b) = t at mid locked ready ⊢
  rw [seq] at mid locked ready
  rw [lockoutNotice_tod _ _ _ tod] at mid
  refine ⟨?_, mid, locked, ready⟩
  cases state : (b.seq f).state with
  | opening => rw [(mid (.inl state)).1]; rfl
  | dead => rw [(mid (.inr (.inl state))).1]; rfl
  | closing => rw [(mid (.inr (.inr state))).1]; rfl
  | lockout => rw [locked state]; rfl
  | ready => rw [ready (.inl state)]; rfl
  | reclaim => rw [ready (.inr state)]; rfl

theorem RestartBase.reasons (h : RestartBase s b) (f : Slot) : restartReasons b f =
    ⟨decide (s.feederMode f = .ban), (s.switch f).tag, (s.switch f).loc, true,
      decide ((b.switch f).health ≠ .reachable), false, (s.seq f).reasons.earth, (s.seq f).reasons.operator⟩ := by
  have mode : b.feederMode f = s.feederMode f := by
    rw [h.devices.same]
    rfl
  have seq : b.seq f = s.seq f := by
    rw [h.devices.same]
    rfl
  have tag : (b.switch f).tag = (s.switch f).tag := by rw [h.switches f]
  have loc : (b.switch f).loc = (s.switch f).loc := by rw [h.switches f]
  have fire : (s.feederMode f == .ban) = decide (s.feederMode f = .ban) := beq_eq_decide _ _
  have switch : ((b.switch f).health != .reachable) = decide ((b.switch f).health ≠ .reachable) := by
    rw [Bool.eq_iff_iff, bne_iff_ne, decide_eq_true_eq]
  rw [restartReasons, mode, seq, tag, loc, fire, switch]

end

/-- The blocks that RESTART leaves, or empties whole (R194). -/
structure RestartBlocks (s t : State) : Prop where
  rpt : t.rpt = { s.rpt with forward := [], replies := [] }
  mgr : t.mgr = { s.mgr with fifo := [], notices := [], device := .configuring }
  siu : t.siu = { s.siu with active := s.siu.staged, activated := true, streams := t.siu.streams }
  phe : t.phe = Phe.powerOn
  elu : t.elu = { s.elu with elements := .replicate 8 .cleared }
  gst : t.gst = { s.gst with activeGroup := .replicate 8 none, pendingGroup := .replicate 8 none }
  efs : t.efs = s.efs
  mdu : t.mdu = s.mdu
  echoMissing : t.oru.echoMissing = s.oru.echoMissing

theorem RestartBase.blocks {s b t : State} (h : RestartBase s b) (work : RcsWork b t) : RestartBlocks s t := by
  have same := h.devices.same
  have siu : b.siu = { s.siu with active := s.siu.staged, activated := true, streams := b.siu.streams } :=
    (congrArg State.siu same :)
  refine ⟨work.rpt.trans (congrArg State.rpt same :), work.mgr.trans (congrArg State.mgr same :), ?_,
    work.phe.trans (congrArg State.phe same :), work.elu.trans (congrArg State.elu same :),
    work.gst.trans (congrArg State.gst same :), work.efs.trans (congrArg State.efs same :),
    work.mdu.trans (congrArg State.mdu same :),
    (congrArg Oru.echoMissing work.oru).trans (congrArg (fun u : State => u.oru.echoMissing) same :)⟩
  rw [work.siu]
  exact siu

theorem RestartBase.seq {s b : State} (h : RestartBase s b) (f : Slot) : b.seq f = s.seq f :=
  (congrArg (fun u : State => u.seq f) h.devices.same :)

theorem RestartBase.tod {s b : State} (h : RestartBase s b) : b.tod = s.tod :=
  (congrArg State.tod h.devices.same :)

/-- Settles O60: the queues, the map, the orders and the service, then the reasons, the sequencers and EFS. -/
theorem restartClearsTheWork : Obligations.RestartClearsTheWork := by
  intro q rest s head
  have run := runRequest_head head doRestart
  rw [show doRestart q (begun rest s) = ⟨.ok, [], restart (begun rest s)⟩ from withForm_fits head.2.2.1 _ _] at run
  have base := restartBase_base (begun rest s)
  have work := restartSequencers_work (restartBase (begun rest s))
  have seqs := fun f => restartSequencers_seqs f (restartBase (begun rest s))
  have pending := restart_pending (begun rest s)
  rw [restart_eq] at run pending
  generalize restartSequencers (restartBase (begun rest s)) = t at run work seqs pending
  generalize restartBase (begun rest s) = b at base work seqs
  have blocks := base.blocks work
  have streams (r : Role) : t.stream r = (s.stream r).activated s.siu.staged[r.val] := by
    rw [State.stream, work.siu]
    exact base.streams r
  have switch (f : Slot) : t.switch f = b.switch f := work.switch_eq f
  have seqOf (f : Slot) : restartSeq b f = { s.seq f with reasons := (t.seq f).reasons } := by
    rw [(seqs f).reasons, restartSeq, base.seq f]
    rfl
  have group : t.gst.activeGroup = .replicate 8 none ∧ t.gst.pendingGroup = .replicate 8 none ∧
      t.gst.curves = s.gst.curves ∧ t.gst.groups = s.gst.groups ∧ t.gst.feeders = s.gst.feeders := by
    rw [blocks.gst]
    exact ⟨rfl, rfl, rfl, rfl, rfl⟩
  obtain ⟨active, waiting, curves, groups, feeders⟩ := group
  have map : t.siu.staged = s.siu.staged ∧ t.siu.active = s.siu.staged ∧ t.siu.activated = true ∧
      t.siu.foreign = s.siu.foreign := by
    rw [blocks.siu]
    exact ⟨rfl, rfl, rfl, rfl⟩
  obtain ⟨staged, mapped, activated, foreign⟩ := map
  have settings : t.efs.result = s.efs.result ∧ t.efs.settings = s.efs.settings ∧
      t.efs.huntOrder = s.efs.huntOrder := by
    rw [blocks.efs]
    exact ⟨rfl, rfl, rfl⟩
  obtain ⟨result, settings, huntOrder⟩ := settings
  refine ⟨efsRestart t, run, blocks.rpt, blocks.mgr, staged, mapped, activated, foreign, fun r => ⟨streams r, ?_⟩,
    fun f => ⟨?_, ?_, ?_, ?_, ?_⟩, fun f => (switch f).trans (base.switches f), fun f => ?_,
    fun f => ⟨fun mid => ?_, fun locked => ?_, fun ready => ?_⟩, rfl, rfl, result, settings, huntOrder, blocks.mdu,
    curves, groups, feeders, blocks.echoMissing, pending⟩
  · have empty : t.pheStream r = .empty := by
      rw [State.pheStream, blocks.phe]
      exact Vector.getElem_replicate _
    rw [show (efsRestart t).pheStream r = t.pheStream r from rfl, empty]
    exact ⟨rfl, rfl, rfl⟩
  · have elements : t.elu.elements = .replicate 8 .cleared := by rw [blocks.elu]
    rw [show (efsRestart t).element f = t.elu.elements[f] from rfl, elements]
    exact Vector.getElem_replicate _
  · have trips : t.elu.trips = s.elu.trips := by rw [blocks.elu]
    exact congrArg (fun x : Vector TripRecord 8 => x[f]) trips
  · rw [show (efsRestart t).activeGroup f = t.gst.activeGroup[f] from rfl, active]
    exact Vector.getElem_replicate _
  · rw [show (efsRestart t).pendingGroup f = t.gst.pendingGroup[f] from rfl, waiting]
    exact Vector.getElem_replicate _
  · exact (work.order_eq f).trans (base.orders f)
  · rw [show (efsRestart t).switch f = t.switch f from rfl, switch f]
    exact (seqs f).reasons.trans (base.reasons f)
  · have restarted := (seqs f).mid
    rw [base.seq f, seqOf f, lockoutNotice_tod _ _ _ base.tod] at restarted
    exact restarted mid
  · have restarted := (seqs f).locked
    rw [base.seq f, seqOf f] at restarted
    exact restarted locked
  · have restarted := (seqs f).ready
    rw [base.seq f, ← (seqs f).reasons] at restarted
    exact restarted ready

end Sys2Proof.Machine
end

section
/-! PROOFS. What CONFIGURING leaves alone in a change of mode or reason (R192). -/

namespace Sys2Proof.Machine

/-! ## Reasons and modes in CONFIGURING (R100, R120, R146, R163) -/

/-- While the device rests, the sequencers differ in their reasons alone, EFS not at all, and no group of a feeder
out of service changes. -/
structure Rested (s t : State) : Prop where
  device : t.mgr.device = s.mgr.device
  efs : t.efs = s.efs
  feeders : t.gst.feeders = s.gst.feeders
  seqs : ∀ f, t.seq f = { s.seq f with reasons := (t.seq f).reasons }
  groups : ∀ f, (s.feeder f).inService = false →
    t.activeGroup f = s.activeGroup f ∧ t.pendingGroup f = s.pendingGroup f

/-- What is done in CONFIGURING leaves the work at rest. -/
structure RestKept (s t : State) : Prop where
  rested : s.mgr.device = .configuring → Rested s t

namespace RestKept

theorem of_same {s t : State} (device : t.mgr.device = s.mgr.device) (efs : t.efs = s.efs) (gst : t.gst = s.gst)
    (rcs : t.rcs = s.rcs) : RestKept s t := by
  have seq (f : Slot) : t.seq f = s.seq f := by
    rw [State.seq, rcs]
    rfl
  refine ⟨fun _ => ⟨device, efs, congrArg Gst.feeders gst, fun f => ?_, fun f _ => ?_⟩⟩
  · rw [seq f]
  · rw [State.activeGroup, State.pendingGroup, gst]
    exact ⟨rfl, rfl⟩

theorem refl (s : State) : RestKept s s := .of_same rfl rfl rfl rfl

theorem trans {s t u : State} (h : RestKept s t) (i : RestKept t u) : RestKept s u := by
  refine ⟨fun rests => ?_⟩
  obtain ⟨device, efs, feeders, seqs, groups⟩ := h.rested rests
  obtain ⟨device', efs', feeders', seqs', groups'⟩ := i.rested (device.trans rests)
  refine ⟨device'.trans device, efs'.trans efs, feeders'.trans feeders, fun f => ?_, fun f out => ?_⟩
  · rw [seqs' f, seqs f]
  · have out' : (t.feeder f).inService = false := by rwa [State.feeder, feeders]
    obtain ⟨active, pending⟩ := groups f out
    obtain ⟨active', pending'⟩ := groups' f out'
    exact ⟨active'.trans active, pending'.trans pending⟩

theorem ite {c : Prop} [Decidable c] {s t u : State} (h : RestKept s t) (i : RestKept s u) :
    RestKept s (if c then t else u) := by
  split <;> assumption

theorem forSlots {g : Slot → State → State} (h : ∀ f s, RestKept s (g f s)) (s : State) :
    RestKept s (Machine.forSlots g s) := forSlots_keeps (fun f _ i => i.trans (h f _)) s (.refl s)

theorem foldl {α : Type} {g : State → α → State} (h : ∀ s a, RestKept s (g s a)) (l : List α) (s : State) :
    RestKept s (l.foldl g s) := foldl_keeps (fun _ a i => i.trans (h _ a)) l s (.refl s)

theorem setReasons (f : Slot) (x : ReasonSet) (s : State) :
    RestKept s (s.setSeq f { s.seq f with reasons := x }) := by
  refine ⟨fun _ => ⟨rfl, rfl, rfl, fun g => ?_, fun g _ => ⟨rfl, rfl⟩⟩⟩
  rw [State.seq_setSeq]
  split
  · next same => rw [same]
  · rfl

theorem setGroups {f : Slot} {s : State} (serves : (s.feeder f).inService = true) (a p : Option GroupNo) :
    RestKept s (s.setGroups f a p) := by
  refine ⟨fun _ => ⟨rfl, rfl, rfl, fun g => rfl, fun g out => ?_⟩⟩
  have distinct : f ≠ g := by
    rintro rfl
    simp [serves] at out
  simp [distinct]

theorem raise (o : Option Slot) (n : Option SampleNo) (b : NoticeBody) (s : State) :
    RestKept s (Machine.raise o n b s) := .of_same rfl rfl rfl rfl

end RestKept

section
variable {f : Slot} {s : State}

theorem addReason_rest (r : Reason) (f : Slot) (s : State) : RestKept s (addReason r f s) := by
  refine ⟨fun rests => ?_⟩
  rw [addReason_writes (by simp [acting_configuring rests])]
  exact (RestKept.setReasons f _ s).rested rests

theorem removeReason_rest (r : Reason) (f : Slot) (s : State) : RestKept s (removeReason r f s) := .setReasons f _ s

theorem alignReason_rest (r : Reason) (b : Bool) (f : Slot) (s : State) : RestKept s (alignReason r b f s) :=
  .ite (addReason_rest r f s) (removeReason_rest r f s)

/-- No report moves RCS or EFS in CONFIGURING (R100, R125). -/
theorem deliver_rest (p : OrderReport) (s : State) : RestKept s (deliver p s) := by
  refine ⟨fun rests => ?_⟩
  rw [deliver, rcsReport_resting (acting_configuring rests p.slot), efsReport_guarded p s (by simp [rests])]
  exact (RestKept.refl s).rested rests

theorem addFire_rest (f : Slot) (s : State) : RestKept s (addFire f s) := by
  have withdrawn (t : State) : RestKept t (withdrawOrder f t) := .of_same rfl rfl rfl rfl
  unfold addFire
  exact .ite (.refl s) ((addReason_rest .fire f s).trans
    (.ite ((withdrawn _).trans (deliver_rest _ _)) (.refl _)))

theorem fireFollows_rest (d : District) (left new : Mode) (f : Slot) (s : State) :
    RestKept s (fireFollows d left new f s) :=
  .ite (.ite (addFire_rest f s) (.ite (removeReason_rest .fire f s) (.refl s))) (.refl s)

theorem groupNotify_rest (f : Slot) (s : State) : RestKept s (groupNotify f s) := by
  refine ⟨fun rests => ?_⟩
  rw [groupNotify, if_neg (by simp [acting_configuring rests])]
  exact (RestKept.refl s).rested rests

theorem requestGroup_rest (serves : (s.feeder f).inService = true) (g : GroupNo) :
    RestKept s (requestGroup g f s) := by
  unfold requestGroup
  split
  · exact .refl s
  · split
    · split
      · exact .refl s
      · exact (RestKept.setGroups serves _ _).trans (.raise _ _ _ _)
    · exact .ite (.refl s) (.ite ((RestKept.setGroups serves _ _).trans (.raise _ _ _ _))
        (((RestKept.setGroups serves _ _).trans (.raise _ _ _ _)).trans (groupNotify_rest f _)))

theorem askGroup_rest (d : District) (m : Mode) (f : Slot) (s : State) : RestKept s (askGroup d m f s) := by
  unfold askGroup
  split
  · next own =>
    dsimp only
    split
    · exact .refl s
    · exact .ite (requestGroup_rest own.2 _) (.refl s)
  · exact .refl s

theorem evaluateDistrict_rest (s : State) (d : District) : RestKept s (evaluateDistrict s d) := by
  have set (m : Mode) (x : ModeSource) : RestKept s (setMode d m x s) := .of_same rfl rfl rfl rfl
  unfold evaluateDistrict changeMode
  exact .ite (set _ _) ((((set _ _).trans (.raise _ _ _ _)).trans (.forSlots (fireFollows_rest _ _ _) _)).trans
    (.forSlots (askGroup_rest _ _) _))

theorem updateBusMode_rest (s : State) : RestKept s (updateBusMode s) := by
  have ban (t : State) : RestKept t (efsBecameBan t) := by
    refine ⟨fun rests => ?_⟩
    rw [efsBecameBan_guarded t (by simp [rests])]
    exact (RestKept.refl t).rested rests
  have set (m : Mode) : RestKept s { s with mdu := { s.mdu with busMode := m } } := .of_same rfl rfl rfl rfl
  unfold updateBusMode
  exact .ite (.refl s) (.ite ((set _).trans (ban _)) (set _))

theorem evaluateModes_rest (s : State) : RestKept s (evaluateModes s) :=
  (RestKept.foldl evaluateDistrict_rest allDistricts s).trans (updateBusMode_rest _)

theorem activateAtEntry_rest (s : State) : RestKept s (activateAtEntry s) := by
  have reasons (f : Slot) (t : State) : RestKept t (enterReasons f t) :=
    (alignReason_rest .switch _ f t).trans (addReason_rest .stream f _)
  have map : RestKept s (activateMap s) := by
    have same := (activateMap_devices s).same
    exact .of_same (congrArg (fun u : State => u.mgr.device) same :) (congrArg State.efs same :)
      (congrArg State.gst same :) (congrArg State.rcs same :)
  rw [activateAtEntry_eq]
  exact .ite (.refl s) (map.trans (.forSlots reasons _))

end

end Sys2Proof.Machine
end

section
/-! PROOFS. The obligation on ENTER SERVICE (R192). -/

namespace Sys2Proof.Machine

/-! ## The checks (R192) -/

section
variable {f : Slot} {s t : State}

/-- Feeder `f` fails the check of its groups (R192). -/
def GroupsFail (s : State) (f : Slot) : Prop := (s.feeder f).inService = true ∧
  ∃ m : Fin 3, groupValidAt s f (s.feeder f).modeMap[m] = false

/-- Feeder `f` fails the check of its sampling unit (R192). -/
def AddressFails (s : State) (f : Slot) : Prop := (s.feeder f).inService = true ∧ entrySampling s f = 0

theorem modeMap_all_iff (r : FeederRecord) (p : GroupNo → Bool) :
    r.modeMap.toList.all p = false ↔ ∃ m : Fin 3, p r.modeMap[m] = false := by
  rw [List.all_eq_false]
  refine ⟨fun ⟨g, mem, fails⟩ => ?_, fun ⟨m, fails⟩ => ⟨_, mem_modeMap r m, by rw [fails]; simp⟩⟩
  obtain ⟨i, within, rfl⟩ := List.getElem_of_mem mem
  exact ⟨⟨i, by simpa using within⟩, by simpa using fails⟩

theorem entryFailure_groups (fails : GroupsFail s f) : entryFailure s f = some (f, 0) := by
  obtain ⟨serves, invalid⟩ := fails
  rw [entryFailure, if_neg (by simp [serves]), if_pos ((modeMap_all_iff _ _).2 invalid)]

theorem entryFailure_address (valid : ¬ GroupsFail s f) (fails : AddressFails s f) :
    entryFailure s f = some (f, 1) := by
  obtain ⟨serves, none⟩ := fails
  rw [entryFailure, if_neg (by simp [serves]), if_neg fun h => valid ⟨serves, (modeMap_all_iff _ _).1 h⟩, if_pos none]

theorem entryFailure_none (valid : ¬ GroupsFail s f) (mapped : ¬ AddressFails s f) : entryFailure s f = none := by
  unfold entryFailure
  split
  · rfl
  · next out =>
    have serves : (s.feeder f).inService = true := by simpa using out
    rw [if_neg fun h => valid ⟨serves, (modeMap_all_iff _ _).1 h⟩, if_neg fun h => mapped ⟨serves, h⟩]

theorem allSlots_split (f : Slot) : allSlots = allSlots.take f.val ++ f :: allSlots.drop (f.val + 1) ∧
    ∀ g ∈ allSlots.take f.val, g < f := by
  revert f
  decide

/-- What is looked for in the feeders is found at the lowest slot that has it. -/
theorem findSome_lowest {α : Type} {x : α} (look : Slot → Option α) (found : look f = some x)
    (lower : ∀ g, g < f → look g = none) : allSlots.findSome? look = some x := by
  obtain ⟨split, below⟩ := allSlots_split f
  exact List.findSome?_eq_some_iff.2 ⟨_, f, _, split, found, fun g mem => lower g (below g mem)⟩

/-! ## The activation at the entry (R192, step 1) -/

theorem activateAtEntry_done (activated : s.siu.activated = true) : activateAtEntry s = s := if_pos activated

theorem activateAtEntry_maps (fresh : s.siu.activated = false) :
    RcsWork (activateMap s) (activateAtEntry s) := by
  rw [activateAtEntry_eq, if_neg (by simp [fresh])]
  exact forSlots_enterReasons_work _

/-- The blocks that step 1 of ENTER SERVICE leaves. -/
structure EntryActivated (s t : State) : Prop where
  kept : s.siu.activated = true → t.siu = s.siu ∧ t.phe = s.phe
  mapped : s.siu.activated = false → t.siu.active = s.siu.staged ∧ t.phe = Phe.powerOn ∧
    ∀ r, t.stream r = (s.stream r).activated s.siu.staged[r.val]
  activated : t.siu.activated = true
  staged : t.siu.staged = s.siu.staged
  elu : t.elu = s.elu
  gst : t.gst = s.gst
  mdu : t.mdu = s.mdu
  mgr : t.mgr = s.mgr
  rpt : t.rpt = s.rpt

theorem activateAtEntry_activated (s : State) : EntryActivated s (activateAtEntry s) := by
  cases activated : s.siu.activated with
  | true =>
    rw [activateAtEntry_done activated]
    exact ⟨fun _ => ⟨rfl, rfl⟩, fun h => absurd (activated.symm.trans h) (by simp), activated, rfl, rfl, rfl, rfl, rfl,
      rfl⟩
  | false =>
    have work := activateAtEntry_maps activated
    have same := (activateMap_devices s).same
    have streams := activateMap_stream s
    generalize activateAtEntry s = t at work
    generalize activateMap s = m at work same streams
    have stream (r : Role) : t.stream r = m.stream r := by
      rw [State.stream, work.siu]
      rfl
    refine ⟨fun h => absurd (activated.symm.trans h) (by simp), fun _ => ⟨?_, work.phe.trans
        (congrArg State.phe same :), fun r => (stream r).trans (streams r)⟩, ?_, ?_,
      work.elu.trans (congrArg State.elu same :), work.gst.trans (congrArg State.gst same :),
      work.mdu.trans (congrArg State.mdu same :), work.mgr.trans (congrArg State.mgr same :),
      work.rpt.trans (congrArg State.rpt same :)⟩
    · exact (congrArg Siu.active work.siu).trans (congrArg (fun u : State => u.siu.active) same :)
    · exact (congrArg Siu.activated work.siu).trans (congrArg (fun u : State => u.siu.activated) same :)
    · exact (congrArg Siu.staged work.siu).trans (congrArg (fun u : State => u.siu.staged) same :)

/-! ## The groups at the entry (R72) -/

/-- Nothing differs but the active and pending groups. -/
structure GroupsKept (s t : State) : Prop where
  same : t = { s with gst := { s.gst with
    activeGroup := t.gst.activeGroup, pendingGroup := t.gst.pendingGroup } }

theorem GroupsKept.trans {u : State} (h : GroupsKept s t) (i : GroupsKept t u) : GroupsKept s u := by
  refine ⟨i.same.trans ?_⟩
  rw [h.same]

theorem setActiveAtEntry_kept (f : Slot) (s : State) : GroupsKept s (setActiveAtEntry f s) := by
  unfold setActiveAtEntry
  split
  · exact ⟨rfl⟩
  · exact ⟨rfl⟩

theorem groupsAtEntry_kept (s : State) : GroupsKept s (forSlots setActiveAtEntry s) :=
  forSlots_keeps (fun f _ h => h.trans (setActiveAtEntry_kept f _)) s ⟨rfl⟩

/-- The group that ENTER SERVICE gives each feeder in service (R72). -/
theorem groupsAtEntry_groups (f : Slot) (s : State) :
    ((forSlots setActiveAtEntry s).activeGroup f, (forSlots setActiveAtEntry s).pendingGroup f) =
      if (s.feeder f).inService = true then (some (mappedGroup s f), none)
      else (s.activeGroup f, s.pendingGroup f) := by
  refine forSlots_read (g := setActiveAtEntry) (fun t f => (t.activeGroup f, t.pendingGroup f))
    (fun t f => ((t.feeder f).inService, mappedGroup t f))
    (fun served f x => if (served f).1 = true then (some (served f).2, none) else x) (fun t f => ?_)
    (fun t f g distinct => ?_) (fun t f => funext fun g => ?_) s f
  · unfold setActiveAtEntry
    split <;> simp
  · unfold setActiveAtEntry
    split <;> simp [distinct]
  · unfold setActiveAtEntry
    split <;> rfl

end

/-- `s` in service, its notices going to `src` (R192). -/
def inServiceFor (src : RingAddr) (s : State) : State :=
  { s with mgr := { s.mgr with device := .inService, destination := src } }

theorem enterService_groups (src : RingAddr) (s : State) : enterService src s =
    forSlots setActiveAtEntry (inServiceFor src (evaluateModes (activateAtEntry s))) := enterService_eq src s

theorem ModesEvaluated.of_same {s t : State} (h : ModesEvaluated s) (mdu : t.mdu = s.mdu)
    (feeders : t.gst.feeders = s.gst.feeders) : ModesEvaluated t := by
  obtain ⟨modes, bus⟩ := h
  have mode (d : District) : districtMode t d = districtMode s d := by
    have reads : districtMode t d = districtMode { s with mdu := t.mdu } d := rfl
    rw [reads, mdu]
  refine ⟨fun d => ?_, ?_⟩
  · rw [mode, mdu]
    exact modes d
  · rw [derivedBusMode_of_same feeders (by rw [mdu]), mdu]
    exact bus

/-- What ENTER SERVICE leaves when every check has passed (R192). -/
structure ServiceEntered (src : RingAddr) (s v : State) : Prop where
  mgr : v.mgr = { s.mgr with device := .inService, destination := src }
  kept : s.siu.activated = true → v.siu = s.siu ∧ v.phe = s.phe
  mapped : s.siu.activated = false → v.siu.active = s.siu.staged ∧ v.phe = Phe.powerOn ∧
    ∀ r, v.stream r = (s.stream r).activated s.siu.staged[r.val]
  activated : v.siu.activated = true
  staged : v.siu.staged = s.siu.staged
  evaluated : ModesEvaluated v
  groups : ∀ f, (s.feeder f).inService = true →
    v.activeGroup f = some (s.feeder f).modeMap[(v.feederMode f).index] ∧ v.pendingGroup f = none
  others : ∀ f, (s.feeder f).inService = false →
    v.activeGroup f = s.activeGroup f ∧ v.pendingGroup f = s.pendingGroup f
  seqs : ∀ f, v.seq f = { s.seq f with reasons := (v.seq f).reasons }
  elu : v.elu = s.elu
  efs : v.efs = s.efs
  curves : v.gst.curves = s.gst.curves
  tables : v.gst.groups = s.gst.groups
  feeders : v.gst.feeders = s.gst.feeders
  rpt : v.rpt = s.rpt
  mdu : v.mdu = { s.mdu with modes := v.mdu.modes, sources := v.mdu.sources, busMode := v.mdu.busMode }

/-- The last step of ENTER SERVICE, after which the groups are the mapped ones. -/
theorem groupsAtEntry_entered {src : RingAddr} {s a u : State} (activated : EntryActivated s a) (only : ModesOnly a u)
    (evaluated : ModesEvaluated u) (rested : Rested s u) :
    ServiceEntered src s (forSlots setActiveAtEntry (inServiceFor src u)) := by
  have groups := fun f => groupsAtEntry_groups f (inServiceFor src u)
  have same := (groupsAtEntry_kept (inServiceFor src u)).same
  generalize forSlots setActiveAtEntry (inServiceFor src u) = v at groups same
  obtain ⟨rpt, siu, phe, elu, curves, tables, feeders, modes, -, -, mgr, -⟩ := only
  have vsiu : v.siu = a.siu := (congrArg State.siu same :).trans siu
  have vphe : v.phe = a.phe := (congrArg State.phe same :).trans phe
  have vmdu : v.mdu = u.mdu := (congrArg State.mdu same :)
  have vmgr : v.mgr = { u.mgr with device := .inService, destination := src } := (congrArg State.mgr same :)
  have vfeeders : v.gst.feeders = u.gst.feeders := (congrArg (fun x : State => x.gst.feeders) same :)
  have vmode (f : Slot) : v.feederMode f = (inServiceFor src u).feederMode f :=
    (congrArg (fun x : State => x.feederMode f) same :)
  have feeder (f : Slot) : (inServiceFor src u).feeder f = s.feeder f :=
    congrArg (fun x : Vector FeederRecord 8 => x[f]) rested.feeders
  have stream (r : Role) : v.stream r = a.stream r := congrArg (fun x : Siu => x.streams[r]) vsiu
  refine ⟨?_, fun done => ?_, fun fresh => ?_, vsiu ▸ activated.activated, vsiu ▸ activated.staged,
    evaluated.of_same vmdu vfeeders, fun f serves => ?_, fun f out => ?_, fun f => ?_,
    (congrArg State.elu same :).trans (elu.trans activated.elu), (congrArg State.efs same :).trans rested.efs,
    (congrArg (fun x : State => x.gst.curves) same :).trans (curves.trans (congrArg Gst.curves activated.gst)),
    (congrArg (fun x : State => x.gst.groups) same :).trans (tables.trans (congrArg Gst.groups activated.gst)),
    vfeeders.trans rested.feeders, (congrArg State.rpt same :).trans (rpt.trans activated.rpt), ?_⟩
  · rw [vmgr, mgr, activated.mgr]
  · obtain ⟨siu', phe'⟩ := activated.kept done
    exact ⟨vsiu.trans siu', vphe.trans phe'⟩
  · obtain ⟨active, empty, streams⟩ := activated.mapped fresh
    exact ⟨vsiu ▸ active, vphe.trans empty, fun r => (stream r).trans (streams r)⟩
  · have given := groups f
    rw [feeder f, if_pos serves] at given
    obtain ⟨active, pending⟩ := Prod.ext_iff.mp given
    refine ⟨active.trans ?_, pending⟩
    simp only [mappedGroup, feeder f, vmode f]
  · have given := groups f
    rw [feeder f, if_neg (by simp [out])] at given
    obtain ⟨active, pending⟩ := Prod.ext_iff.mp given
    obtain ⟨active', pending'⟩ := rested.groups f out
    exact ⟨active.trans active', pending.trans pending'⟩
  · have seq : v.seq f = u.seq f := (congrArg (fun x : State => x.seq f) same :)
    rw [seq]
    exact rested.seqs f
  · rw [vmdu]
    refine modes.trans ?_
    rw [activated.mdu]

theorem enterService_entered {src : RingAddr} {s : State} (rests : s.mgr.device = .configuring) :
    ServiceEntered src s (enterService src s) := by
  have rested := ((activateAtEntry_rest s).trans (evaluateModes_rest _)).rested rests
  rw [enterService_groups]
  exact groupsAtEntry_entered (activateAtEntry_activated s) (evaluateModes_only _) (evaluateModes_evaluated _) rested

/-- Settles O58: the checks, the activation, the modes and the groups. -/
theorem enterServiceChecksFeeders : Obligations.EnterServiceChecksFeeders := by
  intro q rest s head invalid unmapped
  have run := runRequest_head head doEnterService
  rw [show doEnterService q (begun rest s) = if s.mgr.device = .inService then refused .state (begun rest s)
      else match allSlots.findSome? (entryFailure (begun rest s)) with
        | some (f, c) => ⟨.invalid, slotByte f ++ u8 c, begun rest s⟩
        | none => ⟨.ok, [], enterService q.source (begun rest s)⟩ from withForm_fits head.2.2.1 _ _] at run
  refine ⟨fun serves => ?_, fun f rests lower => ?_, fun rests passes => ?_⟩
  · rw [if_pos serves] at run
    exact run
  · have below (g : Slot) (less : g < f) : entryFailure (begun rest s) g = none :=
      entryFailure_none (s := begun rest s) (lower g less).1 (lower g less).2
    rw [if_neg (by simp [rests])] at run
    refine ⟨fun fails => ?_, fun valid fails => ?_⟩
    · rw [findSome_lowest _ (entryFailure_groups (s := begun rest s) fails) below] at run
      exact run
    · rw [findSome_lowest _ (entryFailure_address (s := begun rest s) valid fails) below] at run
      exact run
  · have none : allSlots.findSome? (entryFailure (begun rest s)) = none := List.findSome?_eq_none_iff.2 fun f _ =>
      entryFailure_none (s := begun rest s) (passes f).1 (passes f).2
    have entered := enterService_entered (src := q.source) (s := begun rest s) rests
    rw [if_neg (by simp [rests]), none] at run
    generalize enterService q.source (begun rest s) = v at run entered
    refine ⟨v, run, entered.mgr, entered.kept, fun fresh => ?_, entered.activated, entered.staged, entered.evaluated,
      entered.groups, entered.others, entered.seqs, entered.elu, entered.efs, entered.curves, entered.tables,
      entered.feeders, entered.rpt, entered.mdu⟩
    obtain ⟨active, empty, streams⟩ := entered.mapped fresh
    refine ⟨active, fun r => ?_⟩
    have results : v.pheStream r = .empty := by
      rw [State.pheStream, empty]
      exact Vector.getElem_replicate _
    rw [streams r, results]
    exact ⟨rfl, rfl, rfl⟩

end Sys2Proof.Machine
end

section
/-! PROOFS. The obligation on READ and SNAPSHOT (R184, R153, R33 to R35). -/

namespace Sys2Proof.Machine

/-! ## READ (R184, R153) -/

section
variable {s : State} {t : Table}

/-- What a READ returns: `k` entries from index `i`, as many as the count, the room and the table's end allow. -/
structure EntriesRead (s : State) (t : Table) (count i room k : Nat) : Prop where
  entries : readEntries s t count i room = (List.range k).map fun j => t.read s (i + j)
  within : k ≤ count
  present : ∀ j, j < k → i + j < t.entries s
  fits : (((List.range k).map fun j => t.read s (i + j)).flatten).length ≤ room
  ended : k = count ∨ t.entries s ≤ i + k ∨
    room < (((List.range k).map fun j => t.read s (i + j)).flatten).length + (t.read s (i + k)).length

theorem range_map_succ (g : Nat → List Byte) (k : Nat) :
    (List.range (k + 1)).map g = g 0 :: (List.range k).map fun j => g (j + 1) := by
  rw [List.range_succ_eq_map, List.map_cons, List.map_map]
  rfl

theorem readEntries_read (count i room : Nat) : ∃ k, EntriesRead s t count i room k := by
  induction count generalizing i room with
  | zero => exact ⟨0, rfl, le_rfl, fun j h => absurd h (Nat.not_lt_zero j), Nat.zero_le _, .inl rfl⟩
  | succ n ih =>
    by_cases beyond : t.entries s ≤ i
    · exact ⟨0, by rw [readEntries, if_pos beyond]; rfl, Nat.zero_le _, fun j h => absurd h (Nat.not_lt_zero j),
        Nat.zero_le _, .inr (.inl beyond)⟩
    · by_cases full : room < (t.read s i).length
      · exact ⟨0, by rw [readEntries, if_neg beyond, if_pos full]; rfl, Nat.zero_le _,
          fun j h => absurd h (Nat.not_lt_zero j), Nat.zero_le _, .inr (.inr (by simpa using full))⟩
      · obtain ⟨k, entries, within, present, fits, ended⟩ := ih (i + 1) (room - (t.read s i).length)
        have shift : ((List.range k).map fun j => t.read s (i + (j + 1))) =
            (List.range k).map fun j => t.read s (i + 1 + j) := by
          simp only [Nat.add_left_comm, Nat.add_comm]
        refine ⟨k + 1, ?_, Nat.succ_le_succ within, fun j low => ?_, ?_, ?_⟩
        · rw [readEntries, if_neg beyond, if_neg full, entries, range_map_succ, shift]
          rfl
        · cases j with
          | zero => omega
          | succ j =>
            have := present j (by omega)
            omega
        · rw [range_map_succ, shift, List.flatten_cons, List.length_append]
          simp only [Nat.add_zero]
          omega
        · rw [range_map_succ, shift, List.flatten_cons, List.length_append]
          simp only [Nat.add_zero]
          rw [show i + (k + 1) = i + 1 + k by omega]
          omega

theorem tableOf_none {n : Nat} (unknown : n = 0 ∨ 21 < n) : tableOf n = none := by
  unfold tableOf
  rcases unknown with zero | beyond
  · rw [if_pos zero]
  · rw [if_neg (by omega)]
    exact List.getElem?_eq_none (by simp only [allTables, List.length_cons, List.length_nil]; omega)

theorem badStart_iff (i : Nat) : t.badStart s i = true ↔
    t ≠ .declarations ∧ t.entries s ≤ i ∨ t = .declarations ∧ 31 < i := by
  cases t <;> simp [Table.badStart]

end

section
variable {q : Request} {rest : List Request} {s : State}

theorem read_runs (head : AtHead 1 3 q rest s) {e : Executed} (executed : (match tableOf (nat8At q.payload 2) with
      | none => refused .badTable (begun rest s)
      | some t => if t.badStart (begun rest s) (nat8At q.payload 3) then refused .badIndex (begun rest s)
        else
          let es := readEntries (begun rest s) t (nat8At q.payload 4) (nat8At q.payload 3) 120
          ⟨.ok, u8 (nat8At q.payload 2) ++ u8 (nat8At q.payload 3) ++ u8 es.length ++ [0] ++ es.flatten,
            begun rest s⟩) = e) : Replies .read s q e.code e.content e.state := by
  have run := runRequest_head head doRead
  rw [show doRead q (begun rest s) = e from (withForm_fits head.2.2.1 _ _).trans executed] at run
  exact run

theorem read_known (head : AtHead 1 3 q rest s) {t : Table} (table : tableOf (nat8At q.payload 2) = some t)
    {e : Executed} (executed : (if t.badStart (begun rest s) (nat8At q.payload 3) = true then
        refused .badIndex (begun rest s)
      else ⟨.ok, u8 (nat8At q.payload 2) ++ u8 (nat8At q.payload 3) ++
          u8 (readEntries (begun rest s) t (nat8At q.payload 4) (nat8At q.payload 3) 120).length ++ [0] ++
          (readEntries (begun rest s) t (nat8At q.payload 4) (nat8At q.payload 3) 120).flatten,
        begun rest s⟩) = e) : Replies .read s q e.code e.content e.state := by
  refine read_runs head ?_
  rw [table]
  exact executed

end

/-! ## SNAPSHOT (R33 to R35) -/

section
variable {f : Slot} {s : State}

theorem flag_eq (b : Bool) : flag b = [if b = true then 1 else 0] := by
  cases b <;> rfl

theorem sideValid_eq (st : StreamState) (r : CycleResult) :
    sideValid st r = decide (st = .locked ∧ r.patched = false) := by
  rw [Bool.eq_iff_iff]
  simp [sideValid]

theorem append_three {α : Type} (l : List α) (x y z : α) : l ++ [x] ++ [y] ++ [z] = l ++ [x, y, z] := by simp

theorem snapshotBytes_common {r b : CycleResult} (common : commonResult (s.pheStream busRole).results
    (s.pheStream f.role).results = some (r, b)) : snapshotBytes s f =
      (1 :: cycleBytes r.cycle) ++ (1 :: r.bytes) ++ (1 :: b.bytes) ++ (1 :: i32 (residualPower r b)) ++
        (u8 (s.stream f.role).state.code ++ u8 (s.stream busRole).state.code) ++
        flag (sideValid (s.stream f.role).state r) ++ flag (sideValid (s.stream busRole).state b) ++
        flag (sideValid (s.stream f.role).state r && sideValid (s.stream busRole).state b &&
          !(r.channels[3]).overrange && !(b.channels[3]).overrange) := by
  rw [snapshotBytes]
  dsimp only
  rw [common]
  rfl

theorem snapshotBytes_none (none : commonResult (s.pheStream busRole).results
    (s.pheStream f.role).results = none) : snapshotBytes s f =
      [0, 0, 0] ++ opt 49 CycleResult.bytes (s.pheStream f.role).results.head? ++
        opt 31 CycleResult.bytes (s.pheStream busRole).results.head? ++ [0, 0, 0, 0, 0] ++
        (u8 (s.stream f.role).state.code ++ u8 (s.stream busRole).state.code) ++
        flag false ++ flag false ++ flag false := by
  rw [snapshotBytes]
  dsimp only
  rw [none]
  rfl

end

/-! ### The newest common cycle (R33) -/

section
variable {l a b c d : List CycleResult} {r p : CycleResult}

theorem lookupResult_none (apart : ∀ y ∈ l, y.cycle ≠ r.cycle) : lookupResult r.cycle l = none := by
  rw [lookupResult, List.find?_eq_none]
  exact fun y mem => by simpa using apart y mem

theorem commonResult_apart (apart : ∀ x ∈ a, ∀ y ∈ l, y.cycle ≠ x.cycle) : commonResult l (a ++ b) = commonResult l b := by
  induction a with
  | nil => rfl
  | cons x a ih =>
    rw [List.cons_append, commonResult, lookupResult_none (apart x List.mem_cons_self)]
    exact ih fun y mem => apart y (List.mem_cons_of_mem _ mem)

theorem lookupResult_first (before : ∀ y ∈ c, y.cycle ≠ r.cycle) (same : p.cycle = r.cycle) :
    lookupResult r.cycle (c ++ p :: d) = some p := by
  have skipped : c.find? (fun y => y.cycle == r.cycle) = none := lookupResult_none before
  rw [lookupResult, List.find?_append, skipped, Option.none_or, List.find?_cons]
  simp [same]

end

/-- Settles O53: READ by its table and start index, SNAPSHOT by the newest common cycle. -/
theorem readingChangesNothing : Obligations.ReadingChangesNothing := by
  refine ⟨fun q rest s head => ⟨fun unknown => ?_, fun t table => ⟨fun bad => ?_, fun good => ?_⟩⟩,
    fun q rest f s head slot => ?_, fun a b c d r p apart before => ⟨fun same => ?_, ?_⟩⟩
  · refine read_runs (e := refused .badTable (begun rest s)) head ?_
    rw [tableOf_none unknown]
  · refine read_known (e := refused .badIndex (begun rest s)) head table (if_pos ?_)
    exact (badStart_iff (s := begun rest s) _).2 bad
  · have read := read_known head table (if_neg (mt (badStart_iff (s := begun rest s) _).1 good))
    obtain ⟨k, entries, within, present, fits, ended⟩ := readEntries_read (s := begun rest s) (t := t)
      (nat8At q.payload 4) (nat8At q.payload 3) 120
    rw [entries, List.length_map, List.length_range] at read
    exact ⟨k, read, within, present, fits, ended⟩
  · have run := runRequest_head head doSnapshot
    rw [show doSnapshot q (begun rest s) = ⟨.ok, snapshotBytes (begun rest s) f, begun rest s⟩ from
      withForm_withSlot head slot _ _] at run
    intro own bus states mark valid newest
    have opened (width : Nat) (l : List CycleResult) : opt width CycleResult.bytes l.head? = newest width l := by
      cases l <;> rfl
    refine ⟨fun r b common => ?_, fun none => ?_⟩
    · rw [snapshotBytes_common (s := begun rest s) common, flag_eq, flag_eq, flag_eq, append_three, sideValid_eq,
        sideValid_eq] at run
      exact run
    · rw [snapshotBytes_none (s := begun rest s) none, flag_eq, append_three, opened, opened] at run
      exact run
  · rw [commonResult_apart apart, commonResult, lookupResult_first before same]
  · have all := commonResult_apart (b := []) apart
    rw [List.append_nil] at all
    rw [all]
    rfl

end Sys2Proof.Machine
end

section
/-! PROOFS. The obligation on WRITE (R185, R200). -/

namespace Sys2Proof.Machine

/-! ## The entries of a WRITE (R185) -/

section
variable {t : Table} {size : Nat} {s u : State}

theorem splitEntries_flatten (es : List (List Byte)) (sized : ∀ e ∈ es, e.length = size) :
    splitEntries size es.length es.flatten = es := by
  induction es with
  | nil => rfl
  | cons e es ih =>
    have first : e.length = size := sized e List.mem_cons_self
    rw [List.length_cons, splitEntries, List.flatten_cons, ← first, List.take_left', List.drop_left', first,
      ih fun x mem => sized x (List.mem_cons_of_mem _ mem)] <;> rfl

theorem length_flatten_sized (es : List (List Byte)) (sized : ∀ e ∈ es, e.length = size) :
    es.flatten.length = es.length * size := by
  induction es with
  | nil => simp
  | cons e es ih =>
    rw [List.flatten_cons, List.length_append, sized e List.mem_cons_self,
      ih fun x mem => sized x (List.mem_cons_of_mem _ mem), List.length_cons, Nat.add_mul, Nat.one_mul, Nat.add_comm]

theorem writeSize_pos (writes : t.writeSize = some size) : 0 < size := by
  cases t <;> simp [Table.writeSize] at writes <;> omega

theorem storesTo_cons (i : Nat) (e : List Byte) (es : List (List Byte)) :
    storesTo t i (e :: es) s u ↔ ∃ v, t.store i e s = .stored v ∧ storesTo t (i + 1) es v u := Iff.rfl

/-- Entries that are all stored are counted, and the others come after them. -/
theorem writeEntries_stored (a b : List (List Byte)) (i n : Nat) (stored : storesTo t i a s u) :
    writeEntries t (a ++ b) i n s = writeEntries t b (i + a.length) (n + a.length) u := by
  induction a generalizing i n s with
  | nil =>
    obtain rfl : u = s := stored
    rfl
  | cons e a ih =>
    obtain ⟨v, first, rest⟩ := (storesTo_cons i e a).1 stored
    rw [List.cons_append, writeEntries, first, List.length_cons]
    dsimp only
    rw [ih (i + 1) (n + 1) rest]
    congr 1 <;> omega

theorem writeTable_misfits {i count : Nat} {bytes : List Byte}
    (misfits : count = 0 ∨ bytes.length ≠ count * size ∨ 232 < bytes.length) :
    writeTable t size i count bytes s = ⟨.invalid, 0, s⟩ := if_pos misfits

section
variable {i count : Nat} {bytes : List Byte} (some : count ≠ 0) (length : bytes.length = count * size)
  (short : bytes.length ≤ 232)
include some length short

theorem fits_of : ¬ (count = 0 ∨ bytes.length ≠ count * size ∨ 232 < bytes.length) := by
  rintro (zero | other | long)
  · exact some zero
  · exact other length
  · omega

theorem writeTable_badIndex (declarations : t = .declarations) (index : i ≠ 0) :
    writeTable t size i count bytes s = ⟨.badIndex, 0, s⟩ :=
  (if_neg (fits_of some length short)).trans (if_pos ⟨declarations, index⟩)

theorem writeTable_writes (index : t = .declarations → i = 0) : writeTable t size i count bytes s =
    { writeEntries t (splitEntries size count bytes) i 0 s with
      state := afterWrite t (writeEntries t (splitEntries size count bytes) i 0 s) } :=
  (if_neg (fits_of some length short)).trans (if_neg fun ⟨declarations, other⟩ => other (index declarations))

end

/-- MDU evaluates the modes after entries of its tables that were stored (R152, R154). -/
theorem afterWrite_eq (c : ResultCode) (a : List (List Byte)) : afterWrite t ⟨c, a.length, u⟩ =
    if (t = .seasonWindows ∨ t = .declarations) ∧ a ≠ [] then evaluateModes u else u := by
  unfold afterWrite
  simp only [List.length_pos_iff]

end

/-! ## WRITE (R185, R200) -/

section
variable {q : Request} {rest : List Request} {s : State} {n : Nat}

/-- The content of a WRITE's reply, its table and index bytes as they came (R200). -/
theorem writeContent_eq (q : Request) (k : Nat) :
    writeContent q k = [byteAt q.payload 2, byteAt q.payload 3, BitVec.ofNat 8 k, 0] := by
  have byte (b : Byte) : BitVec.ofNat 8 b.toNat = b := BitVec.ofNat_toNat _ b |>.trans (BitVec.setWidth_eq b)
  simp [writeContent, u8, Request.param, nat8At, byte]

theorem take_padded : ∀ l : List Byte, (l ++ [0, 0]).take 2 = [byteAt l 0, byteAt l 1]
  | [] => rfl
  | [_] => rfl
  | _ :: _ :: _ => rfl

theorem byteAt_drop (l : List Byte) (k i : Nat) : byteAt (l.drop k) i = byteAt l (k + i) := by
  rw [byteAt, byteAt, List.getD_eq_getElem?_getD, List.getD_eq_getElem?_getD, List.getElem?_drop]

/-- The table and index bytes of a payload, 0 for those it lacks. -/
theorem payload_padded (l : List Byte) : (l.drop 2 ++ [0, 0]).take 2 = [byteAt l 2, byteAt l 3] := by
  rw [take_padded, byteAt_drop, byteAt_drop]

theorem write_short (head : AtHead 2 n q rest s) (short : n < 3) :
    Replies .write s q .invalid (writeContent q 0) (begun rest s) := by
  have run := runRequest_head head doWrite
  have params : q.params < 3 := by
    unfold Request.params
    have := head.2.2.1
    omega
  rw [show doWrite q (begun rest s) = ⟨.invalid, writeContent q 0, begun rest s⟩ from if_pos params] at run
  exact run

theorem write_form (head : AtHead 2 (3 + n) q rest s) : ¬ q.params < 3 := by
  unfold Request.params
  have := head.2.2.1
  omega

theorem write_noTable (head : AtHead 2 (3 + n) q rest s)
    (none : (tableOf (nat8At q.payload 2)).bind Table.writeSize = none) :
    Replies .write s q .badTable (writeContent q 0) (begun rest s) := by
  have run := runRequest_head head doWrite
  have judged : doWrite q (begun rest s) = ⟨.badTable, writeContent q 0, begun rest s⟩ := by
    rw [doWrite, if_neg (write_form head), show tableOf (q.param 0) = tableOf (nat8At q.payload 2) from rfl]
    cases table : tableOf (nat8At q.payload 2) with
    | none => rfl
    | some t =>
      rw [table] at none
      have size : t.writeSize = Option.none := none
      dsimp only
      rw [size]
  rw [judged] at run
  exact run

theorem write_table (head : AtHead 2 (3 + n) q rest s) {t : Table} {size : Nat}
    (table : tableOf (nat8At q.payload 2) = some t) (writes : t.writeSize = some size) {w : Written}
    (written : writeTable t size (nat8At q.payload 3) (nat8At q.payload 4) (q.payload.drop 5) (begun rest s) = w) :
    Replies .write s q w.code (writeContent q w.count) w.state := by
  have run := runRequest_head head doWrite
  have judged : doWrite q (begun rest s) = ⟨w.code, writeContent q w.count, w.state⟩ := by
    rw [doWrite, if_neg (write_form head), show tableOf (q.param 0) = tableOf (nat8At q.payload 2) from rfl, table]
    dsimp only
    rw [writes, ← written]
    rfl
  rw [judged] at run
  exact run

end

/-- Settles O55: the form, the table, the size, and the entries up to the first refused one. -/
theorem writesStopAtFirstRefusal : Obligations.WritesStopAtFirstRefusal := by
  refine ⟨fun q rest n s head short => ?_, fun q rest n s head => ⟨fun t table none => ?_,
    fun t size table writes => ⟨fun misfits => ?_, fun some length short declarations index => ?_,
      fun some length short index a b u payload sized stored => ?_⟩⟩⟩
  · have run := write_short head short
    rw [writeContent_eq] at run
    rw [payload_padded]
    exact run
  · have run := write_noTable head (table ▸ none)
    rw [writeContent_eq] at run
    exact run
  all_goals
    have bytes : (q.payload.drop 5).length = n := by
      rw [List.length_drop, head.2.2.1]
      omega
    have run (w : Written) := write_table (w := w) head table writes
    simp only [writeContent_eq] at run
  · exact run _ (writeTable_misfits (by rwa [bytes]))
  · exact run _ (writeTable_badIndex some (bytes.trans length) (bytes ▸ short) declarations index)
  · have written := writeTable_writes (s := begun rest s) some (bytes.trans length) (bytes ▸ short) index
    have count : nat8At q.payload 4 = (a ++ b).length := by
      have total := length_flatten_sized _ sized
      rw [← payload, bytes, length] at total
      exact Nat.eq_of_mul_eq_mul_right (writeSize_pos writes) total
    rw [payload, count, splitEntries_flatten _ sized, writeEntries_stored a b _ 0 stored, Nat.zero_add] at written
    rw [payload, count] at run
    refine ⟨fun nil => ?_, fun e c code cons refused => ?_⟩
    · rw [nil, writeEntries, afterWrite_eq, List.append_nil] at written
      rw [nil, List.append_nil] at run
      exact run _ written
    · rw [cons, writeEntries, refused, afterWrite_eq] at written
      rw [cons] at run
      exact run _ written

end Sys2Proof.Machine
end

section
/-! PROOFS. What the owners of the tables check of one entry, the feeder records and the declarations apart
(R2, R62, R64, R67, R123, R124, R152). -/

namespace Sys2Proof.Machine

section
variable {e : List Byte} {s : State}

/-! ## The staged map (R2) -/

/-- An address byte within the ring's addresses is the address it names. -/
theorem address_eq_iff {n : Nat} (low : n ≤ 62) (a : RingAddr) : BitVec.ofNat 6 n = a ↔ n = a.toNat := by
  rw [BitVec.toNat_eq, BitVec.toNat_ofNat, Nat.mod_eq_of_lt (by omega)]

theorem addressElsewhere_iff (m : Vector RingAddr 17) (i : Fin 17) (a : RingAddr) :
    addressElsewhere m i.val a = true ↔ ∃ j : Fin 17, j ≠ i ∧ a = m[j] := by
  simp only [addressElsewhere, List.any_eq_true, Bool.and_eq_true, beq_iff_eq, bne_iff_ne]
  refine ⟨fun ⟨p, mem, address, other⟩ => ?_, fun ⟨j, other, address⟩ => ?_⟩
  · obtain ⟨x, k⟩ := p
    obtain ⟨within, entry⟩ := List.mem_zipIdx_iff_getElem?.1 mem |> List.getElem?_eq_some_iff.1
    exact ⟨⟨k, by simpa using within⟩, fun same => other (congrArg Fin.val same), by
      rw [← address, ← entry]; rfl⟩
  · refine ⟨(m[j], j.val), List.mem_zipIdx_iff_getElem?.2 ?_, address.symm, fun same => other (Fin.ext same)⟩
    simp

theorem mapEntry_bad_iff (i : Fin 17) :
    (62 < nat8At e 0 ∨ (nat8At e 0 ≠ 0 ∧ BitVec.ofNat 6 (nat8At e 0) = s.rpt.ownAddress) ∨
      (nat8At e 0 ≠ 0 ∧ addressElsewhere s.siu.staged i.val (BitVec.ofNat 6 (nat8At e 0)) = true)) ↔
    (62 < nat8At e 0 ∨ nat8At e 0 ≠ 0 ∧ (nat8At e 0 = s.rpt.ownAddress.toNat ∨
      ∃ j : Fin 17, j ≠ i ∧ s.siu.staged[j].toNat = nat8At e 0)) := by
  rw [← and_or_left, addressElsewhere_iff]
  refine or_congr_right' fun low => ?_
  simp only [address_eq_iff (Nat.not_lt.1 low), eq_comm]

theorem mapEntry_stores (i : Fin 17) :
    Table.store i.val e s .stagedMap =
      if 62 < nat8At e 0 ∨ nat8At e 0 ≠ 0 ∧ (nat8At e 0 = s.rpt.ownAddress.toNat ∨
        ∃ j : Fin 17, j ≠ i ∧ s.siu.staged[j].toNat = nat8At e 0) then .refused .invalid
      else .stored { s with siu := { s.siu with staged := upd s.siu.staged i (BitVec.ofNat 6 (nat8At e 0)) } } := by
  rw [Table.store, writeMapEntry, dif_pos i.isLt]
  exact if_congr (mapEntry_bad_iff i) rfl rfl

/-! ## The curves and groups (R62, R64, R67) -/

/-- A group that the mode map names is the one of some mode. -/
theorem exists_modeMap_iff (r : FeederRecord) (p : GroupNo → Prop) :
    (∃ g ∈ r.modeMap.toList, p g) ↔ ∃ m : Fin 3, p r.modeMap[m] := by
  refine ⟨fun ⟨g, mem, holds⟩ => ?_, fun ⟨m, holds⟩ => ⟨_, mem_modeMap r m, holds⟩⟩
  obtain ⟨i, within, rfl⟩ := List.getElem_of_mem mem
  exact ⟨⟨i, by simpa using within⟩, by simpa using holds⟩

theorem names_iff (r : FeederRecord) (g : GroupNo) : r.names g = true ↔ ∃ m : Fin 3, r.modeMap[m] = g := by
  rw [FeederRecord.names, List.contains_iff_mem, ← exists_modeMap_iff r (· = g), exists_eq_right]

theorem uses_iff (d : InverseSetting) (n : Nat) : d.uses n = true ↔ d.pickup ≠ 0 ∧ d.curve = n := by
  simp [InverseSetting.uses]

theorem curveInUse_iff (n : Nat) : curveInUse s n = true ↔ ∃ (f : Slot) (m : Fin 3),
    (s.feeder f).inService = true ∧
      let g := s.group f (s.feeder f).modeMap[m]
      g.phIt.pickup ≠ 0 ∧ g.phIt.curve = n ∨ g.efIt.pickup ≠ 0 ∧ g.efIt.curve = n := by
  simp only [curveInUse, List.any_eq_true, Bool.and_eq_true, Bool.or_eq_true, uses_iff, mem_allSlots, true_and,
    exists_and_left]
  exact exists_congr fun f => and_congr_right fun _ => exists_modeMap_iff (s.feeder f) _

theorem curve_stores (i : Fin 8) :
    Table.store i.val e s .curves =
      if 16 < nat8At e 0 then .refused .invalid
      else if (Curve.ofBytes e).valid = false ∧ curveInUse s i = true then .refused .inUse
      else .stored { s with gst := { s.gst with curves := upd s.gst.curves i (Curve.ofBytes e) } } :=
  dif_pos i.isLt

theorem group_stores (f : Slot) (g : GroupNo) :
    Table.store (4 * f.val + g.val) e s .groups =
      if s.activeGroup f = some g ∨ s.pendingGroup f = some g then .refused .active
      else if (s.feeder f).inService = true ∧ (s.feeder f).names g = true ∧
        (GroupRecord.ofBytes e).valid s.gst.curves = false then .refused .invalid
      else .stored { s with gst := { s.gst with
        groups := upd s.gst.groups (State.groupIndex f g) (GroupRecord.ofBytes e) } } := by
  have within : 4 * f.val + g.val < 32 := by omega
  have slot : (⟨(4 * f.val + g.val) / 4, by omega⟩ : Slot) = f :=
    Fin.ext (show (4 * f.val + g.val) / 4 = f.val by omega)
  have number : (⟨(4 * f.val + g.val) % 4, by omega⟩ : GroupNo) = g :=
    Fin.ext (show (4 * f.val + g.val) % 4 = g.val by omega)
  rw [Table.store, writeGroup, dif_pos within]
  dsimp only
  rw [slot, number]
  rfl

/-! ## Indices beyond the tables (R185) -/

theorem store_badIndex (i : Nat) (e : List Byte) (s : State) :
    (17 ≤ i → Table.store i e s .stagedMap = .refused .badIndex) ∧
    (8 ≤ i → Table.store i e s .curves = .refused .badIndex) ∧
    (32 ≤ i → Table.store i e s .groups = .refused .badIndex) ∧
    (8 ≤ i → Table.store i e s .feeders = .refused .badIndex) ∧
    (1 ≤ i → Table.store i e s .earthSettings = .refused .badIndex) ∧
    (1 ≤ i → Table.store i e s .huntOrder = .refused .badIndex) ∧
    (4 ≤ i → Table.store i e s .seasonWindows = .refused .badIndex) := by
  refine ⟨fun h => dif_neg (by omega), fun h => dif_neg (by omega), fun h => dif_neg (by omega), fun h => ?_,
    fun h => if_pos (by omega), fun h => if_pos (by omega), fun h => ?_⟩
  · rw [Table.store, writeFeeder, show slotOfByte i = none from dif_neg (by omega)]
  · rw [Table.store, writeSeasonWindow, show fin4OfByte i = none from dif_neg (by omega)]

/-! ## The earth settings and the hunt order (R123, R124) -/

theorem yesNoOfByte_of (b : Nat) : yesNoOfByte b = if b ≤ 1 then some (decide (b = 1)) else none := by
  rcases b with _ | _ | b <;> simp [yesNoOfByte]

theorem persistentAction_ofByte (b : Nat) : PersistentAction.ofByte b =
    if b ≤ 1 then some (if b = 1 then .busTrip else .alarm) else none := by
  rcases b with _ | _ | b <;> simp [PersistentAction.ofByte]

/-- The fields of one mode in an earth settings entry lie in their ranges (R123). -/
def EarthModeGood (e : List Byte) (k : Nat) : Prop :=
  nat8At e k ≤ 1 ∧ nat8At e (k + 1) ≤ 1 ∧ 10 ≤ nat16At e (k + 2) ∧ nat16At e (k + 2) ≤ 3600

/-- The settings of one mode that an earth settings entry holds (R123). -/
def earthModeAt (e : List Byte) (k : Nat) : EarthModeSettings :=
  ⟨decide (nat8At e k = 1), if nat8At e (k + 1) = 1 then .busTrip else .alarm, nat16At e (k + 2), nat16At e (k + 4)⟩

theorem earthMode_good {k : Nat} (good : EarthModeGood e k) :
    EarthModeSettings.ofBytes e k = some (earthModeAt e k) := by
  obtain ⟨hunt, action, limit⟩ := good
  rw [EarthModeSettings.ofBytes, yesNoOfByte_of, persistentAction_ofByte, if_pos hunt, if_pos action]
  exact if_pos limit

theorem earthMode_bad {k : Nat} (bad : ¬ EarthModeGood e k) : EarthModeSettings.ofBytes e k = none := by
  rw [EarthModeSettings.ofBytes, yesNoOfByte_of, persistentAction_ofByte]
  by_cases hunt : nat8At e k ≤ 1
  · by_cases action : nat8At e (k + 1) ≤ 1
    · rw [if_pos hunt, if_pos action]
      exact if_neg fun limit => bad ⟨hunt, action, limit⟩
    · rw [if_neg action, if_pos hunt]
  · rw [if_neg hunt]

/-- The fields of an earth settings entry that no mode has for itself lie in their ranges (R123). -/
def EarthSharedGood (e : List Byte) : Prop :=
  (16 ≤ nat16At e 0 ∧ nat16At e 0 ≤ 46339) ∧ (1 ≤ nat16At e 2 ∧ nat16At e 2 ≤ 3000) ∧
    (4 ≤ nat8At e 4 ∧ nat8At e 4 ≤ 250) ∧ (1 ≤ nat8At e 5 ∧ nat8At e 5 ≤ nat8At e 4) ∧
    1 ≤ nat16At e 6 ∧ (5 ≤ nat16At e 8 ∧ nat16At e 8 ≤ 500) ∧ (5 ≤ nat16At e 10 ∧ nat16At e 10 ≤ 500)

theorem earthSettings_good (shared : EarthSharedGood e) (modes : ∀ m : Mode, EarthModeGood e (12 + 6 * m.index.val)) :
    EarthSettings.ofBytes e = some ⟨nat16At e 0, nat16At e 2, nat8At e 4, nat8At e 5, nat16At e 6, nat16At e 8,
      nat16At e 10, #v[earthModeAt e 12, earthModeAt e 18, earthModeAt e 24]⟩ := by
  rw [EarthSettings.ofBytes, earthMode_good (k := 12) (modes .normal), earthMode_good (k := 18) (modes .season),
    earthMode_good (k := 24) (modes .ban)]
  exact if_pos shared

theorem earthSettings_bad (bad : ¬ (EarthSharedGood e ∧ ∀ m : Mode, EarthModeGood e (12 + 6 * m.index.val))) :
    EarthSettings.ofBytes e = none := by
  rw [EarthSettings.ofBytes]
  split
  · next normal season ban =>
    refine if_neg fun shared => bad ⟨shared, fun m => ?_⟩
    by_contra poor
    have none := earthMode_bad poor
    cases m with
    | normal => cases none.symm.trans normal
    | season => cases none.symm.trans season
    | ban => cases none.symm.trans ban
  · rfl

theorem earthSettings_refused (none : EarthSettings.ofBytes e = none) :
    Table.store 0 e s .earthSettings = .refused .invalid := by
  rw [Table.store, writeEarthSettings, if_neg (by simp), none]

theorem earthSettings_stored {x : EarthSettings} (known : EarthSettings.ofBytes e = some x) :
    Table.store 0 e s .earthSettings = .stored { s with efs := { s.efs with settings := x } } := by
  rw [Table.store, writeEarthSettings, if_neg (by simp), known]

/-- The bytes of a hunt order name feeder slots, each its own (R124). -/
theorem slotsOfBytes_eq_some (bs : List Byte) (fs : List Slot) :
    slotsOfBytes bs = some fs ↔ fs.map Fin.val = bs.map BitVec.toNat := by
  induction bs generalizing fs with
  | nil => cases fs <;> simp [slotsOfBytes]
  | cons b bs ih =>
    rw [slotsOfBytes]
    cases fs with
    | nil => split <;> simp
    | cons f fs =>
      rw [List.map_cons, List.map_cons, List.cons.injEq, ← ih, eq_comm (a := f.val), ← slotOfByte_eq_some_iff]
      split
      · next slot slots => simp [slot, slots]
      · next none =>
        refine iff_of_false (by simp) fun ⟨slot, slots⟩ => none f fs slot slots

theorem slotsOfBytes_known (bs : List Byte) (low : ∀ b ∈ bs, b.toNat ≤ 7) : ∃ fs, slotsOfBytes bs = some fs := by
  refine ⟨bs.pmap (fun b h => ⟨b.toNat, Nat.lt_succ_of_le h⟩) low, (slotsOfBytes_eq_some _ _).2 ?_⟩
  rw [List.map_pmap, List.pmap_eq_map]

/-- The slots of a hunt order are named once each where its bytes are. -/
theorem slots_nodup_iff {bs : List Byte} {fs : List Slot} (names : fs.map Fin.val = bs.map BitVec.toNat) :
    fs.Nodup ↔ bs.Nodup := by
  rw [← List.nodup_map_iff Fin.val_injective, names,
    List.nodup_map_iff fun a b same => BitVec.eq_of_toNat_eq same]

theorem slots_low {bs : List Byte} {fs : List Slot} (names : fs.map Fin.val = bs.map BitVec.toNat) (b : Byte)
    (mem : b ∈ bs) : b.toNat ≤ 7 := by
  have named : b.toNat ∈ fs.map Fin.val := names ▸ List.mem_map_of_mem mem
  obtain ⟨f, _, same⟩ := List.mem_map.1 named
  omega

theorem huntOrder_good {fs : List Slot} (short : nat8At e 0 ≤ 8)
    (names : fs.map Fin.val = ((e.drop 1).take (nat8At e 0)).map BitVec.toNat)
    (once : ((e.drop 1).take (nat8At e 0)).Nodup) : huntOrderOfBytes e = some fs := by
  rw [huntOrderOfBytes, if_pos short, (slotsOfBytes_eq_some _ _).2 names]
  exact if_pos ((slots_nodup_iff names).2 once)

theorem huntOrder_bad (bad : ¬ (nat8At e 0 ≤ 8 ∧ (∀ b ∈ (e.drop 1).take (nat8At e 0), b.toNat ≤ 7) ∧
    ((e.drop 1).take (nat8At e 0)).Nodup)) : huntOrderOfBytes e = none := by
  unfold huntOrderOfBytes
  split
  · next short =>
    split
    · next fs slots =>
      have names := (slotsOfBytes_eq_some _ _).1 slots
      exact if_neg fun once => bad ⟨short, slots_low names, (slots_nodup_iff names).1 once⟩
    · rfl
  · rfl

theorem huntOrder_refused (none : huntOrderOfBytes e = none) :
    Table.store 0 e s .huntOrder = .refused .invalid := by
  rw [Table.store, writeHuntOrder, if_neg (by simp), none]

theorem huntOrder_stored {fs : List Slot} (known : huntOrderOfBytes e = some fs) :
    Table.store 0 e s .huntOrder = .stored { s with efs := { s.efs with huntOrder := fs } } := by
  rw [Table.store, writeHuntOrder, if_neg (by simp), known]

/-! ## The season windows (R152) -/

theorem mode_ofByte_index (m : Mode) : Mode.ofByte m.index.val = some m := by
  cases m <;> rfl

theorem seasonWindow_bad (d : District) (bad : 2 < nat8At e 4) :
    Table.store d.val e s .seasonWindows = .refused .invalid := by
  rw [Table.store, writeSeasonWindow, (fin4OfByte_eq _ d).2 rfl, SeasonWindow.ofBytes, mode_ofByte_none bad]

theorem seasonWindow_good (d : District) {m : Mode} (mode : nat8At e 4 = m.index.val) :
    Table.store d.val e s .seasonWindows = .stored { s with mdu := { s.mdu with
      windows := upd s.mdu.windows d ⟨word16At e 0, word16At e 2, m⟩ } } := by
  rw [Table.store, writeSeasonWindow, (fin4OfByte_eq _ d).2 rfl, SeasonWindow.ofBytes, mode, mode_ofByte_index]

end

end Sys2Proof.Machine
end

section
/-! PROOFS. What the owner of the feeder records checks of one entry, and the effects of a stored record
(R69, R70, R161, R165). -/

namespace Sys2Proof.Machine

/-! ## FIRE by the new district (R161, R94, R106) -/

section
variable {f : Slot} {s : State}

theorem refreshPosition_withdrawn (f : Slot) (v : State) : withdrawOrder f v =
    (v.setOrder f (idle (v.order f))).setSwitch f
      { v.switch f with position := positionOf (v.switch f).reported (idle (v.order f)) } := by
  simp only [withdrawOrder, putOrder, refreshPosition, derivePosition_eq_positionOf, State.switch_setOrder,
    State.order_setOrder, if_pos, OrderRecord.idled]

/-- `s` with block reason FIRE written for feeder `f` as its district's mode wants it (R161). -/
def fireWritten (f : Slot) (s : State) : State :=
  s.setSeq f { s.seq f with reasons := { (s.seq f).reasons with fire := decide (s.feederMode f = .ban) } }

/-- FIRE is added to a sequencer in its dead time, which brings LOCKOUT (R106). -/
def FireLocks (f : Slot) (s : State) : Prop :=
  (s.feederMode f = .ban ∧ s.holds f .fire = false) ∧ s.acting f = true ∧ (s.seq f).state = .dead

theorem addFire_locks (locks : FireLocks f s) :
    addReason .fire f s = withLockout .blocked f (fireWritten f s) := by
  obtain ⟨⟨ban, absent⟩, acts, dead⟩ := locks
  rw [addReason_blocked absent acts dead, fireWritten, decide_eq_true ban]
  rfl

theorem addFire_writes (ban : s.feederMode f = .ban) (mild : ¬ FireLocks f s) :
    addReason .fire f s = fireWritten f s := by
  rw [addReason_writes fun ⟨acts, dead, absent⟩ => mild ⟨⟨ban, absent⟩, acts, dead⟩, fireWritten, decide_eq_true ban]
  rfl

theorem alignFire_absent (mild : s.feederMode f ≠ .ban) : alignFire f s = fireWritten f s := by
  rw [alignFire, if_neg mild, fireWritten, decide_eq_false mild]
  rfl

theorem alignFire_held (ban : s.feederMode f = .ban) (held : s.holds f .fire = true) :
    alignFire f s = fireWritten f s := by
  have mild : ¬ FireLocks f s := fun locks => absurd held (by rw [locks.1.2]; exact Bool.false_ne_true)
  rw [alignFire, if_pos ban, addFire_held held, ← addFire_writes ban mild, addReason_held held]

/-- FIRE follows the district's mode: written, with the LOCKOUT and the withdrawal it brings when it is new. -/
theorem alignFire_aligned (f : Slot) (s : State) : FireAligned f s (alignFire f s) := by
  by_cases added : s.feederMode f = .ban ∧ s.holds f .fire = false
  · obtain ⟨ban, absent⟩ := added
    have reason : addReason .fire f s = if (s.feederMode f = .ban ∧ s.holds f .fire = false) ∧ s.acting f = true ∧
        (s.seq f).state = .dead then withLockout .blocked f (fireWritten f s) else fireWritten f s := by
      split
      · next locks => exact addFire_locks locks
      · next mild => exact addFire_writes ban mild
    have order : (addReason .fire f s).order f = s.order f := (addReason_work _ _ s).order_eq f
    have switch : (addReason .fire f s).switch f = s.switch f := (addReason_work _ _ s).switch_eq f
    rw [alignFire, if_pos ban]
    refine ⟨fun stays => ?_, fun _ withdrawn => ?_⟩
    · exact (addFire_kept_order absent fun h => stays ⟨⟨ban, absent⟩, (withdrawable_iff _).1 h⟩).trans reason
    · rw [addFire_withdraws absent ((withdrawable_iff _).2 withdrawn), refreshPosition_withdrawn, order, switch,
        reason, withdrawnReport, reportOf, withdrawn.2.1]
      rfl
  · have written : alignFire f s = fireWritten f s := by
      by_cases ban : s.feederMode f = .ban
      · exact alignFire_held ban (by simpa using fun absent => added ⟨ban, absent⟩)
      · exact alignFire_absent ban
    refine ⟨fun _ => written.trans (if_neg fun locks => added locks.1).symm, fun h => absurd h added⟩

end

/-! ## The feeder's service (R70, R38, R120, R76) -/

section
variable {f : Slot} {old : FeederRecord} {a : State}

theorem feederJoins_inService (device : a.mgr.device = .inService) (serves : (a.feeder f).inService = true) :
    let g := mappedGroup a f
    let joined := { a.setGroups f (some g) none with raised :=
      a.raised ++ [⟨some f, a.tod, none, .groupChange (a.activeGroup f) g .joining none⟩] }
    let ends := (a.seq f).state = .dead ∧ (a.group f g).maxShots < (a.seq f).shot
    (ends → feederJoins f a = withLockout .shots f joined) ∧ (¬ ends → feederJoins f a = joined) := by
  intro g joined ends
  have shots : maxShots (groupSet .joining none g f a) f = (a.group f g).maxShots := groupSet_maxShots _ _
  have acts : (groupSet .joining none g f a).acting f = true := by
    show (a.mgr.device == .inService && (a.feeder f).inService) = true
    rw [device, serves]
    rfl
  have notified : feederJoins f a = groupNotify f (groupSet .joining none g f a) :=
    (if_pos device).trans (applyGroup_eq _ _ _ _ _)
  refine ⟨fun ⟨dead, most⟩ => ?_, fun stays => ?_⟩
  · exact notified.trans (groupNotify_shots acts dead (shots ▸ most))
  · exact notified.trans (groupNotify_stays fun ⟨_, dead, most⟩ => stays ⟨dead, shots ▸ most⟩)

/-- The state in which the sequencer of feeder `f` follows R120: its element state cleared, its groups absent. -/
def feederLeft (f : Slot) (a : State) : State := (a.setElement f .cleared).setGroups f none none

theorem feederLeaves_inService (device : a.mgr.device = .inService) :
    feederLeaves f a = leaveSequencer f (feederLeft f a) := if_pos device

theorem feederLeaves_configuring (device : a.mgr.device = .configuring) :
    feederLeaves f a = a.setElement f .cleared :=
  if_neg fun h => by cases device.symm.trans (h : a.mgr.device = .inService)

theorem feederJoins_configuring (device : a.mgr.device = .configuring) : feederJoins f a = a :=
  if_neg fun h => by cases device.symm.trans h

theorem leaveSequencer_rests (rests : ¬ MidSequence (a.seq f)) :
    leaveSequencer f a = a.setSeq f (seqLeft (a.seq f)) := by
  unfold leaveSequencer seqLeft
  dsimp only
  cases state : (a.seq f).state with
  | opening => exact absurd (.inl state) rests
  | dead => exact absurd (.inr (.inl state)) rests
  | closing => exact absurd (.inr (.inr state)) rests
  | reclaim => rfl
  | ready => exact (setSeq_self a f).symm
  | lockout => exact (setSeq_self a f).symm

/-! ## What the later effects leave of GST and ELU -/

theorem updateBusMode_gst (s : State) : (updateBusMode s).gst = s.gst := by
  unfold updateBusMode
  dsimp only
  split
  · rfl
  · split
    · exact (efsBecameBan_work _).gst
    · rfl

theorem serviceFollows_feeders (f : Slot) (old : FeederRecord) (s : State) :
    (serviceFollows f old s).gst.feeders = s.gst.feeders := by
  have left (t : State) : (leaveSequencer f t).gst.feeders = t.gst.feeders := by rw [(leaveSequencer_work f t).gst]
  unfold serviceFollows feederLeaves feederJoins
  dsimp only
  split
  · split
    · exact left _
    · rfl
  · split
    · split
      · exact (applyGroup_modeWork _ _ _ _ s).feeders
      · rfl
    · rfl

/-- The last effects of a stored feeder record leave the tables of GST and ELU as the feeder's service did. -/
theorem feederStored_tables_of_service (f : Slot) (old : FeederRecord) (s : State) :
    (feederStored f old s).gst = (serviceFollows f old s).gst ∧
      (feederStored f old s).elu = (serviceFollows f old s).elu := by
  have fired (t : State) : (districtFollows f old (s.feeder f) t).gst = t.gst ∧
      (districtFollows f old (s.feeder f) t).elu = t.elu := by
    unfold districtFollows
    split
    · exact ⟨rfl, rfl⟩
    · exact ⟨(alignFire_work f t).gst, (alignFire_work f t).elu⟩
  rw [feederStored_eq]
  split
  · exact fired _
  · rw [updateBusMode_gst, (updateBusMode_work _).elu]
    exact fired _

end

end Sys2Proof.Machine
end

section
/-! PROOFS. The effects of a stored feeder record, and the declaration entries (R69, R70, R154). -/

namespace Sys2Proof.Machine

/-! ## A feeder record (R69, R70) -/

section
variable {f : Slot} {r old : FeederRecord} {a s : State} {e : List Byte}

theorem feederRefused_iff : feederRefused f r s = true ↔ (∃ m : Fin 3, groupValidAt s f r.modeMap[m] = false) ∨
    s.mgr.device = .inService ∧ r.inService = true ∧ (s.feeder f).inService = false ∧
      s.samplingAddress f.role = 0 := by
  simp only [feederRefused, Bool.or_eq_true, Bool.not_eq_true', modeMap_all_iff, Bool.and_eq_true, beq_iff_eq,
    and_assoc]

theorem feederActive_iff : feederActive f r s = true ↔ s.mgr.device = .inService ∧ (s.feeder f).inService = true ∧
    r.inService = true ∧ (r.district ≠ (s.feeder f).district ∨
      r.modeMap[(s.feederMode f).index] ≠ (s.feeder f).modeMap[(s.feederMode f).index]) := by
  simp only [feederActive, Bool.and_eq_true, Bool.or_eq_true, bne_iff_ne, beq_iff_eq, and_assoc]

theorem feeder_malformed (none : FeederRecord.ofBytes e = none) :
    Table.store f.val e s .feeders = .refused .invalid := by
  rw [Table.store, writeFeeder, (slotOfByte_eq_some_iff _ f).2 rfl, none]

theorem feeder_stores (formed : FeederRecord.ofBytes e = some r) : Table.store f.val e s .feeders =
    if feederRefused f r s then .refused .invalid
    else if feederActive f r s then .refused .active
    else .stored (feederStored f (s.feeder f) (s.setFeeder f r)) := by
  rw [Table.store, writeFeeder, (slotOfByte_eq_some_iff _ f).2 rfl, formed]

theorem serviceFollows_leaves (out : old.inService = true ∧ (a.feeder f).inService = false) :
    serviceFollows f old a = feederLeaves f a := if_pos out

theorem serviceFollows_joins (out : old.inService = false) (serves : (a.feeder f).inService = true) :
    serviceFollows f old a = feederJoins f a :=
  (if_neg fun h => by cases out.symm.trans h.1).trans (if_pos ⟨out, serves⟩)

theorem serviceFollows_stays (same : old.inService = (a.feeder f).inService) : serviceFollows f old a = a :=
  (if_neg fun ⟨before, after⟩ => by cases before.symm.trans (same.trans after)).trans
    (if_neg fun ⟨before, after⟩ => by cases before.symm.trans (same.trans after))

/-- A feeder that has left service has no group and a cleared element state (R38, R70). -/
theorem feederStored_left (out : old.inService = true ∧ (a.feeder f).inService = false)
    (device : a.mgr.device = .inService) :
    let t := feederStored f old a
    t.activeGroup f = none ∧ t.pendingGroup f = none ∧ t.element f = .cleared := by
  obtain ⟨gst, elu⟩ := feederStored_tables_of_service f old a
  have work := leaveSequencer_work f (feederLeft f a)
  rw [serviceFollows_leaves out, feederLeaves_inService device, work.gst] at gst
  rw [serviceFollows_leaves out, feederLeaves_inService device, work.elu] at elu
  dsimp only
  rw [State.activeGroup, State.pendingGroup, State.element, gst, elu]
  exact ⟨(State.activeGroup_setGroups f f none none _).trans (if_pos rfl),
    (State.pendingGroup_setGroups f f none none _).trans (if_pos rfl), upd_same _ _ _⟩

/-- A feeder that has joined service has the group that its mode map names (R70). -/
theorem feederStored_joined (out : old.inService = false) (serves : (a.feeder f).inService = true)
    (device : a.mgr.device = .inService) : (feederStored f old a).activeGroup f = some (mappedGroup a f) := by
  have gst := (feederStored_tables_of_service f old a).1
  have joins : feederJoins f a = applyGroup .joining none (mappedGroup a f) f a := if_pos device
  rw [serviceFollows_joins out serves, joins] at gst
  rw [State.activeGroup, gst]
  exact (applyGroup_groups .joining none).1

theorem feederStored_feeder (old : FeederRecord) (a : State) (f k : Slot) :
    (feederStored f old a).feeder k = a.feeder k := by
  rw [State.feeder, (feederStored_tables_of_service f old a).1, serviceFollows_feeders, State.feeder]

end

/-! ## The declaration entries (R153, R154) -/

section
variable {e : List Byte} {s : State} {d : District}

theorem sameKey_iff (a b : Declaration) :
    sameKey a b = true ↔ b.day = a.day ∧ b.district = a.district ∧ b.startMinute = a.startMinute := by
  rw [eq_comm (a := b.day), eq_comm (a := b.district), eq_comm (a := b.startMinute)]
  simp only [sameKey, Bool.and_eq_true, beq_iff_eq, and_assoc]

theorem declarationWrite_fits (district : nat8At e 2 = d.val) (start : nat16At e 4 ≤ 1439)
    (stop : nat16At e 6 ≤ 1440) (before : nat16At e 4 < nat16At e 6) : DeclarationWrite.ofBytes e =
      if nat8At e 3 = 1 then some (.put ⟨d, word16At e 0, nat16At e 4, nat16At e 6, .season⟩)
      else if nat8At e 3 = 2 then some (.put ⟨d, word16At e 0, nat16At e 4, nat16At e 6, .ban⟩)
      else if nat8At e 3 = 255 then some (.cancel d (word16At e 0) (nat16At e 4))
      else none := by
  rw [DeclarationWrite.ofBytes, (fin4OfByte_eq _ d).2 district]
  exact if_pos ⟨start, stop, before⟩

theorem declarationWrite_bad (bad : ¬ (nat8At e 2 ≤ 3 ∧ nat16At e 4 ≤ 1439 ∧ nat16At e 6 ≤ 1440 ∧
    nat16At e 4 < nat16At e 6 ∧ (nat8At e 3 = 1 ∨ nat8At e 3 = 2 ∨ nat8At e 3 = 255))) :
    DeclarationWrite.ofBytes e = none := by
  unfold DeclarationWrite.ofBytes
  split
  · rfl
  · next d known =>
    have district : nat8At e 2 ≤ 3 := by
      rw [(fin4OfByte_eq _ d).1 known]
      exact Nat.le_of_lt_succ d.isLt
    dsimp only
    split
    · next minutes =>
      obtain ⟨start, stop, before⟩ := minutes
      have level : ¬ (nat8At e 3 = 1 ∨ nat8At e 3 = 2 ∨ nat8At e 3 = 255) := fun level =>
        bad ⟨district, start, stop, before, level⟩
      simp only [not_or] at level
      rw [if_neg level.1, if_neg level.2.1, if_neg level.2.2]
    · rfl

theorem declaration_put {d : Declaration} (put : DeclarationWrite.ofBytes e = some (.put d)) (i : Nat) :
    Table.store i e s .declarations =
      if (s.mdu.declarations.any fun x => sameKey d x) = false ∧ 32 ≤ s.mdu.declarations.length then .refused .full
      else .stored (setDeclarations (insertDeclaration d s.mdu.declarations) s) := by
  rw [Table.store, writeDeclaration, put]

/-- The entries that a CANCEL leaves are those of other keys (R154). -/
theorem declaration_cancelled (i : Nat) (district : nat8At e 2 = d.val) (cancel : DeclarationWrite.ofBytes e =
    some (.cancel d (word16At e 0) (nat16At e 4))) : Table.store i e s .declarations =
      .stored { s with mdu := { s.mdu with declarations := s.mdu.declarations.filter fun x =>
        !(x.day == word16At e 0 && x.district.val == nat8At e 2 && x.startMinute == nat16At e 4) } } := by
  rw [Table.store, writeDeclaration, cancel]
  refine congrArg (fun ds => Stored.stored (setDeclarations ds s)) (List.filter_congr fun x _ => ?_)
  rw [Bool.not_inj_iff, Bool.eq_iff_iff, sameKey_iff]
  simp only [Bool.and_eq_true, beq_iff_eq, and_assoc, district, Fin.ext_iff]

theorem held_iff (d : Declaration) (l : List Declaration) : (l.any fun x => sameKey d x) = true ↔
    ∃ x ∈ l, x.day = d.day ∧ x.district = d.district ∧ x.startMinute = d.startMinute := by
  simp only [List.any_eq_true, sameKey_iff]

theorem insertDeclaration_self (d : Declaration) (l : List Declaration) : d ∈ insertDeclaration d l := by
  induction l with
  | nil => exact List.mem_singleton_self d
  | cons y ys ih =>
    unfold insertDeclaration
    split
    · exact List.mem_cons_self
    · split
      · exact List.mem_cons_self
      · exact List.mem_cons_of_mem _ ih

theorem sameKey_of_keyBefore {a b : Declaration} (before : keyBefore a b = true) : sameKey a b = false := by
  by_contra same
  exact insertDeclaration_length_known.not_keyBefore_of_sameKey (by simpa using same) before

/-- In an ordered table an entry put by its key takes the place of the one that had the key, and no other (R154). -/
theorem mem_insertDeclaration_iff (d x : Declaration) (l : List Declaration)
    (sorted : l.Pairwise fun a b => keyBefore a b = true) :
    x ∈ insertDeclaration d l ↔ x = d ∨ x ∈ l ∧ sameKey d x = false := by
  induction l with
  | nil => simp [insertDeclaration]
  | cons y ys ih =>
    obtain ⟨first, rest⟩ := List.pairwise_cons.mp sorted
    have beyond {zs : List Declaration} (ahead : ∀ z ∈ zs, keyBefore d z = true) :
        x ∈ zs ↔ x ∈ zs ∧ sameKey d x = false :=
      ⟨fun mem => ⟨mem, sameKey_of_keyBefore (ahead x mem)⟩, And.left⟩
    unfold insertDeclaration
    split
    · next same =>
      rw [List.mem_cons, beyond fun z mem => keyBefore_of_sameKey same (first z mem), List.mem_cons]
      refine or_congr_right ⟨fun ⟨mem, other⟩ => ⟨.inr mem, other⟩, ?_⟩
      rintro ⟨rfl | mem, other⟩
      · exact absurd same (by rw [other]; exact Bool.false_ne_true)
      · exact ⟨mem, other⟩
    · next differs =>
      have other : sameKey d y = false := by simpa using differs
      split
      · next before =>
        refine List.mem_cons.trans (or_congr_right (beyond fun z mem => ?_))
        rcases List.mem_cons.1 mem with rfl | mem
        · exact before
        · exact keyBefore_trans before (first z mem)
      · rw [List.mem_cons, ih rest, List.mem_cons]
        constructor
        · rintro (rfl | rfl | ⟨mem, apart⟩)
          · exact .inr ⟨.inl rfl, other⟩
          · exact .inl rfl
          · exact .inr ⟨.inr mem, apart⟩
        · rintro (rfl | ⟨rfl | mem, apart⟩)
          · exact .inr (.inl rfl)
          · exact .inl rfl
          · exact .inr (.inr ⟨mem, apart⟩)

end

end Sys2Proof.Machine
end

section
/-! PROOFS. The obligation on the entries of the tables (R2, R62, R64, R67, R69, R70, R123, R124, R152, R154). -/

namespace Sys2Proof.Machine

section
variable {e : List Byte} {s : State}

/-- What becomes of a feeder record that is stored: service, then the district, then the bus mode. -/
theorem feederStored_runs (f : Slot) (old : FeederRecord) (a : State) :
    let v := serviceFollows f old a
    let w := districtFollows f old (a.feeder f) v
    ((a.feeder f).district = old.district → w = v) ∧ ((a.feeder f).district ≠ old.district → FireAligned f v w) ∧
      feederStored f old a = if old.inService = (a.feeder f).inService ∧ old.district = (a.feeder f).district then w
        else updateBusMode w := by
  refine ⟨fun same => if_pos same.symm, fun moved => ?_, feederStored_eq f old a⟩
  rw [districtFollows, if_neg (Ne.symm moved)]
  exact alignFire_aligned f _

theorem mappedGroup_of_feeder {f : Slot} {r : FeederRecord} {a : State} (own : a.feeder f = r) :
    mappedGroup a f = r.modeMap[(a.mdu.modes[r.district]).index] := by
  subst own
  rfl

theorem declaration_good (good : nat8At e 2 ≤ 3) : ∃ d : District, nat8At e 2 = d.val :=
  ⟨⟨nat8At e 2, Nat.lt_succ_of_le good⟩, rfl⟩

/-- The modes' settings that an earth settings entry holds (R123). -/
theorem earthModes_index (e : List Byte) (m : Mode) :
    #v[earthModeAt e 12, earthModeAt e 18, earthModeAt e 24][m.index] = earthModeAt e (12 + 6 * m.index.val) := by
  cases m <;> rfl

end

/-- Settles O56, owner by owner: the check of an entry, and what its storing leaves. -/
theorem entriesAreGuarded : Obligations.EntriesAreGuarded := by
  refine ⟨fun i e s => ?_, fun i e s => ?_, fun f g e s => ?_, fun f e s => ?_, store_badIndex, fun e s => ?_,
    fun e s => ?_, fun d e s => ⟨seasonWindow_bad d, fun m mode => seasonWindow_good d mode⟩, fun i e s => ?_,
    fun e d s put => ?_⟩
  -- The staged map (R2).
  · intro n bad
    exact ⟨fun h => (mapEntry_stores i).trans (if_pos h), fun h => (mapEntry_stores i).trans (if_neg h)⟩
  -- The curves (R62, R64).
  · intro c inUse
    rw [curve_stores]
    refine ⟨fun long => if_pos long, fun short invalid used => ?_, fun short free => ?_⟩
    · rw [if_neg (Nat.not_lt.2 short), if_pos ⟨invalid, (curveInUse_iff _).2 used⟩]
    · refine (if_neg (Nat.not_lt.2 short)).trans (if_neg fun ⟨invalid, used⟩ => ?_)
      rcases free with valid | unused
      · cases invalid.symm.trans valid
      · exact unused ((curveInUse_iff _).1 used)
  -- The groups (R67).
  · intro r active named i
    rw [group_stores]
    refine ⟨fun held => if_pos held, fun free uses invalid => ?_, fun free fits => ?_⟩
    · rw [if_neg free, if_pos ⟨uses.1, (names_iff _ g).2 uses.2, invalid⟩]
    · refine (if_neg free).trans (if_neg fun ⟨serves, mapped, invalid⟩ => ?_)
      rcases fits with unnamed | valid
      · exact unnamed ⟨serves, (names_iff _ g).1 mapped⟩
      · cases invalid.symm.trans valid
  -- The feeder records (R69, R70, R161, R165).
  · refine ⟨feeder_malformed, fun r formed => ?_⟩
    intro old bad mode active
    rw [feeder_stores formed]
    refine ⟨fun h => if_pos (feederRefused_iff.2 h), fun fit h => ?_, fun fit free => ?_⟩
    · rw [if_neg (mt feederRefused_iff.1 fit), if_pos (feederActive_iff.2 h)]
    rw [if_neg (mt feederRefused_iff.1 fit), if_neg (mt feederActive_iff.1 free)]
    have own : (s.setFeeder f r).feeder f = r := (State.feeder_setFeeder ..).trans (if_pos rfl)
    obtain ⟨settled, moved, runs⟩ := feederStored_runs f old (s.setFeeder f r)
    rw [own] at settled moved runs
    have out (h : old.inService = true ∧ r.inService = false) :
        old.inService = true ∧ ((s.setFeeder f r).feeder f).inService = false := own.symm ▸ h
    have serves (h : r.inService = true) : ((s.setFeeder f r).feeder f).inService = true := own.symm ▸ h
    have mapped := mappedGroup_of_feeder own
    refine ⟨_, _, feederStored f old (s.setFeeder f r), rfl, ?_, fun k other => ?_, fun leaves device => ?_,
      fun leaves device => ?_, fun joins device => ?_, fun joins device => ?_, fun same => ?_, settled, moved, runs⟩
    · rw [feederStored_feeder, own]
    · rw [feederStored_feeder, State.feeder_setFeeder, if_neg (Ne.symm other)]
    · exact (serviceFollows_leaves (out leaves)).trans (feederLeaves_configuring device)
    · have left := (serviceFollows_leaves (out leaves)).trans (feederLeaves_inService device)
      exact ⟨fun mid => left.trans (leaveSequencer_mid f _ mid), fun rests => left.trans (leaveSequencer_rests rests),
        feederStored_left (out leaves) device⟩
    · exact (serviceFollows_joins joins.1 (serves joins.2)).trans (feederJoins_configuring device)
    · have joined := serviceFollows_joins (a := s.setFeeder f r) joins.1 (serves joins.2)
      obtain ⟨locks, stays⟩ := feederJoins_inService (a := s.setFeeder f r) device (serves joins.2)
      have grouped := feederStored_joined (a := s.setFeeder f r) joins.1 (serves joins.2) device
      rw [mapped] at locks stays grouped
      exact ⟨fun ends => joined.trans (locks ends), fun goes => joined.trans (stays goes), grouped⟩
    · exact serviceFollows_stays (same.trans (congrArg FeederRecord.inService own.symm))
  -- The earth settings (R123).
  · intro good
    refine ⟨fun bad => ?_, fun fits => ⟨_, ?_, fun m => earthModes_index e m⟩⟩
    · exact earthSettings_refused (earthSettings_bad fun ⟨⟨a, b, c, d, x, y, z⟩, modes⟩ =>
        bad ⟨a, b, c, d, x, y, z, modes⟩)
    · obtain ⟨a, b, c, d, x, y, z, modes⟩ := fits
      exact earthSettings_stored (earthSettings_good ⟨a, b, c, d, x, y, z⟩ modes)
  -- The hunt order (R124).
  · intro listed good
    refine ⟨fun bad => ?_, fun ⟨short, low, once⟩ => ?_⟩
    · exact huntOrder_refused (huntOrder_bad bad)
    · obtain ⟨order, known⟩ := slotsOfBytes_known listed low
      have names := (slotsOfBytes_eq_some _ _).1 known
      exact ⟨order, names, huntOrder_stored (huntOrder_good short names once)⟩
  -- The declaration entries (R153, R154).
  · intro level good
    refine ⟨fun bad => ?_, fun ⟨district, start, stop, before, _⟩ cancel => ?_,
      fun d ⟨_, start, stop, before, levels⟩ puts district => ?_⟩
    · rw [Table.store, writeDeclaration, declarationWrite_bad bad]
    · obtain ⟨d, named⟩ := declaration_good district
      refine declaration_cancelled i named ((declarationWrite_fits named start stop before).trans ?_)
      rw [show nat8At e 3 = 255 from cancel]
      rfl
    · rw [declarationWrite_fits district start stop before]
      rcases levels with season | ban | cancel
      · rw [show level = 1 from season, show nat8At e 3 = 1 from season]
        rfl
      · rw [show level = 2 from ban, show nat8At e 3 = 2 from ban]
        rfl
      · exact absurd cancel puts
  -- A declaration put (R154).
  · intro held
    rw [declaration_put put]
    refine ⟨fun unheld full => ?_, fun fits =>
      ⟨insertDeclaration d s.mdu.declarations, ?_, insertDeclaration_self d _, fun sound x => ?_⟩⟩
    · rw [if_pos ⟨Bool.eq_false_iff.2 fun h => unheld ((held_iff _ _).1 h), full⟩]
    · refine if_neg fun ⟨unheld, full⟩ => ?_
      rcases fits with known | room
      · exact absurd ((held_iff _ _).2 known) (by rw [unheld]; exact Bool.false_ne_true)
      · exact Nat.not_le.2 room full
    · obtain ⟨_, _, sorted⟩ := sound
      rw [mem_insertDeclaration_iff d x _ sorted, ← sameKey_iff, Bool.not_eq_true]

end Sys2Proof.Machine
end
